-- ==== Sys2Proof/Word.lean ====
section
/-! DEFINITION. The values that commands and state are made of: bytes, frame numbers, positions, and the names the manual
gives to timing states, release reasons and the contents of house line messages. -/

namespace Sys2Proof

/-- One byte of a record, message, cell or image (R176). -/
abbrev Byte := BitVec 8

/-- A frame number or a stamp: a 32-bit count of house frames that wraps (00, Conventions). -/
abbrev FrameNo := BitVec 32

/-- A (carrier, slot) pair, the unit of radio capacity (00, Conventions; R178: carrier × 8 + slot in one byte). -/
structure Position where
  carrier : Fin 8
  slot : Fin 8
deriving DecidableEq, Repr

/-- A position and its stamp: a holding (R139), or a pending claim as ANNOUNCE carries it (R113). -/
structure Stamped where
  position : Position
  stamp : FrameNo
deriving DecidableEq, Repr

/-- The four timing states (06, section 6.5; R178 gives their codes). -/
inductive TimingState where
  | listen | pace | acquire | locked
deriving DecidableEq, Repr

/-- The reason a RELEASE carries (R113, R178). -/
inductive ReleaseReason where
  | demand | evicted
deriving DecidableEq, Repr

/-- What the common part of a house line message says of its sender (R113): number, frame number and phase read at the
message's start mark, and timing state. -/
structure Sender where
  number : Nat
  frame : FrameNo
  phase : Nat
  timing : TimingState
deriving DecidableEq, Repr

/-- The fields ANNOUNCE adds to the common part (R113). The neighbour set is a bit field: bit n − 1 stands for station n
(R176). -/
structure AnnounceFields where
  neighbours : BitVec 32
  demand : Nat
  holdings : List Stamped
  claim : Option Stamped
deriving DecidableEq, Repr

/-- The kind-specific part of a house line message, complete (R113, R178). -/
inductive MessageContent where
  | object (position : Position) (stamp : FrameNo) (claimant : Nat)
  | release (position : Position) (reason : ReleaseReason)
  | claim (position : Position) (stamp : FrameNo)
  | announce (fields : AnnounceFields)
deriving DecidableEq, Repr

end Sys2Proof
end

