-- ==== Sys2Proof/Config.lean ====
section
/-! DEFINITION. The numbers the manual fixes for every station, and the values it leaves open, which are opaque. (The
configuration image of one station is state: it is read at each cold start, R169.) -/

namespace Sys2Proof

/-- The largest show time, 2,147,483,647 ms (00, Conventions; R8). -/
def Config.maxShowTime : Nat := 2147483647

/-- A counter stops here (00, Conventions). -/
def Config.counterMax : Nat := 65535

/-- Caption cue entries (R21). -/
def Config.maxCues : Nat := 256

/-- Clear list items (R22). -/
def Config.maxClears : Nat := 32

/-- Entries of one caption track SHOWING at a time (R29). -/
def Config.showingCap : Nat := 3

/-- Frames from a sent start or refresh to the next refresh (R31). -/
def Config.refreshFrames : FrameNo := 25

/-- Frames after which an owed start is late (R30). -/
def Config.lateFrames : Nat := 5

/-- Show time for which SPENT cues and clips are kept after their end (R27, R52). -/
def Config.retention : Nat := 30000

/-- Clip table entries (R47). -/
def Config.maxClips : Nat := 64

/-- Pages of clip memory (R43). -/
def Config.pages : Nat := 128

/-- Blocks in one page (R43). -/
def Config.pageBlocks : Nat := 64

/-- Bytes in one block (00, Cells, bursts and blocks). -/
def Config.blockBytes : Nat := 32

/-- Blocks that must remain for a late clip to be played (R50, R52). -/
def Config.lateBlocks : Nat := 10

/-- Cells in one burst (R63). -/
def Config.burstCells : Nat := 6

/-- Roster entries (R82). -/
def Config.maxRoster : Nat := 48

/-- Acknowledgement queue (R92). -/
def Config.maxAcks : Nat := 16

/-- Second counts without renewal after which a roster entry expires (R89). -/
def Config.rosterSeconds : Nat := 60

/-- House line outbound queue (R115). -/
def Config.maxMessages : Nat := 6

/-- Frames of a claim's window (R144). -/
def Config.claimWindow : FrameNo := 13

/-- Frames of silence after which a peer record is removed (R134). -/
def Config.peerFrames : Nat := 150

/-- Frames LISTEN lasts (R172). -/
def Config.listenFrames : Nat := 150

/-- Show link receive queue (R161). -/
def Config.maxRecords : Nat := 8

/-- Entries at which the hold line is asserted (R161). -/
def Config.holdThreshold : Nat := 7

/-- Show link outbound queue (R164). -/
def Config.maxOutbound : Nat := 4

/-- Largest body of any record kind (R179). -/
def Config.maxBody : Nat := 261

/-- FREE VALUE (DESIGN CHOICE, log 13). R42 defines the expected index of a clip only where its start lies at or before
show time; after a small correction backward (R11) R50, R52 and R54 read it for a clip whose start lies ahead. What they
find there the manual does not state. -/
opaque Config.expectedIndexBeforeStart (start t : Nat) : Int

/-- FREE VALUE (DESIGN CHOICE, log 14). R128 keeps a position that an ANNOUNCE lists twice under the older of its two
stamps; of two stamps exactly 2^31 apart neither is older (00, Conventions), and the manual does not say which is kept. -/
opaque Config.keepsFirstOfOpposite (a b : FrameNo) : Bool

end Sys2Proof
end

