-- ==== Sys2Proof/Syntax.lean ====
section
/-! DEFINITION. The commands of the station: one constructor for each row of spec/opcode_table.json, in the table's order.
Every command carries dt, the microseconds of local reference time that passed since the command before it (log 1). The
records of the show link (SHOW LOAD to EVENT ACK) carry nothing else: their owner takes them from the head of the receive
queue (R163, log 7). -/

namespace Sys2Proof

/-- The operations and events of the station (spec/opcode_table.json). -/
inductive Instr where
  /-- POWER_ON (R168): the supply rises above 3.0 V. -/
  | powerOn (dt : Nat)
  /-- RESTART_LINE (R168): the restart line is asserted; width is how long, in µs, at the moment of the command. -/
  | restartLine (dt width : Nat)
  /-- CONFIG_READ_COMPLETE (R170): the SPI read is complete; image is the 10 bytes read. -/
  | configReadComplete (dt : Nat) (image : List Byte)
  /-- FRAME_BOUNDARY (R100): the frame timer ends a frame; releaseFirst says whether the position manager's releases are
  taken before the composition at this boundary (R79 leaves both orders open). -/
  | frameBoundary (dt : Nat) (releaseFirst : Bool)
  /-- CLAIM_WINDOW_END (R144). -/
  | claimWindowEnd (dt : Nat)
  /-- HOLD_DOWN_RELEASE (R152). -/
  | holdDownRelease (dt : Nat)
  /-- STARVED (R154). -/
  | starved (dt : Nat)
  /-- ROSTER_EXPIRY (R89). -/
  | rosterExpiry (dt : Nat)
  /-- PEER_RECORD_EXPIRY (R134) of the record of one station. -/
  | peerRecordExpiry (dt station : Nat)
  /-- PEER_CLAIM_PASSED (R133) in the record of one station. -/
  | peerClaimPassed (dt station : Nat)
  /-- OBJECT_WINDOW_PASSED (R117). -/
  | objectWindowPassed (dt : Nat)
  /-- LISTEN_END (R173). -/
  | listenEnd (dt : Nat)
  /-- ADOPTION (R109); releaseFirst as for FRAME_BOUNDARY, for an adoption that issues a boundary. -/
  | adoption (dt : Nat) (releaseFirst : Bool)
  /-- BURST_START (R76). -/
  | burstStart (dt : Nat)
  /-- BURST_SENT (R72). -/
  | burstSent (dt : Nat)
  /-- SLOT_END (R75). -/
  | slotEnd (dt : Nat)
  /-- LOCK_ASSERTED (R74). -/
  | lockAsserted (dt : Nat)
  /-- LOCK_DROPPED (R74). -/
  | lockDropped (dt : Nat)
  /-- GARBLED_REPLY (R77): the reply's bytes from its kind to its check, and whether it ended within the gap. -/
  | garbledReply (dt : Nat) (reply : List Byte) (inGap : Bool)
  /-- JOIN (R85, R181). -/
  | join (dt : Nat) (receiver : BitVec 32) (auditorium : Nat) (session : BitVec 32) (ticketClass track : Nat)
  /-- RENEW (R87, R181). -/
  | renew (dt : Nat) (receiver : BitVec 32)
  /-- LEAVE (R88, R181). -/
  | leave (dt : Nat) (receiver : BitVec 32)
  /-- HOUSE_LINE_RECEIVE_START (R112). -/
  | houseLineReceiveStart (dt : Nat)
  /-- ANNOUNCE (R129), received whole. -/
  | announce (dt : Nat) (sender : Sender) (fields : AnnounceFields)
  /-- CLAIM (R130), received whole. -/
  | claim (dt : Nat) (sender : Sender) (position : Position) (stamp : FrameNo)
  /-- OBJECT (R131), received whole. -/
  | object (dt : Nat) (sender : Sender) (position : Position) (stamp : FrameNo) (claimant : Nat)
  /-- RELEASE (R132), received whole. -/
  | release (dt : Nat) (sender : Sender) (position : Position) (reason : ReleaseReason)
  /-- BAD_MESSAGE (R122): the message's bytes as far as they came, and whether it broke off. -/
  | badMessage (dt : Nat) (message : List Byte) (brokeOff : Bool)
  /-- MESSAGE_START (R118). -/
  | messageStart (dt : Nat)
  /-- MESSAGE_COMPLETE (R119). -/
  | messageComplete (dt : Nat)
  /-- LINE_CONFLICT (R119). -/
  | lineConflict (dt : Nat)
  /-- IDLE_WAIT_END (R159). -/
  | idleWaitEnd (dt : Nat)
  /-- RECORD_COMPLETE (R160): all the record's bytes after its start mark. -/
  | recordComplete (dt : Nat) (record : List Byte)
  /-- RECORD_GAP (R159): the bytes gathered before the gap. -/
  | recordGap (dt : Nat) (gathered : List Byte)
  /-- RECORD_BROKEN (R159): the bytes gathered, and whether a framing error broke the record (else its length did). -/
  | recordBroken (dt : Nat) (gathered : List Byte) (framingError : Bool)
  /-- OUTBOUND_RECORD_SENT (R164). -/
  | outboundRecordSent (dt : Nat)
  /-- SHOW_LOAD (R4). -/
  | showLoad (dt : Nat)
  /-- SHOW_END (R5). -/
  | showEnd (dt : Nat)
  /-- SHOW_CLEAR (R7). -/
  | showClear (dt : Nat)
  /-- MARK (R9). -/
  | mark (dt : Nat)
  /-- TABLE_LOAD (R17). -/
  | tableLoad (dt : Nat)
  /-- CUE (R23). -/
  | cue (dt : Nat)
  /-- CUE_CANCEL (R26). -/
  | cueCancel (dt : Nat)
  /-- CLIP_HEAD (R46). -/
  | clipHead (dt : Nat)
  /-- CLIP_DATA (R49). -/
  | clipData (dt : Nat)
  /-- CLIP_CANCEL (R51). -/
  | clipCancel (dt : Nat)
  /-- EVENT_ACK (R166). -/
  | eventAck (dt : Nat)
  /-- ENDED_TIMER_EXPIRY (R6). -/
  | endedTimerExpiry (dt : Nat)
  /-- MARKS_LOST (R15). -/
  | marksLost (dt : Nat)
  /-- FROZEN (R16). -/
  | frozen (dt : Nat)
  /-- POWER_LOSS (R168): the supply falls below 2.9 V. -/
  | powerLoss (dt : Nat)
  /-- RESTART_LINE_RELEASED (R168). -/
  | restartLineReleased (dt : Nat)
  /-- RECORD_START_MARK (R159). -/
  | recordStartMark (dt : Nat)
  /-- IDLE_WAIT_BYTE (R159). -/
  | idleWaitByte (dt : Nat)
  /-- START_MARK_HEARD (R112). -/
  | startMarkHeard (dt : Nat)
deriving DecidableEq, Repr

end Sys2Proof
end

