-- ==== Sys2Proof/Decode.lean ====
section
/-! DEFINITION. The station has no instruction words: no row of spec/opcode_table.json gives bits (98_reader.md counts 0 rows
with fixed bits), so no word spells a command. The layouts of records, messages, cells and the image (12) are in
Machine/Operands.lean. -/

namespace Sys2Proof

/-- The command that a word spells by the table's bits: none, since no row gives bits. -/
def decodeTableWord (_nbits _w : Nat) : Option Instr := none

end Sys2Proof
end

