-- ==== Sys2Proof/Machine/State.lean ====
section
/-! DEFINITION. Everything the station holds, block by block (00, Block overview), its value at cold start, and the ways a
step can stop. Plain data: two states can be compared and a state can be written out. -/

namespace Sys2Proof.Machine

/-! ## Shapes used by several blocks -/

/-- One of a fixed four things, one for each stream engine 0 to 3 (R3, R44). -/
structure PerEngine (α : Type) where
  e0 : α
  e1 : α
  e2 : α
  e3 : α
deriving DecidableEq, Repr

/-- One number for each track number 1 to 8 (R90, R139). -/
structure PerTrack where
  t1 : Nat
  t2 : Nat
  t3 : Nat
  t4 : Nat
  t5 : Nat
  t6 : Nat
  t7 : Nat
  t8 : Nat
deriving DecidableEq, Repr

/-- The same thing for every engine. -/
def PerEngine.all {α : Type} (a : α) : PerEngine α := { e0 := a, e1 := a, e2 := a, e3 := a }

/-- All eight counts 0. -/
def PerTrack.zero : PerTrack := { t1 := 0, t2 := 0, t3 := 0, t4 := 0, t5 := 0, t6 := 0, t7 := 0, t8 := 0 }

/-! ## Configuration loader (11) -/

/-- The five station states (11). -/
inductive StationState where
  | configRead | configFault | listen | joined | duplicateFault
deriving DecidableEq, Repr

/-- The configuration image (R169, R182). Carrier n is bit n; station n is bit n − 1 of the neighbour set (R176). -/
structure ConfigImage where
  number : Nat
  carriers : BitVec 8
  neighbours : BitVec 32
  maxHoldings : Nat
  outputLevel : Nat
deriving DecidableEq, Repr

/-- The configuration loader's state, the two input pins that cause a cold start, and the fault line. -/
structure Loader where
  station : StationState
  /-- absent until CONFIG READ has found a good image -/
  config : Option ConfigImage
  supplyUp : Bool
  restartAsserted : Bool
  faultLine : Bool
deriving DecidableEq, Repr

/-! ## Timing unit (06) -/

/-- The anchor of the timing unit's rate gate (R102). -/
structure FrameAnchor where
  offset : Int
  frame : FrameNo
deriving DecidableEq, Repr

/-- A pending step or restep and how far it has come (R98, R108, R110). The Held forms were decided at a boundary whose
own FRAME_BOUNDARY is still to be taken; the boundary they wait for is the one after it (log 12). -/
inductive PendingChange where
  | none
  | stepHeld
  | step
  | restepHeld
  | restep
  /-- the silent frame is running; its end is the adoption -/
  | restepSilent
deriving DecidableEq, Repr

/-- The timing unit (R98). frameElapsed and frameLength count fiftieths of a microsecond, so that a frame trimmed by a whole
number of ppm has a whole length (R99). -/
structure Timing where
  /-- local reference time, µs since cold start -/
  localTime : Nat
  /-- the frame timer runs -/
  running : Bool
  frameNumber : FrameNo
  frameElapsed : Nat
  frameLength : Nat
  trim : Int
  state : TimingState
  followed : Option Nat
  gate : Option FrameAnchor
  lockCount : Nat
  change : PendingChange
  /-- a boundary has been issued at this very instant: no time has passed since (log 5) -/
  boundaryOpen : Bool
deriving DecidableEq, Repr

/-! ## House line controller (07) -/

/-- A message as it waits: an ANNOUNCE has no content until its start mark (R114); an OBJECT carries the window end of the
claim it answers (R115). -/
inductive WaitingBody where
  | object (position : Position) (stamp : FrameNo) (claimant : Nat) (windowEnd : FrameNo)
  | release (position : Position) (reason : ReleaseReason)
  | claim (position : Position) (stamp : FrameNo)
  | announce
deriving DecidableEq, Repr

/-- A waiting message with its conflict count and its place in the order of arrival (R115). -/
structure Waiting where
  body : WaitingBody
  conflicts : Nat
  arrival : Nat
deriving DecidableEq, Repr

/-- The message in transmission: the waiting message it was, and the fields read at its start mark (R114). -/
structure Sending where
  waiting : Waiting
  sender : Sender
  content : MessageContent
deriving DecidableEq, Repr

/-- The house line controller (R112, R115). -/
structure HouseLine where
  queue : List Waiting
  sending : Option Sending
  /-- the controller has seen 9 released bits and takes start marks -/
  receiving : Bool
  busy : Bool
  /-- µs since the line last became quiet; two of them make one bit time -/
  quietMicros : Nat
  /-- own frame number at the last start mark -/
  heardFrame : FrameNo
  /-- own phase at the last start mark -/
  heardPhase : Nat
  /-- this station stopped its own transmission at a conflict, and the message on the line has not yet ended -/
  ownConflict : Bool
  nextArrival : Nat
  lineConflict : Nat
  dropped : Nat
  bad : Nat
deriving DecidableEq, Repr

/-! ## Peer table (08) -/

/-- A peer's pending claim; the window end is in the station's own numbering (R125, R129). -/
structure PeerClaim where
  position : Position
  stamp : FrameNo
  windowEnd : FrameNo
deriving DecidableEq, Repr

/-- One peer record (R125). -/
structure PeerRecord where
  number : Nat
  neighbours : BitVec 32
  timing : TimingState
  offset : Int
  frameDiff : FrameNo
  lastHeard : FrameNo
  stale : Bool
  /-- in the order in which they were added (R128) -/
  holdings : List Stamped
  claim : Option PeerClaim
deriving DecidableEq, Repr

/-! ## Position manager (09) -/

/-- The position manager (R139). -/
structure PositionManager where
  holdings : List Stamped
  claim : Option Stamped
  demand : Nat
  /-- listener counts as last reported -/
  counts : PerTrack
  claimRest : Bool
  holdDown : Nat
  starvation : Nat
  starved : Bool
  evictions : Nat
  abandoned : Nat
  /-- the steps of R156 for the boundary now reached were taken before its FRAME_BOUNDARY (log 6) -/
  stepsTaken : Bool
  /-- step 4 of R156 waits for CLAIM_WINDOW_END (log 6) -/
  tickOwed : Bool
deriving DecidableEq, Repr

/-! ## Show link port (10) -/

/-- The receiver's framing state (R159), or that it does not receive (R167). -/
inductive Framing where
  | notReceiving | idleWait | hunt | inRecord
deriving DecidableEq, Repr

/-- One entry of the track list of a SHOW LOAD record, as its bytes carry it (R179). -/
structure TrackEntry where
  number : Nat
  kind : Nat
  language : List Byte
  requiredClass : Nat
  table : Nat
  carryAlways : Bool
deriving DecidableEq, Repr

/-- A well-formed inward record (R163, R179), its fields as carried; the owner judges their ranges. -/
inductive Record where
  | showLoad (session : BitVec 32) (time : Nat) (tracks : List TrackEntry)
  | showEnd
  | showClear
  | mark (time : Nat) (running : Bool)
  | tableLoad (table first : Nat) (values : List Byte)
  | cue (track start stop region : Nat) (italic speakerChange : Bool) (text : List Byte)
  | cueCancel (track start : Nat)
  | clipHead (id track start length : Nat)
  | clipData (id first : Nat) (blocks : List (List Byte))
  | clipCancel (id : Nat)
  | eventAck (events : BitVec 16)
deriving DecidableEq, Repr

/-- The reasons of a REFUSAL (R162). -/
inductive Reason where
  | badCheck | badLength | unknownKind | wrongState | badField | queueFull | noRoom | unknownClip | duplicate | noTrack
  | tooLate
deriving DecidableEq, Repr

/-- The contents of a REFUSAL (R162). -/
structure RefusalRecord where
  kind : Option Byte
  reason : Reason
  /-- track and start of a refused CUE or CUE CANCEL -/
  cue : Option (Nat × Nat)
  /-- clip id of a refused CLIP HEAD, CLIP DATA or CLIP CANCEL -/
  clip : Option Nat
deriving DecidableEq, Repr

/-- An outward record as it waits: a STATUS is read only when it becomes the record in transmission (R164). -/
inductive Outbound where
  | status
  | refusal (contents : RefusalRecord)
deriving DecidableEq, Repr

/-- The seven show states (01, section 1.1). -/
inductive ShowState where
  | noShow | ready | running | paused | coasting | frozen | ended
deriving DecidableEq, Repr

/-- The contents of a STATUS (R165); the nineteen counters stand in the order of its counter table. -/
structure StatusReport where
  station : StationState
  timing : TimingState
  show_ : ShowState
  showTime : Nat
  holdings : List Stamped
  demand : Nat
  listeners : PerTrack
  events : BitVec 16
  counters : List Nat
deriving DecidableEq, Repr

/-- The record in transmission (R164). -/
inductive SendingRecord where
  | status (report : StatusReport)
  | refusal (contents : RefusalRecord)
deriving DecidableEq, Repr

/-- The show link port (10). -/
structure ShowLink where
  framing : Framing
  /-- µs without a byte in IDLE WAIT, and since the start mark in IN RECORD -/
  idleMicros : Nat
  rxQueue : List Record
  holdLine : Bool
  outQueue : List Outbound
  sending : Option SendingRecord
  /-- bit n stands for the event n of R166's order (R179) -/
  events : BitVec 16
  overrun : Nat
  refusalsDropped : Nat
deriving DecidableEq, Repr

/-! ## Show control (01) -/

inductive TrackKind where
  | caption | description
deriving DecidableEq, Repr

/-- One record of the track table (R2). -/
structure Track where
  number : Nat
  kind : TrackKind
  language : List Byte
  requiredClass : Nat
  table : Nat
  carryAlways : Bool
deriving DecidableEq, Repr

/-- The rate of the show clock as an exact quotient (R8, R14): num ms of film in den ms of local reference time. -/
structure Rate where
  num : Nat
  den : Nat
deriving DecidableEq, Repr

/-- The anchor of show control's rate gate (R14): show time in ms, local reference time in µs. -/
structure ShowAnchor where
  showTime : Nat
  localTime : Nat
deriving DecidableEq, Repr

/-- Show control (R1). -/
structure ShowControl where
  state : ShowState
  session : Option (BitVec 32)
  /-- in ascending track number (R2) -/
  tracks : List Track
  /-- the description track each engine serves (R3) -/
  binding : PerEngine (Option Nat)
  /-- whole milliseconds of the show clock -/
  clock : Nat
  /-- the fraction of a millisecond, in units of 1 / (1000 × rate.den) ms (R8) -/
  fraction : Nat
  rate : Rate
  gate : Option ShowAnchor
  /-- µs since the last taken MARK, or stopped (R15) -/
  markLoss : Option Nat
  /-- µs left of the 120 s, or stopped (R5) -/
  endedTimer : Option Nat
  /-- translation tables: cells at table × 256 + entry that differ from the identity (R17) -/
  tables : List Host.Cell
  jumps : Nat
  rateRejects : Nat
deriving DecidableEq, Repr

/-! ## Cue queue (02) -/

inductive CueState where
  | waiting | showing | spent
deriving DecidableEq, Repr

/-- One cue (R20). -/
structure Cue where
  track : Nat
  start : Nat
  stop : Nat
  region : Nat
  italic : Bool
  speakerChange : Bool
  text : List Byte
  state : CueState
  everShown : Bool
  startedFrame : Option FrameNo
  refreshDue : Option FrameNo
  lateNoted : Bool
  /-- changed since build -/
  changed : Bool
deriving DecidableEq, Repr

/-- One item of the clear list (R22), with the serial number that tells it from a later item of the same cue (log 22). -/
structure ClearItem where
  track : Nat
  start : Nat
  region : Nat
  serial : Nat
deriving DecidableEq, Repr

/-- The cue queue (R21, R22). -/
structure CueQueue where
  /-- in queue order: by start, then by track (R21) -/
  entries : List Cue
  clears : List ClearItem
  nextSerial : Nat
  /-- how often the queue has been emptied by a new show or cleared signal (R40, log 22) -/
  generation : Nat
  lateCue : Nat
  skippedCue : Nat
deriving DecidableEq, Repr

/-! ## Clip store (03) -/

inductive ClipState where
  | loading | ready | late | playing | spent
deriving DecidableEq, Repr

/-- One clip (R42). -/
structure Clip where
  id : Nat
  track : Nat
  start : Nat
  length : Nat
  pages : List Nat
  /-- the loaded flag of each block -/
  loaded : List Bool
  state : ClipState
  everPlayed : Bool
deriving DecidableEq, Repr

/-- An engine's current part: a clip id and a block index (R44). -/
structure Current where
  clip : Nat
  index : Nat
deriving DecidableEq, Repr

/-- A stream engine (R44). -/
structure Engine where
  current : Option Current
  /-- the id of the next clip -/
  next : Option Nat
deriving DecidableEq, Repr

/-- The clip store (R43). -/
structure ClipStore where
  clips : List Clip
  /-- cells at (page × 64 + place) × 32 + byte that are not 0 (R43, log 20) -/
  memory : List Host.Cell
  engines : PerEngine Engine
  skipped : Nat
  overlap : Nat
  slip : Nat
deriving DecidableEq, Repr

/-! ## Frame composer and radio port (04) -/

/-- Results of a reply (R84). -/
inductive JoinResult where
  | granted | wrongRoom | noShow | badSession | noTrack | classLow | rosterFull | renewed | left | unknownReceiver
deriving DecidableEq, Repr

/-- An acknowledgement (R92). -/
structure Ack where
  receiver : BitVec 32
  result : JoinResult
deriving DecidableEq, Repr

/-- One cell of a burst with the fields it carries (R66 to R71, R33); Machine/Operands.lean gives its bytes (R180). -/
inductive Cell where
  | fill
  | beacon (number : Nat) (state : ShowState) (session : Option (BitVec 32)) (showTime : Nat) (held : List Position)
      (frame : BitVec 16)
  | directory (tracks : List Track)
  | audio (track : Nat) (block : List Byte)
  | ack (acks : List Ack)
  | captionHead (refresh : Bool) (track start duration region : Nat) (italic speakerChange : Bool) (codes : Nat)
  | captionText (track start sequence : Nat) (codes : List Byte)
  | captionClear (track start region : Nat)
deriving DecidableEq, Repr

/-- The progress of a planned burst (R63). -/
inductive Progress where
  | planned | sending | sent | skipped | cancelled | cut
deriving DecidableEq, Repr

/-- A planned burst (R63). -/
structure Burst where
  position : Position
  cells : List Cell
  beacon : Bool
  progress : Progress
deriving DecidableEq, Repr

/-- The plan's record of one start or refresh placed in it (R63): the bursts that carry its cells, those of them whose
outcome is still open, and the region its cells carried (R34). -/
structure PlacedItem where
  track : Nat
  start : Nat
  region : Nat
  bursts : List Position
  open_ : List Position
  generation : Nat
deriving DecidableEq, Repr

/-- The plan's record of one clear placed in it: its burst, and the clear list item it was built from (R35). -/
structure PlacedClear where
  burst : Position
  serial : Nat
deriving DecidableEq, Repr

/-- The frame composer: the burst plan (R63) and the audio underrun counter. -/
structure Composer where
  bursts : List Burst
  items : List PlacedItem
  clears : List PlacedClear
  underrun : Nat
deriving DecidableEq, Repr

/-- What the radio port is doing in the slot of the burst last started (R72, R75, R77). -/
inductive Activity where
  | idle
  | sending
  /-- listening in the reply gap -/
  | gap
  /-- in the reply gap, whose one reply has been taken -/
  | gapDone
  /-- in the slot of a SKIPPED burst -/
  | skipped
deriving DecidableEq, Repr

/-- What the port puts on the air: the carrier it is tuned to, the output level, and the 209 bytes of the burst (R72, R180). -/
structure Transmission where
  carrier : Option (Fin 8)
  level : Nat
  bytes : List Byte
deriving DecidableEq, Repr

/-- The radio port (R74). -/
structure RadioPort where
  tuned : Option (Fin 8)
  /-- lock-confirm state: clear, or the locked-since instant in µs of local reference time -/
  lockedSince : Option Nat
  /-- the front end's lock indicator, an input pin -/
  lockIndicator : Bool
  activity : Activity
  /-- the burst that goes out, absent while none does (R72) -/
  onAir : Option Transmission
  lockSkip : Nat
  garbled : Nat
deriving DecidableEq, Repr

/-! ## Roster unit (05) -/

/-- A roster entry (R82). -/
structure RosterEntry where
  receiver : BitVec 32
  track : Nat
  lastRenewed : BitVec 32
deriving DecidableEq, Repr

/-- The roster unit (R82). -/
structure Roster where
  entries : List RosterEntry
  acks : List Ack
  secondCount : BitVec 32
  ackLost : Nat
  joinRefusals : Nat
deriving DecidableEq, Repr

/-! ## The station -/

/-- The whole station. -/
structure State where
  /-- the commands that wait, first in, first out -/
  pending : List Instr
  loader : Loader
  timing : Timing
  line : HouseLine
  /-- peer table, in ascending station number (R125) -/
  peers : List PeerRecord
  pm : PositionManager
  link : ShowLink
  show_ : ShowControl
  cues : CueQueue
  clips : ClipStore
  plan : Composer
  radio : RadioPort
  roster : Roster
deriving DecidableEq, Repr

/-! ## Cold start, block by block -/

/-- Loader at the start of CONFIG READ (R168, R170, R175). The two pins are log 18. -/
def Loader.reset : Loader :=
  { station := .configRead, config := none, supplyUp := true, restartAsserted := false, faultLine := false }

/-- R98. -/
def Timing.reset : Timing :=
  { localTime := 0, running := false, frameNumber := 0, frameElapsed := 0, frameLength := 1000000, trim := 0,
    state := .listen, followed := none, gate := none, lockCount := 0, change := .none,
    boundaryOpen := false }

/-- R115; busy, quietMicros, heardFrame, heardPhase and ownConflict are log 27. -/
def HouseLine.reset : HouseLine :=
  { queue := [], sending := none, receiving := false, busy := false, quietMicros := 0, heardFrame := 0, heardPhase := 0,
    ownConflict := false, nextArrival := 0, lineConflict := 0, dropped := 0, bad := 0 }

/-- R139. -/
def PositionManager.reset : PositionManager :=
  { holdings := [], claim := none, demand := 0, counts := .zero, claimRest := false, holdDown := 0, starvation := 0,
    starved := false, evictions := 0, abandoned := 0, stepsTaken := false, tickOwed := false }

/-- R161, R164, R166, R167. -/
def ShowLink.reset : ShowLink :=
  { framing := .notReceiving, idleMicros := 0, rxQueue := [], holdLine := true, outQueue := [], sending := none,
    events := 0, overrun := 0, refusalsDropped := 0 }

/-- R1. -/
def ShowControl.reset : ShowControl :=
  { state := .noShow, session := none, tracks := [], binding := .all none, clock := 0, fraction := 0,
    rate := { num := 1, den := 1 }, gate := none, markLoss := none, endedTimer := none, tables := [], jumps := 0,
    rateRejects := 0 }

/-- R21, R22. -/
def CueQueue.reset : CueQueue :=
  { entries := [], clears := [], nextSerial := 0, generation := 0, lateCue := 0, skippedCue := 0 }

/-- R43. -/
def ClipStore.reset : ClipStore :=
  { clips := [], memory := [], engines := .all { current := none, next := none }, skipped := 0, overlap := 0, slip := 0 }

/-- R63. -/
def Composer.reset : Composer := { bursts := [], items := [], clears := [], underrun := 0 }

/-- R74; the lock indicator is log 18, activity log 27. -/
def RadioPort.reset : RadioPort :=
  { tuned := none, lockedSince := none, lockIndicator := false, activity := .idle, onAir := none, lockSkip := 0
    garbled := 0 }

/-- R82. -/
def Roster.reset : Roster := { entries := [], acks := [], secondCount := 0, ackLost := 0, joinRefusals := 0 }

/-- The station right after cold start, at the beginning of CONFIG READ (R168). -/
def State.reset : State :=
  { pending := [], loader := .reset, timing := .reset, line := .reset, peers := [], pm := .reset, link := .reset,
    show_ := .reset, cues := .reset, clips := .reset, plan := .reset, radio := .reset, roster := .reset }

/-! ## How a step can stop -/

/-- No event stops the station: the manual gives every one an outcome (CONFIG FAULT and DUPLICATE FAULT are station states).
So there is no fault, and no constructor. -/
inductive Fault where
deriving DecidableEq, Repr

/-- The one way a command can be turned away by the model. -/
inductive Refusal where
  /-- Raised by an arm of exec whose command has no meaning yet; no arm is left so. Safe: the model stops where the station
  goes on. -/
  | notModelled (mnemonic : String)
deriving DecidableEq, Repr

end Sys2Proof.Machine
end

