-- ==== Sys2Proof/Machine/Ops.lean ====
section
/-! DEFINITION. The operations that the blocks share: addressed stores, counters, stamp order, ordered lists, the four
engines and eight tracks, and the passing of local reference time. -/

namespace Sys2Proof.Machine

/-! ## Addressed stores: clip memory (R43) and translation tables (R17)

A store is a list of (address, byte) with strictly rising addresses and no entry equal to d, what an unlisted address reads
as. -/

/-- The byte at an address. -/
def Memory.read (d : Nat → Byte) : List Host.Cell → Nat → Byte
  | [], a => d a
  | (k, b) :: rest, a => if k = a then b else Memory.read d rest a

/-- The store after one byte is written; writing what an unlisted address reads as removes the entry. -/
def Memory.write (d : Nat → Byte) : List Host.Cell → Nat → Byte → List Host.Cell
  | [], a, v => if v = d a then [] else [(a, v)]
  | (k, b) :: rest, a, v =>
    if a < k then (if v = d a then (k, b) :: rest else (a, v) :: (k, b) :: rest)
    else if a = k then (if v = d a then rest else (a, v) :: rest)
    else (k, b) :: Memory.write d rest a v

/-- The bytes of a run, written at consecutive addresses in order. -/
def Memory.writeRun (d : Nat → Byte) (m : List Host.Cell) (a : Nat) : List Byte → List Host.Cell
  | [] => m
  | v :: vs => Memory.writeRun d (Memory.write d m a v) (a + 1) vs

/-- The n bytes from an address on. -/
def Memory.readRun (d : Nat → Byte) (m : List Host.Cell) (a : Nat) : Nat → List Byte
  | 0 => []
  | n + 1 => Memory.read d m a :: Memory.readRun d m (a + 1) n

/-- The canonical form. -/
def Memory.wf (d : Nat → Byte) : List Host.Cell → Bool
  | [] => true
  | (k, b) :: rest => b != d k && rest.all (fun c => k < c.1) && Memory.wf d rest

/-- What an unlisted byte of clip memory reads as: 0 (DESIGN CHOICE, log 20; every block played was written first, R42). -/
def clipDefault (_ : Nat) : Byte := 0

/-- What an unlisted entry of the translation tables reads as: the identity of cold start (R17). -/
def tableDefault (a : Nat) : Byte := BitVec.ofNat 8 (a % 256)

/-! ## Counters -/

/-- A counter k further on; it stops at 65,535 (00, Values, counters and events). -/
def bumpBy (k c : Nat) : Nat := min Config.counterMax (c + k)

/-- A counter one further on. -/
def bump (c : Nat) : Nat := bumpBy 1 c

/-! ## Stamps (00, Time) -/

/-- a is older than b: (b − a) modulo 2^32 lies in 1 to 2^31 − 1. -/
def older (a b : FrameNo) : Bool := 1 ≤ (b - a).toNat && (b - a).toNat < 2147483648

/-- The two stamps lie exactly 2^31 apart. -/
def opposite (a b : FrameNo) : Bool := (b - a).toNat == 2147483648

/-- How far a stamp lies back from the current frame number. -/
def age (now stamp : FrameNo) : Nat := (now - stamp).toNat

/-- A due frame number has come by frame f: it is f or older than f. -/
def dueBy (f due : FrameNo) : Bool := due == f || older due f

/-- Precedence between two holders or claimants (00, Stations, carriers and positions): the older stamp; equal stamps and
stamps 2^31 apart go to the lower station number. True when the first has precedence. -/
def precedes (stampA : FrameNo) (numberA : Nat) (stampB : FrameNo) (numberB : Nat) : Bool :=
  older stampA stampB || ((stampA == stampB || opposite stampA stampB) && numberA < numberB)

/-- The boundary that begins this frame is a second tick (R100). -/
def isSecondTick (f : FrameNo) : Bool := f.toNat % 50 == 0

/-! ## Lists -/

/-- x put in front of the first element that it must not follow. -/
def insertBy {α : Type} (before : α → α → Bool) (x : α) : List α → List α
  | [] => [x]
  | y :: ys => if before y x then y :: insertBy before x ys else x :: y :: ys

/-- A list in order; equal elements keep their places. -/
def sortBy {α : Type} (before : α → α → Bool) : List α → List α
  | [] => []
  | x :: xs => insertBy before x (sortBy before xs)

/-- The element that no other one is before; the first of equals. -/
def firstBy {α : Type} (before : α → α → Bool) : List α → Option α
  | [] => none
  | x :: xs =>
    match firstBy before xs with
    | none => some x
    | some y => if before y x then some y else some x

/-! ## Engines and tracks -/

def PerEngine.get {α : Type} (v : PerEngine α) : Nat → α
  | 0 => v.e0
  | 1 => v.e1
  | 2 => v.e2
  | _ => v.e3

def PerEngine.map {α β : Type} (f : α → β) (v : PerEngine α) : PerEngine β :=
  { e0 := f v.e0, e1 := f v.e1, e2 := f v.e2, e3 := f v.e3 }

def PerEngine.zip {α β γ : Type} (f : α → β → γ) (v : PerEngine α) (w : PerEngine β) : PerEngine γ :=
  { e0 := f v.e0 w.e0, e1 := f v.e1 w.e1, e2 := f v.e2 w.e2, e3 := f v.e3 w.e3 }

def PerEngine.set {α : Type} (v : PerEngine α) (i : Nat) (a : α) : PerEngine α :=
  match i with
  | 0 => { v with e0 := a }
  | 1 => { v with e1 := a }
  | 2 => { v with e2 := a }
  | _ => { v with e3 := a }

def PerEngine.toList {α : Type} (v : PerEngine α) : List α := [v.e0, v.e1, v.e2, v.e3]

def PerTrack.ofFn (f : Nat → Nat) : PerTrack :=
  { t1 := f 1, t2 := f 2, t3 := f 3, t4 := f 4, t5 := f 5, t6 := f 6, t7 := f 7, t8 := f 8 }

/-- The number for a track; a number outside 1 to 8 has count 0 (R90). -/
def PerTrack.get (v : PerTrack) : Nat → Nat
  | 1 => v.t1
  | 2 => v.t2
  | 3 => v.t3
  | 4 => v.t4
  | 5 => v.t5
  | 6 => v.t6
  | 7 => v.t7
  | 8 => v.t8
  | _ => 0

def PerTrack.toList (v : PerTrack) : List Nat := [v.t1, v.t2, v.t3, v.t4, v.t5, v.t6, v.t7, v.t8]

/-! ## Sets carried as bit fields (R176) -/

/-- Station n is in a neighbour set. -/
def inNeighbours (set : BitVec 32) (n : Nat) : Bool := 1 ≤ n && set.getLsbD (n - 1)

/-- A neighbour set without station n (R113: ANNOUNCE leaves out the sender's own number). -/
def withoutStation (set : BitVec 32) (n : Nat) : BitVec 32 :=
  if 1 ≤ n then set &&& ~~~ (1#32 <<< (n - 1)) else set

/-! ## The configuration as the blocks read it -/

/-- Stands for the image before one has been read; no block acts then (R170, log 19). -/
def ConfigImage.blank : ConfigImage := { number := 0, carriers := 0, neighbours := 0, maxHoldings := 0, outputLevel := 0 }

/-- The configuration image in force. -/
def State.cfg (s : State) : ConfigImage := s.loader.config.getD .blank

/-- The station states after CONFIG READ has found a good image: the house line is received (R112) and the radio port follows
the lock indicator; in CONFIG FAULT every other block keeps its cold-start values (R171). -/
def StationState.receives : StationState → Bool
  | .listen => true
  | .joined => true
  | .duplicateFault => true
  | _ => false

/-- The station is held at cold start: the supply is down or the restart line asserted (R168). -/
def Loader.held (l : Loader) : Bool := !l.supplyUp || l.restartAsserted

/-! ## Time -/

/-- The length of a frame at a trim, in fiftieths of a microsecond: 20,000 × (1 − T / 1,000,000) µs (R99). -/
def frameLengthAt (trim : Int) : Nat := (1000000 - trim).toNat

/-- The phase, 0 to 19,999 µs, scaled from the trimmed length and rounded down (R99, log 9). -/
def Timing.phase (t : Timing) : Nat := min 19999 (t.frameElapsed * 20000 / t.frameLength)

/-- The running frame has lasted its length: a boundary has been reached and is still to be taken. -/
def Timing.boundaryReached (t : Timing) : Bool := t.running && t.frameLength ≤ t.frameElapsed

/-- The boundary reached is the adoption of a step or restep, and is not issued (R109). -/
def PendingChange.isAdoption : PendingChange → Bool
  | .step => true
  | .restepSilent => true
  | _ => false

/-- A boundary has been reached that will be issued, and its FRAME_BOUNDARY is still to be taken (log 5). -/
def Timing.atBoundary (t : Timing) : Bool := t.boundaryReached && !t.change.isAdoption

/-- A boundary is in hand: it has been reached and its FRAME_BOUNDARY is still to be taken, or it was issued at this very
instant (log 5). -/
def Timing.inBoundary (t : Timing) : Bool := t.atBoundary || t.boundaryOpen

/-- The number of the frame that the boundary now in hand begins: the frame after the running one while its FRAME_BOUNDARY
is still to be taken, the running frame after it (log 5). -/
def Timing.boundaryFrame (t : Timing) : FrameNo := if t.atBoundary then t.frameNumber + 1 else t.frameNumber

/-- The show clock dt µs on at the current rate, fractions kept, stopped at the largest show time (R8). -/
def ShowControl.advanceClock (dt : Nat) (c : ShowControl) : ShowControl :=
  let total := c.fraction + dt * c.rate.num
  let unit := 1000 * c.rate.den
  let clock := c.clock + total / unit
  if Config.maxShowTime ≤ clock then { c with clock := Config.maxShowTime, fraction := 0 }
  else { c with clock := clock, fraction := total % unit }

/-- Show time passes in RUNNING and COASTING alone (R8). -/
def ShowState.advances : ShowState → Bool
  | .running => true
  | .coasting => true
  | _ => false

/-- Show control dt µs on: its clock, mark-loss timer and ENDED timer (R8, R15, R5). -/
def ShowControl.advance (dt : Nat) (c : ShowControl) : ShowControl :=
  let c := if c.state.advances then c.advanceClock dt else c
  { c with markLoss := c.markLoss.map (· + dt), endedTimer := c.endedTimer.map (· - dt) }

/-- The timing unit dt µs on (R98, R99). -/
def Timing.advance (dt : Nat) (t : Timing) : Timing :=
  { t with localTime := t.localTime + dt, frameElapsed := if t.running then t.frameElapsed + 50 * dt else t.frameElapsed
           boundaryOpen := t.boundaryOpen && dt == 0 }

/-- The quiet count runs while the line is quiet (R112). -/
def HouseLine.advance (dt : Nat) (l : HouseLine) : HouseLine :=
  if l.receiving && !l.busy then { l with quietMicros := l.quietMicros + dt } else l

/-- The time since a byte runs in IDLE WAIT, since the start mark in IN RECORD (R159). -/
def ShowLink.advance (dt : Nat) (k : ShowLink) : ShowLink :=
  match k.framing with
  | .idleWait => { k with idleMicros := k.idleMicros + dt }
  | .inRecord => { k with idleMicros := k.idleMicros + dt }
  | _ => k

/-- dt µs of local reference time pass. While the station is held at cold start nothing acts (R168). -/
def advance (dt : Nat) (s : State) : State :=
  if s.loader.held then s
  else { s with timing := s.timing.advance dt, show_ := s.show_.advance dt, line := s.line.advance dt,
                link := s.link.advance dt }

end Sys2Proof.Machine
end

