-- ==== Sys2Proof/Machine/Flags.lean ====
section
/-! DEFINITION. The event set and the outbound records of the show link port, the hold line and the fault line, and the end
of every step, at which a waiting record may start to go out (R161 to R167, R175). -/

namespace Sys2Proof.Machine

/-- The ten events, in the order of R166. -/
inductive Event where
  | starved | evicted | duplicate | marksLost | frozen | jump | queueFull | clipNoRoom | lateClip | linkOverrun
deriving DecidableEq, Repr

/-- The bit of an event in the event set and in EVENT ACK (R179). -/
def Event.bit : Event → BitVec 16
  | .starved => 1
  | .evicted => 2
  | .duplicate => 4
  | .marksLost => 8
  | .frozen => 16
  | .jump => 32
  | .queueFull => 64
  | .clipNoRoom => 128
  | .lateClip => 256
  | .linkOverrun => 512

/-- The event is set. -/
def ShowLink.has (k : ShowLink) (e : Event) : Bool := k.events &&& e.bit != 0

/-! ## Outbound records (R164) -/

/-- The queue after its newest waiting REFUSAL is removed. -/
def dropNewestRefusal (q : List Outbound) : List Outbound :=
  match q.reverse with
  | [] => []
  | _ :: rest => rest.reverse

/-- A STATUS is handed to the outbound queue: it stands for a waiting one, or displaces the newest REFUSAL of a full queue. -/
def ShowLink.handStatus (k : ShowLink) : ShowLink :=
  if k.outQueue.contains .status then k
  else if k.outQueue.length < Config.maxOutbound then { k with outQueue := k.outQueue ++ [.status] }
  else { k with outQueue := dropNewestRefusal k.outQueue ++ [.status], refusalsDropped := bump k.refusalsDropped }

/-- A REFUSAL is handed to the outbound queue, or dropped and counted when 4 records wait. -/
def ShowLink.handRefusal (r : RefusalRecord) (k : ShowLink) : ShowLink :=
  if k.outQueue.length < Config.maxOutbound then { k with outQueue := k.outQueue ++ [.refusal r] }
  else { k with refusalsDropped := bump k.refusalsDropped }

/-- An event is set; a STATUS is handed over if it passes from clear to set (R165, R166). -/
def ShowLink.raise (e : Event) (k : ShowLink) : ShowLink :=
  if k.has e then k else { k with events := k.events ||| e.bit }.handStatus

def State.raise (e : Event) (s : State) : State := { s with link := s.link.raise e }

def State.refuse (r : RefusalRecord) (s : State) : State := { s with link := s.link.handRefusal r }

/-! ## STATUS (R165) -/

/-- The listener counts: for each track the number of roster entries on it (R82, R90). -/
def Roster.counts (r : Roster) : PerTrack :=
  .ofFn (fun n => (r.entries.filter (fun e => e.track == n)).length)

/-- The contents of a STATUS as they stand; the holdings in the order in which they entered (log 50). -/
def State.statusReport (s : State) : StatusReport :=
  { station := s.loader.station
    timing := s.timing.state
    show_ := s.show_.state
    showTime := s.show_.clock
    holdings := s.pm.holdings
    demand := s.pm.demand
    listeners := s.roster.counts
    events := s.link.events
    counters := [s.line.lineConflict, s.line.dropped, s.line.bad, s.pm.evictions, s.pm.abandoned, s.link.overrun,
      s.link.refusalsDropped, s.show_.jumps, s.show_.rateRejects, s.cues.lateCue, s.cues.skippedCue, s.clips.skipped,
      s.clips.overlap, s.clips.slip, s.plan.underrun, s.radio.lockSkip, s.radio.garbled, s.roster.ackLost,
      s.roster.joinRefusals] }

/-- The oldest waiting record becomes the record in transmission when the transmit side is free; a STATUS is read then
(R164). -/
def State.startOutbound (s : State) : State :=
  match s.link.sending, s.link.outQueue with
  | none, .status :: rest =>
    { s with link := { s.link with outQueue := rest, sending := some (.status s.statusReport) } }
  | none, .refusal r :: rest => { s with link := { s.link with outQueue := rest, sending := some (.refusal r) } }
  | _, _ => s

/-! ## The two output lines -/

/-- The hold line is asserted through CONFIG READ and CONFIG FAULT (R167) and while 7 or more entries of the receive queue
are occupied (R161). -/
def holdLineAt (station : StationState) (occupied : Nat) : Bool :=
  match station with
  | .configRead => true
  | .configFault => true
  | _ => Config.holdThreshold ≤ occupied

/-- The four conditions that hold the fault line (R175). -/
def faultLineAt (station : StationState) (starved : Bool) (show_ : ShowState) : Bool :=
  station == .configFault || station == .duplicateFault || starved || show_ == .frozen

/-- Both lines follow their conditions at each change (R161, R175). -/
def State.driveLines (s : State) : State :=
  { s with
    loader := { s.loader with faultLine := faultLineAt s.loader.station s.pm.starved s.show_.state }
    link := { s.link with holdLine := holdLineAt s.loader.station s.link.rxQueue.length } }

/-- The end of every step: the lines follow, and a waiting record starts if the transmit side is free (log 17). A STATUS that a
second tick hands to a free transmit side is so read at the end of FRAME_BOUNDARY, before that tick's expiries (log 45). -/
def finish (s : State) : State := s.driveLines.startOutbound

/-- One command: time passes, its effect takes place, and the step ends. -/
def run (dt : Nat) (effect : State → State) (s : State) : Host.Outcome State Fault Refusal :=
  .next (finish (effect (advance dt s)))

end Sys2Proof.Machine
end

