-- ==== Sys2Proof/WellFormed.lean ====
section
/-! DEFINITION. Which commands can reach the station at all: the ranges that the formats allow (R178, R179, R181, R182,
R183). A value outside these never arrives as that command: it arrives as BAD_MESSAGE, GARBLED_REPLY or a refused record. -/

namespace Sys2Proof

/-- A station number lies in 1 to 32 (00, Stations, carriers and positions). -/
def stationNumberOk (n : Nat) : Bool := 1 ≤ n && n ≤ 32

/-- The common part's ranges (R178). -/
def Sender.wf (s : Sender) : Bool := stationNumberOk s.number && s.phase ≤ 19999

/-- The ranges of the fields ANNOUNCE adds (R178). -/
def AnnounceFields.wf (f : AnnounceFields) : Bool := f.demand ≤ 4 && f.holdings.length ≤ 4

/-- The operand ranges of every command. -/
def Instr.wf : Instr → Bool
  | .powerOn _ => true
  | .restartLine _ _ => true
  | .configReadComplete _ image => image.length == 10
  | .frameBoundary _ _ => true
  | .claimWindowEnd _ => true
  | .holdDownRelease _ => true
  | .starved _ => true
  | .rosterExpiry _ => true
  | .peerRecordExpiry _ n => stationNumberOk n
  | .peerClaimPassed _ n => stationNumberOk n
  | .objectWindowPassed _ => true
  | .listenEnd _ => true
  | .adoption _ _ => true
  | .burstStart _ => true
  | .burstSent _ => true
  | .slotEnd _ => true
  | .lockAsserted _ => true
  | .lockDropped _ => true
  | .garbledReply _ _ _ => true
  | .join _ _ auditorium _ ticketClass track => auditorium ≤ 255 && ticketClass ≤ 3 && track ≤ 255
  | .renew _ _ => true
  | .leave _ _ => true
  | .houseLineReceiveStart _ => true
  | .announce _ sender fields => sender.wf && fields.wf
  | .claim _ sender _ _ => sender.wf
  | .object _ sender _ _ claimant => sender.wf && stationNumberOk claimant
  | .release _ sender _ _ => sender.wf
  | .badMessage _ _ _ => true
  | .messageStart _ => true
  | .messageComplete _ => true
  | .lineConflict _ => true
  | .idleWaitEnd _ => true
  | .recordComplete _ record => 5 ≤ record.length && record.length ≤ Config.maxBody + 5
  | .recordGap _ gathered => gathered.length < Config.maxBody + 5
  | .recordBroken _ gathered _ => gathered.length < Config.maxBody + 5
  | .outboundRecordSent _ => true
  | .showLoad _ => true
  | .showEnd _ => true
  | .showClear _ => true
  | .mark _ => true
  | .tableLoad _ => true
  | .cue _ => true
  | .cueCancel _ => true
  | .clipHead _ => true
  | .clipData _ => true
  | .clipCancel _ => true
  | .eventAck _ => true
  | .endedTimerExpiry _ => true
  | .marksLost _ => true
  | .frozen _ => true
  | .powerLoss _ => true
  | .restartLineReleased _ => true
  | .recordStartMark _ => true
  | .idleWaitByte _ => true
  | .startMarkHeard _ => true

end Sys2Proof
end

