-- ==== Sys2Proof/Machine/Operands.lean ====
section
/-! DEFINITION. The byte layouts of chapter 12: checks, the configuration image, show link records in and out, house line
messages, uplink replies, and cells and bursts. -/

namespace Sys2Proof.Machine

/-! ## Bytes and checks (R176) -/

/-- Bytes read as a number, most significant byte first. -/
def natOfBytes (bs : List Byte) : Nat := bs.foldl (fun acc b => acc * 256 + b.toNat) 0

/-- A number as n bytes, most significant byte first. -/
def bytesOfNat : Nat → Nat → List Byte
  | 0, _ => []
  | n + 1, v => BitVec.ofNat 8 (v / 256 ^ n) :: bytesOfNat n v

/-- The number in a field of n bytes from offset off on. -/
def fieldAt (bs : List Byte) (off n : Nat) : Nat := natOfBytes ((bs.drop off).take n)

/-- One bit of the CRC register's shift, generator x^16 + x^12 + x^5 + 1. -/
def crcShift (r : BitVec 16) : BitVec 16 := if r.msb then (r <<< 1) ^^^ 0x1021#16 else r <<< 1

/-- One byte taken into the register, most significant bit first. -/
def crcByte (r : BitVec 16) (b : Byte) : BitVec 16 :=
  let r := r ^^^ ((b.setWidth 16) <<< 8)
  crcShift (crcShift (crcShift (crcShift (crcShift (crcShift (crcShift (crcShift r)))))))

/-- The check over a list of bytes: the register starts with all bits set; no final inversion. -/
def crc (bs : List Byte) : BitVec 16 := bs.foldl crcByte 0xFFFF#16

/-- The two check bytes. -/
def checkBytes (bs : List Byte) : List Byte := bytesOfNat 2 (crc bs).toNat

/-- Bytes followed by their check. -/
def withCheck (bs : List Byte) : List Byte := bs ++ checkBytes bs

/-- The last two bytes are the check over the bytes before them. -/
def checkOk (bs : List Byte) : Bool := 2 ≤ bs.length && bs.drop (bs.length - 2) == checkBytes (bs.take (bs.length - 2))

/-- The bytes before the check. -/
def beforeCheck (bs : List Byte) : List Byte := bs.take (bs.length - 2)

/-! ## Configuration image (R169, R182) -/

/-- The image if it is good: its check is correct and not 65,535, and every field lies within its range. -/
def parseImage (bs : List Byte) : Option ConfigImage :=
  let image : ConfigImage :=
    { number := fieldAt bs 0 1, carriers := BitVec.ofNat 8 (fieldAt bs 1 1), neighbours := BitVec.ofNat 32 (fieldAt bs 2 4)
      maxHoldings := fieldAt bs 6 1, outputLevel := fieldAt bs 7 1 }
  if bs.length == 10 && checkOk bs && fieldAt bs 8 2 != 65535 && stationNumberOk image.number && image.carriers != 0
      && 1 ≤ image.maxHoldings && image.maxHoldings ≤ 4 && image.outputLevel ≤ 7 then
    some image
  else none

/-- The ten bytes of an image (R182). -/
def ConfigImage.bytes (c : ConfigImage) : List Byte :=
  withCheck (bytesOfNat 1 c.number ++ bytesOfNat 1 c.carriers.toNat ++ bytesOfNat 4 c.neighbours.toNat
    ++ bytesOfNat 1 c.maxHoldings ++ bytesOfNat 1 c.outputLevel)

/-! ## Positions and codes (R178, R179) -/

def positionCode (p : Position) : Nat := p.carrier.val * 8 + p.slot.val

/-- The position of a position byte, 0 to 63. -/
def positionOfCode (n : Nat) : Option Position :=
  if h : n < 64 then some { carrier := ⟨n / 8, by omega⟩, slot := ⟨n % 8, by omega⟩ } else none

def timingCode : TimingState → Nat
  | .listen => 0
  | .pace => 1
  | .acquire => 2
  | .locked => 3

def timingOfCode : Nat → Option TimingState
  | 0 => some .listen
  | 1 => some .pace
  | 2 => some .acquire
  | 3 => some .locked
  | _ => none

def releaseCode : ReleaseReason → Nat
  | .demand => 1
  | .evicted => 2

def releaseOfCode : Nat → Option ReleaseReason
  | 1 => some .demand
  | 2 => some .evicted
  | _ => none

def stationCode : StationState → Nat
  | .configRead => 1
  | .configFault => 2
  | .listen => 3
  | .joined => 4
  | .duplicateFault => 5

def showCode : ShowState → Nat
  | .noShow => 0
  | .ready => 1
  | .running => 2
  | .paused => 3
  | .coasting => 4
  | .frozen => 5
  | .ended => 6

def reasonCode : Reason → Nat
  | .badCheck => 1
  | .badLength => 2
  | .unknownKind => 3
  | .wrongState => 4
  | .badField => 5
  | .queueFull => 6
  | .noRoom => 7
  | .unknownClip => 8
  | .duplicate => 9
  | .noTrack => 10
  | .tooLate => 11

def ackCode : JoinResult → Nat
  | .granted => 1
  | .wrongRoom => 2
  | .noShow => 3
  | .badSession => 4
  | .noTrack => 5
  | .classLow => 6
  | .rosterFull => 7
  | .renewed => 8
  | .left => 9
  | .unknownReceiver => 10

/-! ## House line messages (R113, R177, R178, R183) -/

/-- The kind code, which is also the class: 1 OBJECT, highest, to 4 ANNOUNCE (R113, R177). -/
def contentKind : MessageContent → Nat
  | .object _ _ _ => 1
  | .release _ _ => 2
  | .claim _ _ => 3
  | .announce _ => 4

def stampedBytes (h : Stamped) : List Byte := bytesOfNat 1 (positionCode h.position) ++ bytesOfNat 4 h.stamp.toNat

def claimBytes : Option Stamped → List Byte
  | none => []
  | some c => stampedBytes c

def contentBytes : MessageContent → List Byte
  | .object p stamp claimant => bytesOfNat 1 (positionCode p) ++ bytesOfNat 4 stamp.toNat ++ bytesOfNat 1 claimant
  | .release p reason => bytesOfNat 1 (positionCode p) ++ bytesOfNat 1 (releaseCode reason)
  | .claim p stamp => bytesOfNat 1 (positionCode p) ++ bytesOfNat 4 stamp.toNat
  | .announce f =>
    bytesOfNat 4 f.neighbours.toNat ++ bytesOfNat 1 f.demand ++ bytesOfNat 1 f.holdings.length
      ++ bytesOfNat 1 (if f.claim.isSome then 1 else 0) ++ f.holdings.flatMap stampedBytes ++ claimBytes f.claim

/-- A whole message: common part, content and check. -/
def messageBytes (sender : Sender) (content : MessageContent) : List Byte :=
  withCheck (bytesOfNat 1 (contentKind content) ++ bytesOfNat 1 sender.number ++ bytesOfNat 4 sender.frame.toNat
    ++ bytesOfNat 2 sender.phase ++ bytesOfNat 1 (timingCode sender.timing) ++ contentBytes content)

/-- A message's length on the line: nine bits of 2 µs for each byte (R112, R177). -/
def messageBits (sender : Sender) (content : MessageContent) : Nat := 9 * (messageBytes sender content).length

/-- A position and stamp from offset off on. -/
def stampedAt (bs : List Byte) (off : Nat) : Option Stamped :=
  (positionOfCode (fieldAt bs off 1)).map (fun p => { position := p, stamp := BitVec.ofNat 32 (fieldAt bs (off + 1) 4) })

/-- n positions and stamps from offset off on. -/
def stampedRun (bs : List Byte) : Nat → Nat → Option (List Stamped)
  | _, 0 => some []
  | off, n + 1 =>
    match stampedAt bs off, stampedRun bs (off + 5) n with
    | some h, some hs => some (h :: hs)
    | _, _ => none

/-- The content that follows the common part, from the bytes before the check. -/
def parseContent (bs : List Byte) : Option MessageContent :=
  match fieldAt bs 0 1 with
  | 1 =>
    match positionOfCode (fieldAt bs 9 1) with
    | some p =>
      if bs.length == 15 && stationNumberOk (fieldAt bs 14 1) then
        some (.object p (BitVec.ofNat 32 (fieldAt bs 10 4)) (fieldAt bs 14 1))
      else none
    | none => none
  | 2 =>
    match positionOfCode (fieldAt bs 9 1), releaseOfCode (fieldAt bs 10 1) with
    | some p, some r => if bs.length == 11 then some (.release p r) else none
    | _, _ => none
  | 3 =>
    match stampedAt bs 9 with
    | some h => if bs.length == 14 then some (.claim h.position h.stamp) else none
    | none => none
  | 4 =>
    let demand := fieldAt bs 13 1
    let count := fieldAt bs 14 1
    let present := fieldAt bs 15 1
    if demand ≤ 4 && count ≤ 4 && present ≤ 1 && bs.length == 16 + 5 * count + 5 * present then
      match stampedRun bs 16 count, stampedRun bs (16 + 5 * count) present with
      | some holdings, some claims =>
        some (.announce { neighbours := BitVec.ofNat 32 (fieldAt bs 9 4), demand := demand, holdings := holdings,
                          claim := claims.head? })
      | _, _ => none
    else none
  | _ => none

/-- What a received message says, unless one of R122's or R183's conditions discards it. -/
def parseMessage (bs : List Byte) : Option (Sender × MessageContent) :=
  if checkOk bs then
    let body := beforeCheck bs
    match timingOfCode (fieldAt body 8 1), parseContent body with
    | some timing, some content =>
      let sender : Sender :=
        { number := fieldAt body 1 1, frame := BitVec.ofNat 32 (fieldAt body 2 4), phase := fieldAt body 6 2
          timing := timing }
      if sender.wf then some (sender, content) else none
    | _, _ => none
  else none

/-! ## Show link records, inward (R159, R160, R179) -/

/-- The kind byte of an inward record. -/
def Record.kindCode : Record → Nat
  | .showLoad _ _ _ => 1
  | .showEnd => 2
  | .showClear => 3
  | .mark _ _ => 4
  | .tableLoad _ _ _ => 5
  | .cue _ _ _ _ _ _ _ => 6
  | .cueCancel _ _ => 7
  | .clipHead _ _ _ _ => 8
  | .clipData _ _ _ => 9
  | .clipCancel _ => 10
  | .eventAck _ => 11

/-- The bit of a byte at offset off. -/
def bitAt (bs : List Byte) (off bit : Nat) : Bool := ((bs.drop off).headD 0).getLsbD bit

/-- One 8-byte track entry from offset off on (R179; unnamed flag bits are ignored, R183). -/
def trackEntryAt (bs : List Byte) (off : Nat) : TrackEntry :=
  { number := fieldAt bs off 1, kind := fieldAt bs (off + 1) 1, language := (bs.drop (off + 2)).take 3
    requiredClass := fieldAt bs (off + 5) 1, table := fieldAt bs (off + 6) 1, carryAlways := bitAt bs (off + 7) 0 }

def trackEntries (bs : List Byte) : Nat → Nat → List TrackEntry
  | _, 0 => []
  | off, n + 1 => trackEntryAt bs off :: trackEntries bs (off + 8) n

/-- n blocks of 32 bytes from offset off on. -/
def blocksAt (bs : List Byte) : Nat → Nat → List (List Byte)
  | _, 0 => []
  | off, n + 1 => (bs.drop off).take 32 :: blocksAt bs (off + 32) n

/-- The record of a kind and body; absent when the body's length is not what the kind and its counts require (check 3 of
R160). -/
def parseBody (kind : Nat) (body : List Byte) : Option Record :=
  match kind with
  | 1 =>
    let n := fieldAt body 8 1
    if body.length == 9 + 8 * n then
      some (.showLoad (BitVec.ofNat 32 (fieldAt body 0 4)) (fieldAt body 4 4) (trackEntries body 9 n))
    else none
  | 2 => if body.length == 0 then some .showEnd else none
  | 3 => if body.length == 0 then some .showClear else none
  | 4 => if body.length == 5 then some (.mark (fieldAt body 0 4) (bitAt body 4 0)) else none
  | 5 =>
    let n := fieldAt body 2 1
    if body.length == 3 + n then some (.tableLoad (fieldAt body 0 1) (fieldAt body 1 1) (body.drop 3)) else none
  | 6 =>
    let n := fieldAt body 11 1
    if body.length == 12 + n then
      some (.cue (fieldAt body 0 1) (fieldAt body 1 4) (fieldAt body 5 4) (fieldAt body 9 1) (bitAt body 10 0)
        (bitAt body 10 1) (body.drop 12))
    else none
  | 7 => if body.length == 5 then some (.cueCancel (fieldAt body 0 1) (fieldAt body 1 4)) else none
  | 8 =>
    if body.length == 9 then
      some (.clipHead (fieldAt body 0 2) (fieldAt body 2 1) (fieldAt body 3 4) (fieldAt body 7 2))
    else none
  | 9 =>
    let n := fieldAt body 4 1
    if body.length == 5 + 32 * n then some (.clipData (fieldAt body 0 2) (fieldAt body 2 2) (blocksAt body 5 n)) else none
  | 10 => if body.length == 2 then some (.clipCancel (fieldAt body 0 2)) else none
  | 11 => if body.length == 2 then some (.eventAck (BitVec.ofNat 16 (fieldAt body 0 2))) else none
  | _ => none

/-- How far the bytes after a start mark have come (R159): still gathering, over-length at the length field, or complete. -/
inductive Gathering where
  | open_ | overLength | complete
deriving DecidableEq, Repr

def gathering (bs : List Byte) : Gathering :=
  if bs.length < 3 then .open_
  else if Config.maxBody < fieldAt bs 1 2 then .overLength
  else if bs.length < 5 + fieldAt bs 1 2 then .open_
  else .complete

/-- A completed record is well formed, or the reason it is refused for, in R160's order. -/
def judgeRecord (bs : List Byte) : Except Reason Record :=
  if !checkOk bs then .error .badCheck
  else if fieldAt bs 0 1 < 1 || 11 < fieldAt bs 0 1 then .error .unknownKind
  else
    match parseBody (fieldAt bs 0 1) ((beforeCheck bs).drop 3) with
    | none => .error .badLength
    | some r => .ok r

/-! ## Show link records, inward, as the server writes them (R179) -/

def boolBit (b : Bool) : Nat := if b then 1 else 0

def TrackEntry.bytes (t : TrackEntry) : List Byte :=
  bytesOfNat 1 t.number ++ bytesOfNat 1 t.kind ++ t.language ++ bytesOfNat 1 t.requiredClass ++ bytesOfNat 1 t.table
    ++ bytesOfNat 1 (boolBit t.carryAlways)

def Record.body : Record → List Byte
  | .showLoad session time tracks =>
    bytesOfNat 4 session.toNat ++ bytesOfNat 4 time ++ bytesOfNat 1 tracks.length ++ tracks.flatMap TrackEntry.bytes
  | .showEnd => []
  | .showClear => []
  | .mark time running => bytesOfNat 4 time ++ bytesOfNat 1 (boolBit running)
  | .tableLoad table first values => bytesOfNat 1 table ++ bytesOfNat 1 first ++ bytesOfNat 1 values.length ++ values
  | .cue track start stop region italic speakerChange text =>
    bytesOfNat 1 track ++ bytesOfNat 4 start ++ bytesOfNat 4 stop ++ bytesOfNat 1 region
      ++ bytesOfNat 1 (boolBit italic + 2 * boolBit speakerChange) ++ bytesOfNat 1 text.length ++ text
  | .cueCancel track start => bytesOfNat 1 track ++ bytesOfNat 4 start
  | .clipHead id track start length => bytesOfNat 2 id ++ bytesOfNat 1 track ++ bytesOfNat 4 start ++ bytesOfNat 2 length
  | .clipData id first blocks => bytesOfNat 2 id ++ bytesOfNat 2 first ++ bytesOfNat 1 blocks.length ++ blocks.flatten
  | .clipCancel id => bytesOfNat 2 id
  | .eventAck events => bytesOfNat 2 events.toNat

/-- The bytes of a record of a kind and body after its start mark. -/
def frameRecord (kind : Nat) (body : List Byte) : List Byte :=
  withCheck (bytesOfNat 1 kind ++ bytesOfNat 2 body.length ++ body)

def Record.bytes (r : Record) : List Byte := frameRecord r.kindCode r.body

/-! ## Show link records, outward (R162, R165, R179) -/

def StatusReport.body (r : StatusReport) : List Byte :=
  bytesOfNat 1 (stationCode r.station) ++ bytesOfNat 1 (timingCode r.timing) ++ bytesOfNat 1 (showCode r.show_)
    ++ bytesOfNat 4 r.showTime ++ bytesOfNat 1 r.holdings.length ++ r.holdings.flatMap stampedBytes
    ++ bytesOfNat 1 r.demand ++ r.listeners.toList.flatMap (bytesOfNat 1) ++ bytesOfNat 2 r.events.toNat
    ++ r.counters.flatMap (bytesOfNat 2)

/-- The body of a REFUSAL (R179). Bits 2 to 7 of its present byte, which no rule names, are 0 (log 55). -/
def RefusalRecord.body (r : RefusalRecord) : List Byte :=
  [r.kind.getD 0] ++ bytesOfNat 1 (reasonCode r.reason) ++ bytesOfNat 1 (boolBit r.cue.isSome + 2 * boolBit r.clip.isSome)
    ++ bytesOfNat 1 (r.cue.getD (0, 0)).1 ++ bytesOfNat 4 (r.cue.getD (0, 0)).2 ++ bytesOfNat 2 (r.clip.getD 0)

/-- The bytes of the record in transmission, start mark first. -/
def SendingRecord.bytes : SendingRecord → List Byte
  | .status report => 165#8 :: frameRecord 128 report.body
  | .refusal contents => 165#8 :: frameRecord 129 contents.body

/-! ## Uplink replies (R77, R181) -/

inductive Reply where
  | join (receiver : BitVec 32) (auditorium : Nat) (session : BitVec 32) (ticketClass track : Nat)
  | renew (receiver : BitVec 32)
  | leave (receiver : BitVec 32)
deriving DecidableEq, Repr

/-- A reply that is well-formed but for the place of its end (R77). -/
def parseReply (bs : List Byte) : Option Reply :=
  if checkOk bs then
    match fieldAt bs 0 1 with
    | 1 =>
      if bs.length == 14 && fieldAt bs 10 1 ≤ 3 then
        some (.join (BitVec.ofNat 32 (fieldAt bs 1 4)) (fieldAt bs 5 1) (BitVec.ofNat 32 (fieldAt bs 6 4))
          (fieldAt bs 10 1) (fieldAt bs 11 1))
      else none
    | 2 => if bs.length == 7 then some (.renew (BitVec.ofNat 32 (fieldAt bs 1 4))) else none
    | 3 => if bs.length == 7 then some (.leave (BitVec.ofNat 32 (fieldAt bs 1 4))) else none
    | _ => none
  else none

def Reply.bytes : Reply → List Byte
  | .join receiver auditorium session ticketClass track =>
    withCheck (bytesOfNat 1 1 ++ bytesOfNat 4 receiver.toNat ++ bytesOfNat 1 auditorium ++ bytesOfNat 4 session.toNat
      ++ bytesOfNat 1 ticketClass ++ bytesOfNat 1 track)
  | .renew receiver => withCheck (bytesOfNat 1 2 ++ bytesOfNat 4 receiver.toNat)
  | .leave receiver => withCheck (bytesOfNat 1 3 ++ bytesOfNat 4 receiver.toNat)

/-! ## Cells and bursts (R180) -/

/-- Bytes filled up with zeros to n. -/
def padTo (n : Nat) (bs : List Byte) : List Byte := bs ++ List.replicate (n - bs.length) 0

/-- The four bytes of a DIRECTORY's track entry (R180). Bit 1 of the descriptor, which no rule names, is 0 (log 55). -/
def Track.directoryBytes (t : Track) : List Byte :=
  bytesOfNat 1 ((t.number - 1) * 32 + (match t.kind with | .caption => 0 | .description => 16) + t.requiredClass * 4 + 1)
    ++ t.language

def Cell.kind : Cell → Nat
  | .fill => 0
  | .beacon _ _ _ _ _ _ => 1
  | .directory _ => 2
  | .audio _ _ => 3
  | .ack _ => 4
  | .captionHead _ _ _ _ _ _ _ _ => 5
  | .captionText _ _ _ _ => 6
  | .captionClear _ _ _ => 7

def Cell.tag : Cell → Nat
  | .fill => 0
  | .beacon _ _ _ _ _ _ => 0
  | .directory _ => 0
  | .audio track _ => track
  | .ack acks => acks.length
  | .captionHead refresh _ _ _ _ _ _ _ => if refresh then 2 else 1
  | .captionText track _ sequence _ => sequence * 16 + track
  | .captionClear track _ _ => track

/-- The fields of a cell's body in order, before the zeros that fill it (R180). The style byte of a CAPTION HEAD has the bits of a
CUE's (log 55). -/
def Cell.fields : Cell → List Byte
  | .fill => []
  | .beacon number state session showTime held frame =>
    bytesOfNat 1 number ++ bytesOfNat 1 (showCode state) ++ bytesOfNat 4 (session.getD 0).toNat ++ bytesOfNat 4 showTime
      ++ bytesOfNat 1 held.length ++ held.flatMap (fun p => bytesOfNat 1 (positionCode p)) ++ List.replicate (4 - held.length) 255
      ++ bytesOfNat 2 frame.toNat
  | .directory tracks => tracks.flatMap Track.directoryBytes
  | .audio _ block => block
  | .ack acks => acks.flatMap (fun a => bytesOfNat 4 a.receiver.toNat ++ bytesOfNat 1 (ackCode a.result))
  | .captionHead _ track start duration region italic speakerChange codes =>
    bytesOfNat 1 track ++ bytesOfNat 4 start ++ bytesOfNat 2 duration ++ bytesOfNat 1 region
      ++ bytesOfNat 1 (boolBit italic + 2 * boolBit speakerChange) ++ bytesOfNat 1 codes
  | .captionText _ start _ codes => bytesOfNat 4 start ++ codes
  | .captionClear _ start region => bytesOfNat 4 start ++ bytesOfNat 1 region

/-- The 34 bytes of a cell. -/
def Cell.bytes (c : Cell) : List Byte := bytesOfNat 1 c.kind ++ bytesOfNat 1 c.tag ++ padTo 32 c.fields

/-- The 209 bytes of a burst sent by a station in a frame (R72, R180). -/
def Burst.bytes (number : Nat) (frame : FrameNo) (b : Burst) : List Byte :=
  withCheck (bytesOfNat 1 number ++ bytesOfNat 2 (frame.toNat % 65536) ++ b.cells.flatMap Cell.bytes)

end Sys2Proof.Machine
end

