-- ==== Sys2Proof/Machine/LinkEvents.lean ====
section
/-! DEFINITION. The meanings of the commands of the show link port: framing, judging and queueing of records, sending, and
EVENT ACK (10). -/

namespace Sys2Proof.Machine

/-- The receiver's framing state set. -/
def State.setFraming (f : Framing) (s : State) : State := { s with link := { s.link with framing := f } }

/-! ## IDLE WAIT and HUNT (R159) -/

/-- A byte in IDLE WAIT is discarded and starts the 2 ms again. -/
def State.idleWaitByte (s : State) : State :=
  if s.link.framing == .idleWait then { s with link := { s.link with idleMicros := 0 } } else s

/-- IDLE_WAIT_BYTE. -/
def execIdleWaitByte (dt : Nat) (s : State) : Host.Outcome State Fault Refusal := run dt State.idleWaitByte s

/-- After 2 ms with no byte the receiver enters HUNT. -/
def State.idleWaitEnd (s : State) : State :=
  if s.link.framing == .idleWait && 2000 ≤ s.link.idleMicros then s.setFraming .hunt else s

/-- IDLE_WAIT_END. -/
def execIdleWaitEnd (dt : Nat) (s : State) : Host.Outcome State Fault Refusal := run dt State.idleWaitEnd s

/-- A start mark in HUNT begins a record. -/
def State.recordStartMark (s : State) : State :=
  if s.link.framing == .hunt then { s with link := { s.link with framing := .inRecord, idleMicros := 0 } } else s

/-- RECORD_START_MARK. -/
def execRecordStartMark (dt : Nat) (s : State) : Host.Outcome State Fault Refusal := run dt State.recordStartMark s

/-! ## RECORD_COMPLETE (R160, R161) -/

/-- The bytes after a start mark are those of one whole record. -/
def wholeRecord (bs : List Byte) : Bool := gathering bs == .complete && bs.length == 5 + fieldAt bs 1 2

/-- A REFUSAL of the port itself names the kind, if it arrived, and nothing of the body (R162). -/
def portRefusal (bs : List Byte) (reason : Reason) : RefusalRecord := { kind := bs.head?, reason, cue := none, clip := none }

/-- A well-formed record joins the receive queue, or is discarded as an overrun when all 8 entries are occupied (R161). -/
def State.queueRecord (r : Record) (s : State) : State :=
  if s.link.rxQueue.length < Config.maxRecords then { s with link := { s.link with rxQueue := s.link.rxQueue ++ [r] } }
  else State.raise .linkOverrun { s with link := { s.link with overrun := bump s.link.overrun } }

/-- A record completes and is judged before it needs a place (R160). -/
def State.recordComplete (bs : List Byte) (s : State) : State :=
  if s.link.framing == .inRecord && wholeRecord bs then
    match judgeRecord bs with
    | .error reason => (s.setFraming .hunt).refuse (portRefusal bs reason)
    | .ok r => (s.setFraming .hunt).queueRecord r
  else s

/-- RECORD_COMPLETE. -/
def execRecordComplete (dt : Nat) (record : List Byte) (s : State) : Host.Outcome State Fault Refusal :=
  run dt (State.recordComplete record) s

/-! ## RECORD_GAP and RECORD_BROKEN (R159) -/

/-- A record is broken: it is discarded and refused, and the receiver enters HUNT. -/
def State.breakRecord (bs : List Byte) (reason : Reason) (s : State) : State :=
  (s.setFraming .hunt).refuse (portRefusal bs reason)

/-- The µs that n bytes take at the least: 10 bit times each at 921,600 bit/s, in whole µs (R158). -/
def byteMicros (n : Nat) : Nat := n * 100000 / 9216

/-- More than 2 ms without a byte inside a record. Since the start mark the bytes gathered have come and the gap has passed: a
record that began later than that cannot have it yet (log 21). -/
def State.recordGap (bs : List Byte) (s : State) : State :=
  if s.link.framing == .inRecord && gathering bs == .open_ && 2000 + byteMicros bs.length < s.link.idleMicros then
    s.breakRecord bs .badCheck
  else s

/-- RECORD_GAP. -/
def execRecordGap (dt : Nat) (gathered : List Byte) (s : State) : Host.Outcome State Fault Refusal :=
  run dt (State.recordGap gathered) s

/-- A framing error in a byte of a record, or a body length above the largest of any kind. -/
def State.recordBroken (bs : List Byte) (framingError : Bool) (s : State) : State :=
  if s.link.framing == .inRecord then
    match gathering bs with
    | .open_ => if framingError then s.breakRecord bs .badCheck else s
    | .overLength => if framingError then s else s.breakRecord bs .badLength
    | .complete => s
  else s

/-- RECORD_BROKEN. -/
def execRecordBroken (dt : Nat) (gathered : List Byte) (framingError : Bool) (s : State) : Host.Outcome State Fault Refusal :=
  run dt (State.recordBroken gathered framingError) s

/-! ## OUTBOUND_RECORD_SENT (R164) -/

/-- The last byte of the record in transmission has gone; the oldest waiting record starts at the end of the step. -/
def State.outboundSent (s : State) : State := { s with link := { s.link with sending := none } }

/-- OUTBOUND_RECORD_SENT. -/
def execOutboundRecordSent (dt : Nat) (s : State) : Host.Outcome State Fault Refusal := run dt State.outboundSent s

/-! ## Taking the head of the receive queue (R163) -/

/-- The head leaves the receive queue. -/
def State.dropHead (s : State) : State := { s with link := { s.link with rxQueue := s.link.rxQueue.tail } }

/-- The head of the receive queue, if its owner's part applies to it, leaves the queue and has its effect. -/
def State.takeHead (effect : Record → Option (State → State)) (s : State) : State :=
  match s.link.rxQueue.head?.bind effect with
  | some f => f s.dropHead
  | none => s

/-- A REFUSAL by a record's owner, with no track, start or clip id (R162). -/
def State.refusePlain (kind : Nat) (reason : Reason) (s : State) : State :=
  s.refuse { kind := some (BitVec.ofNat 8 kind), reason, cue := none, clip := none }

/-! ## EVENT_ACK (R166) -/

/-- Each named event becomes clear. -/
def State.ackEvents (named : BitVec 16) (s : State) : State :=
  { s with link := { s.link with events := s.link.events &&& ~~~named } }

/-- EVENT ACK, as the port takes it. -/
def Record.eventAckPart : Record → Option (State → State)
  | .eventAck named => some (State.ackEvents named)
  | _ => none

/-- EVENT_ACK. -/
def execEventAck (dt : Nat) (s : State) : Host.Outcome State Fault Refusal :=
  run dt (State.takeHead Record.eventAckPart) s

end Sys2Proof.Machine
end

