-- ==== Sys2Proof/Machine/ClipStore.lean ====
section
/-! DEFINITION. The clip store (03): clips and clip memory, the four stream engines, progress at a composition, and what it
does on the signals of show control. A function that can make a clip LATE answers whether it did, for the LATE CLIP event
(R62). -/

namespace Sys2Proof.Machine

/-! ## Clips and clip memory (R42, R43) -/

/-- The clip's end (R42). -/
def Clip.stop (c : Clip) : Nat := c.start + c.length * 20

def Clip.complete (c : Clip) : Bool := c.loaded.all (fun b => b)

/-- Pages that a clip of n blocks holds (R43). -/
def pagesFor (n : Nat) : Nat := (n + Config.pageBlocks - 1) / Config.pageBlocks

/-- The expected index at show time t; free where the clip's start lies ahead of t (R42, log 13). -/
def expectedIndex (start t : Nat) : Int :=
  if start ≤ t then Int.ofNat ((t - start) / 20) else Config.expectedIndexBeforeStart start t

/-- The address in clip memory of a clip's block (R43). -/
def Clip.blockAddress (c : Clip) (i : Nat) : Nat :=
  (c.pages.getD (i / Config.pageBlocks) 0 * Config.pageBlocks + i % Config.pageBlocks) * Config.blockBytes

def ClipStore.find (s : ClipStore) (id : Nat) : Option Clip := s.clips.find? (·.id == id)

/-- The content of a clip's block. -/
def ClipStore.block (s : ClipStore) (c : Clip) (i : Nat) : List Byte :=
  Memory.readRun clipDefault s.memory (c.blockAddress i) Config.blockBytes

def ClipStore.update (s : ClipStore) (id : Nat) (f : Clip → Clip) : ClipStore :=
  { s with clips := s.clips.map (fun c => if c.id == id then f c else c) }

def ClipStore.setState (s : ClipStore) (id : Nat) (st : ClipState) : ClipStore := s.update id (fun c => { c with state := st })

/-- Free pages, lowest first (R43, R48). -/
def ClipStore.freePages (s : ClipStore) : List Nat :=
  (List.range Config.pages).filter (fun p => !s.clips.any (fun c => c.pages.contains p))

/-- The clip is played: it is the current clip of its engine from now on (R44). -/
def Clip.play (c : Clip) : Clip := { c with state := .playing, everPlayed := true }

/-! ## Next clips (R45) -/

/-- States from which a next clip is chosen. -/
def ClipState.waits : ClipState → Bool
  | .loading => true
  | .ready => true
  | .late => true
  | _ => false

/-- The start of an engine's current clip. -/
def ClipStore.currentStart (s : ClipStore) (e : Engine) : Option Nat :=
  match e.current with
  | some cur => (s.find cur.clip).map (·.start)
  | none => none

/-- The next clip of an engine that serves a track (R45). A clip that arrived behind the current one is chosen as soon as no
current clip stands before it: R45's first paragraph taken over its last (log 35). -/
def ClipStore.chooseNext (show_ : ShowControl) (s : ClipStore) (bound : Option Nat) (e : Engine) : Option Clip :=
  match bound with
  | none => none
  | some track =>
    if show_.state == .noShow || show_.state == .ended then none
    else
      firstBy (fun a b => a.start < b.start)
        (s.clips.filter (fun c => c.track == track && c.state.waits
          && (match s.currentStart e with
              | some start => start < c.start
              | none => true)))

/-- Every engine's next clip chosen afresh (R45). -/
def ClipStore.rechoose (show_ : ShowControl) (s : ClipStore) : ClipStore :=
  let choose (bound : Option Nat) (e : Engine) : Engine := { e with next := (s.chooseNext show_ bound e).map (·.id) }
  { s with engines := PerEngine.zip choose show_.binding s.engines }

/-- The engine's current part set. -/
def ClipStore.setCurrent (s : ClipStore) (i : Nat) (cur : Option Current) : ClipStore :=
  { s with engines := s.engines.set i { s.engines.get i with current := cur } }

/-- The number of the engine bound to a track. -/
def engineOf (show_ : ShowControl) (track : Nat) : Option Nat :=
  [0, 1, 2, 3].find? (fun i => show_.binding.get i == some track)

/-! ## Engine states (R44) -/

inductive EngineState where
  | idle | armed | playing | held
deriving DecidableEq, Repr

/-- The engine's state follows from its parts, its binding and the show state. -/
def engineState (show_ : ShowState) (bound : Option Nat) (e : Engine) : EngineState :=
  if bound.isNone then .idle
  else
    match e.current, e.next with
    | some _, _ => if show_.advances then .playing else .held
    | none, some _ => .armed
    | none, none => .idle

/-! ## Progress at a composition (R52 to R55) -/

/-- Retention (R52). -/
def ClipStore.retain (t : Nat) (s : ClipStore) : ClipStore :=
  { s with clips := s.clips.filter (fun c => !(c.state == .spent && c.stop + Config.retention < t)) }

/-- Passing (R52, part 1). -/
def ClipStore.passing (t : Nat) (s : ClipStore) : ClipStore :=
  let passed (c : Clip) : Bool := c.state.waits && c.stop ≤ t
  { s with
    clips := s.clips.map (fun c => if passed c then { c with state := .spent } else c)
    skipped := bumpBy (s.clips.filter (fun c => passed c && !c.everPlayed)).length s.skipped }

/-- Fewer than 10 blocks of the clip remain at t (R50, R52). -/
def Clip.tooLateToEnter (t : Nat) (c : Clip) : Bool := (c.length : Int) - expectedIndex c.start t < (Config.lateBlocks : Nat)

/-- Giving up (R52, part 2). -/
def ClipStore.givingUp (t : Nat) (s : ClipStore) : ClipStore :=
  let given (c : Clip) : Bool := c.state == .late && c.tooLateToEnter t
  { s with
    clips := s.clips.map (fun c => if given c then { c with state := .spent } else c)
    skipped := bumpBy (s.clips.filter given).length s.skipped }

/-- The engine's current clip is cut (R53, step 1). -/
def ClipStore.cut (s : ClipStore) (i : Nat) : ClipStore :=
  match (s.engines.get i).current with
  | some cur => { (s.setState cur.clip .spent).setCurrent i none with overlap := bump s.overlap }
  | none => s

/-- The starting part of one engine (R53), fuel bounding how many clips can come due; answers whether a clip became LATE.
again says that the part has acted already in this step: it then ends at a LATE next, which cuts only when the part begins
with it. After that cut next is chosen afresh too, and a clip that waited behind the cut one may come due. -/
def ClipStore.startEngine (show_ : ShowControl) (t i : Nat) (again : Bool) : Nat → ClipStore → ClipStore × Bool
  | 0, s => (s, false)
  | fuel + 1, s =>
    match s.chooseNext show_ (show_.binding.get i) (s.engines.get i) with
    | none => (s, false)
    | some c =>
      if c.start ≤ t then
        match c.state with
        | .ready =>
          (((s.cut i).update c.id Clip.play).setCurrent i (some { clip := c.id, index := 0 })).startEngine show_ t i true fuel
        | .loading => ((((s.cut i).setState c.id .late).startEngine show_ t i true fuel).1, true)
        | _ => if again then (s, false) else (s.cut i).startEngine show_ t i true fuel
      else (s, false)

/-- The starting part, engine by engine (R52, part 3). -/
def ClipStore.starting (show_ : ShowControl) (t : Nat) (s : ClipStore) : ClipStore × Bool :=
  [0, 1, 2, 3].foldl
    (fun acc i =>
      let r := acc.1.startEngine show_ t i false (acc.1.clips.length + 1)
      (r.1, acc.2 || r.2))
    (s, false)

/-- A block handed to the frame composer: the track and the block (R54). -/
structure AudioOffer where
  track : Nat
  block : List Byte
deriving DecidableEq, Repr

/-- The current clip is at its end (R55). -/
def ClipStore.endCurrent (s : ClipStore) (i id : Nat) : ClipStore := (s.setState id .spent).setCurrent i none

/-- The engine's index after a hand-over of block n − 1, or the clip's end (R54, R55). -/
def ClipStore.advanceTo (s : ClipStore) (i : Nat) (c : Clip) (n : Nat) : ClipStore :=
  if n < c.length then s.setCurrent i (some { clip := c.id, index := n }) else s.endCurrent i c.id

/-- The supply part of one engine that is PLAYING (R54). -/
def ClipStore.supplyEngine (t i : Nat) (s : ClipStore) : ClipStore × List AudioOffer :=
  match (s.engines.get i).current with
  | none => (s, [])
  | some cur =>
    match s.find cur.clip with
    | none => (s, [])
    | some c =>
      let e := expectedIndex c.start t
      if e + 2 < (cur.index : Int) then ({ s with slip := bump s.slip }, [])
      else if (cur.index : Int) < e - 2 then
        let s := { s with slip := bump s.slip }
        if e.toNat < c.length then
          (s.advanceTo i c (e.toNat + 1), [{ track := c.track, block := s.block c e.toNat }])
        else (s.endCurrent i c.id, [])
      else (s.advanceTo i c (cur.index + 1), [{ track := c.track, block := s.block c cur.index }])

/-- The supply part, engine by engine (R52, part 4). -/
def ClipStore.supply (t : Nat) (s : ClipStore) : ClipStore × List AudioOffer :=
  [0, 1, 2, 3].foldl
    (fun acc i =>
      let r := acc.1.supplyEngine t i
      (r.1, acc.2 ++ r.2))
    (s, [])

/-- What one progress step answers: the store, the blocks handed over in engine order, whether a clip became LATE. -/
structure ClipProgress where
  store : ClipStore
  audio : List AudioOffer
  late : Bool
deriving DecidableEq, Repr

/-- The progress step (R52). -/
def ClipStore.progress (show_ : ShowControl) (s : ClipStore) : ClipProgress :=
  let t := show_.clock
  let s := s.retain t
  if show_.state.advances then
    let started := ((s.passing t).givingUp t).starting show_ t
    let supplied := started.1.supply t
    { store := supplied.1.rechoose show_, audio := supplied.2, late := started.2 }
  else { store := s, audio := [], late := false }

/-! ## Re-evaluation (R57, R58) -/

/-- t lies in the clip's window (R42). -/
def Clip.candidate (t : Nat) (c : Clip) : Bool := c.start ≤ t && t < c.stop

/-- The candidate of its track with the latest start (R58). -/
def Clip.chosen (t : Nat) (all : List Clip) (c : Clip) : Bool :=
  c.candidate t && !all.any (fun o => o.track == c.track && o.candidate t && c.start < o.start)

/-- One clip set by show time t (R57, R58). -/
def Clip.reevaluate (t : Nat) (all : List Clip) (c : Clip) : Clip :=
  if c.stop ≤ t then { c with state := .spent }
  else if t < c.start then
    match c.state with
    | .loading => c
    | .ready => c
    | .late => { c with state := .loading }
    | .playing => { c with state := .ready }
    | .spent => { c with state := if c.complete then .ready else .loading }
  else if c.chosen t all then
    (if c.complete then c.play else { c with state := .late })
  else { c with state := .spent }

/-- A jump passes over the clip unheard (R57, R58). -/
def Clip.skippedBy (t : Nat) (all : List Clip) (c : Clip) : Bool :=
  if c.stop ≤ t then
    match c.state with
    | .loading => true
    | .ready => !c.everPlayed
    | .late => true
    | .playing => false
    | .spent => false
  else c.candidate t && !c.chosen t all && !c.everPlayed

/-- The current part of an engine bound to a track after the re-evaluation (R58). -/
def reevaluatedCurrent (t : Nat) (all : List Clip) (bound : Option Nat) : Option Current :=
  match all.find? (fun c => bound == some c.track && c.chosen t all && c.complete) with
  | some c => some { clip := c.id, index := (expectedIndex c.start t).toNat }
  | none => none

/-- The re-evaluate signal (R57, R58); answers whether a clip became LATE. -/
def ClipStore.reevaluate (show_ : ShowControl) (t : Nat) (jump : Bool) (s : ClipStore) : ClipStore × Bool :=
  let skipped := (s.clips.filter (fun c => jump && c.skippedBy t s.clips)).length
  let s' : ClipStore :=
    { s with
      clips := s.clips.map (Clip.reevaluate t s.clips)
      engines := PerEngine.zip (fun bound e => { e with current := reevaluatedCurrent t s.clips bound }) show_.binding s.engines
      skipped := bumpBy skipped s.skipped }
  (s'.rechoose show_, s.clips.any (fun c => c.chosen t s.clips && !c.complete))

/-! ## The show's own changes (R56, R59 to R61) -/

/-- The freeze signal (R59). -/
def ClipStore.freeze (show_ : ShowControl) (s : ClipStore) : ClipStore :=
  ClipStore.rechoose show_
    { s with
      clips := s.clips.map (fun c =>
        match c.state with
        | .playing => { c with state := .ready }
        | .late => { c with state := .loading }
        | _ => c)
      engines := s.engines.map (fun e => { e with current := none }) }

/-- The ended signal (R60). -/
def ClipStore.endShow (s : ClipStore) : ClipStore :=
  { s with
    clips := s.clips.map (fun c =>
      match c.state with
      | .playing => { c with state := .spent }
      | .late => { c with state := .spent }
      | _ => c)
    engines := .all { current := none, next := none } }

/-- The new show signal and the cleared signal (R61). -/
def ClipStore.clearAll (s : ClipStore) : ClipStore :=
  { s with clips := [], engines := .all { current := none, next := none } }

/-! ## CLIP HEAD, CLIP DATA, CLIP CANCEL (R46 to R51) -/

/-- A description track of the track table. -/
def isDescriptionTrack (tracks : List Track) (number : Nat) : Bool :=
  tracks.any (fun t => t.number == number && t.kind == .description)

/-- The first five checks of R46 in order. -/
def clipHeadRefusal (show_ : ShowControl) (s : ClipStore) (id track start length : Nat) : Option Reason :=
  if show_.state == .noShow || show_.state == .ended then some .wrongState
  else if !isDescriptionTrack show_.tracks track then some .noTrack
  else if id == 0 || length == 0 || 3000 < length || Config.maxShowTime < start || Config.maxShowTime < start + length * 20
    then some .badField
  else if s.clips.any (fun c => c.id == id || (c.track == track && c.start == start)) then some .duplicate
  else if show_.state.advances && start + length * 20 ≤ show_.clock then some .tooLate
  else none

/-- One entry and p pages are free (R47). -/
def ClipStore.fits (p : Nat) (s : ClipStore) : Bool := s.clips.length < Config.maxClips && p ≤ s.freePages.length

/-- Eviction order (R47). -/
def evictedBefore (a b : Clip) : Bool := a.stop < b.stop || (a.stop == b.stop && a.id < b.id)

/-- Clips removed in order until one entry and p pages are free; none if they never are (R47). -/
def ClipStore.evictUntil (p : Nat) : List Clip → ClipStore → Option ClipStore
  | victims, s =>
    if s.fits p then some s
    else
      match victims with
      | [] => none
      | v :: rest => ClipStore.evictUntil p rest { s with clips := s.clips.filter (fun c => c.id != v.id) }

/-- Room for a clip of p pages (R47). -/
def ClipStore.makeRoom (p : Nat) (s : ClipStore) : Option ClipStore :=
  s.evictUntil p (sortBy evictedBefore (s.clips.filter (fun c => c.state == .spent)))

/-- A new entry takes the lowest free pages (R48). -/
def ClipStore.insert (show_ : ShowControl) (id track start length : Nat) (s : ClipStore) : ClipStore :=
  ClipStore.rechoose show_
    { s with clips := s.clips ++ [{ id, track, start, length, pages := s.freePages.take (pagesFor length)
                                    loaded := List.replicate length false, state := .loading, everPlayed := false }] }

/-- The checks of R49 in order. -/
def clipDataRefusal (show_ : ShowControl) (s : ClipStore) (id first count : Nat) : Option Reason :=
  if show_.state == .noShow || show_.state == .ended then some .wrongState
  else if count == 0 || 8 < count then some .badField
  else
    match s.find id with
    | none => some .unknownClip
    | some c => if c.length ≤ first + count - 1 then some .badField else none

/-- Loaded flags with n of them set from first on. -/
def setLoaded (loaded : List Bool) (first n : Nat) : List Bool :=
  loaded.mapIdx (fun i b => b || (first ≤ i && i < first + n))

/-- Blocks written in order from block first on, and their loaded flags set (R49). -/
def ClipStore.writeBlocks (c : Clip) : Nat → List (List Byte) → ClipStore → ClipStore
  | _, [], s => s
  | first, b :: bs, s =>
    ClipStore.writeBlocks c (first + 1) bs { s with memory := Memory.writeRun clipDefault s.memory (c.blockAddress first) b }

/-- The late rule (R50). R50 takes it that no current clip stands on the engine; one that does, a second clip of the track
having been LATE as well, is cut as under R53 (log 34). -/
def ClipStore.lateRule (show_ : ShowControl) (c : Clip) (s : ClipStore) : ClipStore :=
  if c.tooLateToEnter show_.clock then { s.setState c.id .spent with skipped := bump s.skipped }
  else
    match engineOf show_ c.track with
    | some i =>
      ((s.cut i).update c.id Clip.play).setCurrent i
        (some { clip := c.id, index := (expectedIndex c.start show_.clock).toNat })
    | none => s

/-- A taken CLIP DATA (R49, R50). -/
def ClipStore.takeData (show_ : ShowControl) (c : Clip) (first : Nat) (blocks : List (List Byte)) (s : ClipStore) :
    ClipStore :=
  let loaded := setLoaded c.loaded first blocks.length
  let s := (s.writeBlocks c first blocks).update c.id (fun c => { c with loaded := loaded })
  let s :=
    if !c.complete && loaded.all (fun b => b) then
      match c.state with
      | .loading => s.setState c.id .ready
      | .late => s.lateRule show_ c
      | _ => s
    else s
  s.rechoose show_

/-- The clip removed, its engine's current part absent first if it was PLAYING (R51). -/
def ClipStore.cancel (show_ : ShowControl) (id : Nat) (s : ClipStore) : ClipStore :=
  ClipStore.rechoose show_
    { s with
      clips := s.clips.filter (fun c => c.id != id)
      engines := s.engines.map (fun e =>
        if e.current.any (fun cur => cur.clip == id) then { e with current := none } else e) }

end Sys2Proof.Machine
end

