-- ==== Sys2Proof/Machine/CueQueue.lean ====
section
/-! DEFINITION. The caption cue queue (02): its entries and clear list, its progress at a composition, its offers, the
reports it takes, and what it does on the signals of show control. -/

namespace Sys2Proof.Machine

/-! ## Entries (R20, R21) -/

def Cue.is (e : Cue) (track start : Nat) : Bool := e.track == track && e.start == start

/-- SHOWING with its start sent: the receivers show it (R20). -/
def Cue.onAir (e : Cue) : Bool := e.state == .showing && e.refreshDue.isSome

/-- SHOWING with its start owed (R20). -/
def Cue.startOwed (e : Cue) : Bool := e.state == .showing && e.refreshDue.isNone

/-- Queue order: by start, then by track (R21). -/
def cueBefore (a b : Cue) : Bool := a.start < b.start || (a.start == b.start && a.track < b.track)

/-- A new entry (R20). -/
def Cue.fresh (track start stop region : Nat) (italic speakerChange : Bool) (text : List Byte) : Cue :=
  { track, start, stop, region, italic, speakerChange, text, state := .waiting, everShown := false, startedFrame := none
    refreshDue := none, lateNoted := false, changed := false }

/-- The entry becomes SHOWING in frame f, its start owed (R20). -/
def Cue.show_ (f : FrameNo) (e : Cue) : Cue :=
  { e with state := .showing, everShown := true, startedFrame := some f, refreshDue := none, lateNoted := false
           changed := true }

/-- The entry is in a state other than SHOWING from now on (R20). -/
def Cue.leave (dest : CueState) (e : Cue) : Cue :=
  { e with state := dest, startedFrame := none, refreshDue := none, lateNoted := false }

def CueQueue.find (q : CueQueue) (track start : Nat) : Option Cue := q.entries.find? (·.is track start)

/-- The entry of a cue changed in place. -/
def CueQueue.update (q : CueQueue) (track start : Nat) (f : Cue → Cue) : CueQueue :=
  { q with entries := q.entries.map (fun e => if e.is track start then f e else e) }

def CueQueue.remove (q : CueQueue) (track start : Nat) : CueQueue :=
  { q with entries := q.entries.filter (fun e => !e.is track start) }

/-! ## Clear list (R22) -/

/-- A clear is owed for a cue. -/
def CueQueue.oweClear (q : CueQueue) (track start region : Nat) : CueQueue :=
  if q.clears.any (fun c => c.track == track && c.start == start) then q
  else
    let kept := if q.clears.length < Config.maxClears then q.clears else q.clears.tail
    { q with clears := kept ++ [{ track, start, region, serial := q.nextSerial }], nextSerial := q.nextSerial + 1 }

/-- Clears owed for several cues, one at a time in the order given. -/
def CueQueue.oweClears (q : CueQueue) (es : List Cue) : CueQueue :=
  es.foldl (fun q e => q.oweClear e.track e.start e.region) q

/-- A placed start or refresh takes the item of its cue off the list (R34). -/
def CueQueue.dropClear (q : CueQueue) (track start : Nat) : CueQueue :=
  { q with clears := q.clears.filter (fun c => !(c.track == track && c.start == start)) }

/-- Every entry moved by a rule; a clear is owed, in queue order, for each entry that was on air and is SHOWING no longer. -/
def CueQueue.moveAll (q : CueQueue) (f : Cue → Cue) : CueQueue :=
  { q with entries := q.entries.map f }.oweClears (q.entries.filter (fun e => e.onAir && (f e).state != CueState.showing))

/-! ## Progress at a composition (R27 to R30) -/

/-- Retention (R27). -/
def CueQueue.retain (t : Nat) (q : CueQueue) : CueQueue :=
  { q with entries := q.entries.filter (fun e => !(e.state == .spent && e.stop + Config.retention < t)) }

/-- Ending, of one entry (R28). -/
def Cue.endBy (t : Nat) (e : Cue) : Cue :=
  if e.stop ≤ t then
    match e.state with
    | .showing => e.leave .spent
    | .waiting => { e with state := .spent }
    | .spent => e
  else e

/-- Ending (R28). -/
def CueQueue.ending (t : Nat) (q : CueQueue) : CueQueue :=
  let skipped := (q.entries.filter (fun e => e.state == .waiting && e.stop ≤ t && !e.everShown)).length
  let q := q.moveAll (Cue.endBy t)
  { q with skippedCue := bumpBy skipped q.skippedCue }

/-- The SHOWING entries of a track, in queue order: for one track, by start. -/
def CueQueue.showing (q : CueQueue) (track : Nat) : List Cue :=
  q.entries.filter (fun e => e.track == track && e.state == .showing)

/-- One entry becomes SHOWING; a track that already has 3 loses the earliest of them (R29, log 15). -/
def CueQueue.startOne (f : FrameNo) (q : CueQueue) (e : Cue) : CueQueue :=
  let q :=
    match q.showing e.track with
    | first :: rest =>
      if Config.showingCap ≤ (first :: rest).length then q.update first.track first.start (Cue.leave .spent) else q
    | [] => q
  q.update e.track e.start (Cue.show_ f)

/-- The cue with this track and start is SHOWING. -/
def CueQueue.shows (q : CueQueue) (track start : Nat) : Bool :=
  q.entries.any (fun e => e.is track start && e.state == .showing)

/-- Starting (R29); the clears of entries ended early are owed in queue order (R22). -/
def CueQueue.starting (t : Nat) (f : FrameNo) (q : CueQueue) : CueQueue :=
  let after := (q.entries.filter (fun e => e.state == .waiting && e.start ≤ t)).foldl (CueQueue.startOne f) q
  after.oweClears (q.entries.filter (fun e => e.onAir && !after.shows e.track e.start))

/-- The entry's owed start is late in frame f and not yet counted (R30). -/
def Cue.lateBy (f : FrameNo) (e : Cue) : Bool :=
  e.startOwed && !e.lateNoted
    && (match e.startedFrame with
        | some g => Config.lateFrames ≤ age f g
        | none => false)

/-- Lateness (R30). -/
def CueQueue.lateness (f : FrameNo) (q : CueQueue) : CueQueue :=
  { q with
    lateCue := bumpBy (q.entries.filter (Cue.lateBy f)).length q.lateCue
    entries := q.entries.map (fun e => if e.lateBy f then { e with lateNoted := true } else e) }

/-- The progress step but for its offers (R27). -/
def CueQueue.progress (state : ShowState) (t : Nat) (f : FrameNo) (q : CueQueue) : CueQueue :=
  let q := q.retain t
  if state.advances then ((q.ending t).starting t f).lateness f else q

/-! ## Offers (R31 to R33) -/

/-- A cue's text in display codes (R18). -/
def translate (tables : List Host.Cell) (table : Nat) (text : List Byte) : List Byte :=
  (text.map (fun b => Memory.read tableDefault tables (table * 256 + b.toNat))).filter (· != 0)

/-- Display codes cut into the runs of up to 28 that the text cells carry, given a bound on their number. -/
def textRuns : Nat → List Byte → List (List Byte)
  | 0, _ => []
  | n + 1, codes => if codes.isEmpty then [] else codes.take 28 :: textRuns n (codes.drop 28)

/-- Text cells numbered from a sequence number on. -/
def textCells (track start : Nat) : Nat → List (List Byte) → List Cell
  | _, [] => []
  | n, codes :: rest => .captionText track start n codes :: textCells track start (n + 1) rest

/-- The translation table that a caption track names (R2). -/
def tableOfTrack (tracks : List Track) (number : Nat) : Nat :=
  match tracks.find? (fun t => t.number == number) with
  | some t => t.table
  | none => 0

/-- The cells of a start or a refresh (R33). -/
def cueCells (show_ : ShowControl) (refresh : Bool) (e : Cue) : List Cell :=
  let codes := translate show_.tables (tableOfTrack show_.tracks e.track) e.text
  .captionHead refresh e.track e.start (e.stop - e.start) e.region e.italic e.speakerChange codes.length
    :: textCells e.track e.start 1 (textRuns 5 codes)

/-- The entry's refresh is due in frame f (R31). -/
def Cue.refreshDueBy (f : FrameNo) (e : Cue) : Bool :=
  e.state == .showing
    && (match e.refreshDue with
        | some d => dueBy f d
        | none => false)

/-- Starts offered, in queue order (R32). -/
def CueQueue.starts (q : CueQueue) : List Cue := q.entries.filter Cue.startOwed

/-- Refreshes offered, oldest due first, equal ones in queue order (R32). -/
def CueQueue.refreshes (f : FrameNo) (q : CueQueue) : List Cue :=
  sortBy (fun a b => age f (b.refreshDue.getD f) < age f (a.refreshDue.getD f)) (q.entries.filter (Cue.refreshDueBy f))

/-- Building the cells of what is offered clears changed since build (R33). -/
def CueQueue.built (f : FrameNo) (q : CueQueue) : CueQueue :=
  { q with entries := q.entries.map (fun e => if e.startOwed || e.refreshDueBy f then { e with changed := false } else e) }

/-! ## Reports (R34, R35) -/

/-- A start or refresh was placed: the whole of it went out, in frame f (R34). One built before a new show or cleared signal
finds nothing (R40). -/
def CueQueue.placed (f : FrameNo) (item : PlacedItem) (q : CueQueue) : CueQueue :=
  if item.generation != q.generation then q
  else
    let q := q.dropClear item.track item.start
    match q.find item.track item.start with
    | some e =>
      if e.state == .showing then
        q.update item.track item.start
          (fun e => { e with refreshDue := some (if e.changed then f else f + Config.refreshFrames) })
      else q.oweClear item.track item.start item.region
    | none => q.oweClear item.track item.start item.region

/-- A CAPTION CLEAR went out: the item it was built from leaves the list, if it is still there (R35). -/
def CueQueue.clearSent (serial : Nat) (q : CueQueue) : CueQueue :=
  { q with clears := q.clears.filter (fun c => c.serial != serial) }

/-! ## Signals of show control (R36 to R40) and adoptions (R41) -/

/-- t lies in the cue's window. -/
def Cue.candidate (t : Nat) (e : Cue) : Bool := e.start ≤ t && t < e.stop

/-- A candidate among the 3 of its track with the latest starts (R36). -/
def Cue.chosen (t : Nat) (all : List Cue) (e : Cue) : Bool :=
  (all.filter (fun o => o.track == e.track && o.candidate t && e.start < o.start)).length < Config.showingCap

/-- One entry set by show time t (R36). -/
def Cue.reevaluate (t : Nat) (f : FrameNo) (all : List Cue) (e : Cue) : Cue :=
  if e.stop ≤ t then
    match e.state with
    | .waiting => { e with state := .spent }
    | .showing => e.leave .spent
    | .spent => e
  else if t < e.start then
    match e.state with
    | .waiting => e
    | .showing => e.leave .waiting
    | .spent => { e with state := .waiting }
  else if e.chosen t all then
    (if e.state == .showing then e else e.show_ f)
  else e.leave .spent

/-- The re-evaluate signal (R36); jump tells the reason JUMP from START. -/
def CueQueue.reevaluate (t : Nat) (jump : Bool) (f : FrameNo) (q : CueQueue) : CueQueue :=
  let skipped := (q.entries.filter (fun e => jump && e.state == .waiting && e.stop ≤ t && !e.everShown)).length
  let q := q.moveAll (Cue.reevaluate t f q.entries)
  { q with skippedCue := bumpBy skipped q.skippedCue }

/-- The freeze signal (R38). -/
def CueQueue.freeze (q : CueQueue) : CueQueue :=
  q.moveAll (fun e => if e.state == .showing then e.leave .waiting else e)

/-- The ended signal (R39). -/
def CueQueue.endShow (q : CueQueue) : CueQueue :=
  q.moveAll (fun e => if e.state == .showing then e.leave .spent else e)

/-- The new show signal and the cleared signal (R40). -/
def CueQueue.clearAll (q : CueQueue) : CueQueue := { q with entries := [], clears := [], generation := q.generation + 1 }

/-- An adoption (R41). -/
def CueQueue.adopt (d : FrameNo) (q : CueQueue) : CueQueue :=
  { q with entries := q.entries.map (fun e =>
      { e with startedFrame := e.startedFrame.map (· + d), refreshDue := e.refreshDue.map (· + d) }) }

/-! ## CUE and CUE CANCEL (R23 to R26) -/

/-- A caption track of the track table. -/
def isCaptionTrack (tracks : List Track) (number : Nat) : Bool :=
  tracks.any (fun t => t.number == number && t.kind == .caption)

/-- The checks of R23 in order: the reason of the refusal, or none. -/
def cueRefusal (show_ : ShowControl) (track start stop region textLength : Nat) : Option Reason :=
  if show_.state == .noShow || show_.state == .ended then some .wrongState
  else if !isCaptionTrack show_.tracks track then some .noTrack
  else if Config.maxShowTime < start || stop ≤ start || start + 30000 < stop || Config.maxShowTime < stop || 3 < region
      || textLength == 0 || 120 < textLength then some .badField
  else if show_.state.advances && stop ≤ show_.clock then some .tooLate
  else none

/-- Replacement of a matching entry (R24); f is the current frame number. -/
def Cue.replace (f : FrameNo) (new e : Cue) : Cue :=
  let e := { e with stop := new.stop, region := new.region, italic := new.italic, speakerChange := new.speakerChange
                    text := new.text, changed := true }
  match e.state with
  | .waiting => e
  | .showing => if e.refreshDue.isSome then { e with refreshDue := some f } else e
  | .spent => { e with state := .waiting }

/-- The SPENT entry that gives way to a new one: earliest end, then queue order (R25). -/
def CueQueue.victim (q : CueQueue) : Option Cue :=
  firstBy (fun a b => a.stop < b.stop) (q.entries.filter (fun e => e.state == .spent))

/-- A CUE that passed the checks: replacement (R24) or insertion (R25); none when the queue is full. -/
def CueQueue.take (f : FrameNo) (new : Cue) (q : CueQueue) : Option CueQueue :=
  match q.find new.track new.start with
  | some _ => some (q.update new.track new.start (Cue.replace f new))
  | none =>
    if q.entries.length < Config.maxCues then some { q with entries := insertBy cueBefore new q.entries }
    else
      match q.victim with
      | some v =>
        let q := q.remove v.track v.start
        some { q with entries := insertBy cueBefore new q.entries }
      | none => none

/-- A CUE CANCEL in range: the entry is removed, a clear owed if it was on air (R26). -/
def CueQueue.cancel (track start : Nat) (q : CueQueue) : CueQueue :=
  match q.find track start with
  | some e =>
    let q := q.remove track start
    if e.onAir then q.oweClear track start e.region else q
  | none => q

end Sys2Proof.Machine
end

