-- ==== Sys2Proof/Machine/RadioPort.lean ====
section
/-! DEFINITION. The burst plan's outcomes and the radio port (04, sections 4.6 to 4.9): reports to the cue queue, tuning,
cancellation at an eviction, and the stop on leaving JOINED. -/

namespace Sys2Proof.Machine

/-! ## Outcomes (R73, R34, R35) -/

/-- The plan's record of an item after the burst in a position was sent. -/
def PlacedItem.sentIn (p : Position) (i : PlacedItem) : PlacedItem := { i with open_ := i.open_.filter (· != p) }

/-- Every burst that carries the item's cells has been sent, the last of them in position p. -/
def PlacedItem.completedBy (p : Position) (i : PlacedItem) : Bool := i.open_.contains p && (i.sentIn p).open_.isEmpty

/-- The outcome SENT of the burst in a position, reported to the cue queue (R73): its clears leave the clear list, and the
starts and refreshes it completes are placed. The manual gives no order among the reports of one burst: the clears are
reported first, then the items in the order in which the plan recorded them (log 40). -/
def State.reportSent (p : Position) (s : State) : State :=
  let cues := (s.plan.clears.filter (fun c => c.burst == p)).foldl (fun q c => q.clearSent c.serial) s.cues
  let cues := (s.plan.items.filter (PlacedItem.completedBy p)).foldl (fun q i => q.placed s.timing.frameNumber i) cues
  { s with
    cues := cues
    plan := { s.plan with clears := s.plan.clears.filter (fun c => c.burst != p)
                          items := (s.plan.items.map (PlacedItem.sentIn p)).filter (fun i => !i.open_.isEmpty) } }

/-- The outcome SKIPPED, CANCELLED or CUT of the burst in a position (R73): its clears stay on the list, and every item with
cells in it is not placed. -/
def State.reportUnsent (p : Position) (s : State) : State :=
  { s with
    plan := { s.plan with clears := s.plan.clears.filter (fun c => c.burst != p)
                          items := s.plan.items.filter (fun i => !i.bursts.contains p) } }

/-- The progress of the burst in a position. -/
def Composer.setProgress (p : Position) (g : Progress) (c : Composer) : Composer :=
  { c with bursts := c.bursts.map (fun b => if b.position == p then { b with progress := g } else b) }

def State.setProgress (p : Position) (g : Progress) (s : State) : State := { s with plan := s.plan.setProgress p g }

/-! ## Tuning (R74, R75) -/

/-- The port tunes: the tuned carrier is the new one, and lock-confirm starts afresh (R74). -/
def RadioPort.tune (now : Nat) (c : Fin 8) (r : RadioPort) : RadioPort :=
  { r with tuned := some c, lockedSince := if r.lockIndicator then some now else none }

/-- The port tunes if the carrier it needs differs from the tuned one (R75). -/
def State.need (c : Option (Fin 8)) (s : State) : State :=
  match c with
  | some c => if s.radio.tuned == some c then s else { s with radio := s.radio.tune s.timing.localTime c }
  | none => s

/-- The next PLANNED burst of the frame: the plan stands in slot order (R63). -/
def Composer.nextPlanned (c : Composer) : Option Burst := c.bursts.find? (fun b => b.progress == .planned)

/-- The carrier needed at the end of a slot: that of the next PLANNED burst, else that of the held position with the lowest
slot (R75). -/
def State.slotEndCarrier (s : State) : Option (Fin 8) :=
  match s.plan.nextPlanned with
  | some b => some b.position.carrier
  | none => (firstBy (fun a b => a.position.slot < b.position.slot) s.pm.holdings).map (·.position.carrier)

/-- The choice of carrier at the end of a slot; none is made outside JOINED (R75, R81). -/
def State.retune (s : State) : State := if s.loader.station == .joined then s.need s.slotEndCarrier else s

/-- The port still serves the slot of a burst: it is SENDING or in its reply gap (R75, first row). -/
def Activity.occupiesSlot : Activity → Bool
  | .sending => true
  | .gap => true
  | .gapDone => true
  | _ => false

/-! ## Changes during a frame (R78, R81) -/

/-- An eviction cancels the PLANNED burst in the position, and the port chooses its carrier afresh unless it is SENDING
(R78, R75). -/
def State.cancelBurst (p : Position) (s : State) : State :=
  if s.plan.bursts.any (fun b => b.position == p && b.progress == .planned) then
    let s := (s.setProgress p .cancelled).reportUnsent p
    if s.radio.activity == .sending then s else s.retune
  else s

/-- Leaving JOINED: the SENDING burst is CUT, the PLANNED ones are CANCELLED, no reply gap is listened in (R81). -/
def State.stopRadio (s : State) : State :=
  let stopped := s.plan.bursts.filter (fun b => b.progress == .planned || b.progress == .sending)
  let s := stopped.foldl
    (fun s b => (s.setProgress b.position (if b.progress == .sending then .cut else .cancelled)).reportUnsent b.position) s
  { s with radio := { s.radio with activity := .idle, onAir := none } }

end Sys2Proof.Machine
end

