-- ==== Sys2Proof/Machine/Composer.lean ====
section
/-! DEFINITION. The composition (04, sections 4.1 to 4.5): one burst for each held position, filled by level. -/

namespace Sys2Proof.Machine

/-! ## Places (R65, R66) -/

/-- The places of a frame in place order: a cell, or free. -/
abbrev Places := List (Option Cell)

def freePlaces (ps : Places) : Nat := (ps.filter Option.isNone).length

/-- Cells put into the first free places, in order. -/
def fillPlaces : List Cell → Places → Places
  | [], ps => ps
  | _ :: _, [] => []
  | cs, some x :: ps => some x :: fillPlaces cs ps
  | c :: cs, none :: ps => some c :: fillPlaces cs ps

/-- The numbers, from i on, of the first n free places. -/
def freeNumbers : Nat → Nat → Places → List Nat
  | 0, _, _ => []
  | _ + 1, _, [] => []
  | n + 1, i, some _ :: ps => freeNumbers (n + 1) (i + 1) ps
  | n + 1, i, none :: ps => i :: freeNumbers n (i + 1) ps

/-- The frame under construction: its places, and the plan's records of items and clears. -/
structure Draft where
  /-- the held positions in slot order, one for each burst -/
  positions : List Position
  places : Places
  items : List PlacedItem
  clears : List PlacedClear
deriving DecidableEq, Repr

/-- The bursts in which the next n free places lie, without repeats. -/
def Draft.burstsOf (d : Draft) (n : Nat) : List Position :=
  ((freeNumbers n 0 d.places).filterMap (fun i => d.positions[i / Config.burstCells]?)).dedup

/-- An item that fits takes the first free places; one that does not is passed over (R66). -/
def Draft.fits (d : Draft) (cells : List Cell) : Bool := cells.length ≤ freePlaces d.places

def Draft.put (d : Draft) (cells : List Cell) : Draft := { d with places := fillPlaces cells d.places }

/-- A single cell, if it fits. -/
def Draft.putIfFits (d : Draft) (c : Cell) : Draft := if d.fits [c] then d.put [c] else d

/-! ## The levels (R67 to R71) -/

/-- The held positions in slot order (R63, R65). -/
def heldInSlotOrder (hs : List Stamped) : List Position :=
  (sortBy (fun a b => a.position.slot < b.position.slot) hs).map (·.position)

/-- The held position with the oldest stamp (R65). -/
def beaconPosition (now : FrameNo) (hs : List Stamped) : Option Position :=
  (firstBy (fun a b => age now b.stamp < age now a.stamp) hs).map (·.position)

/-- The BEACON cell (R67). -/
def State.beaconCell (s : State) (held : List Position) : Cell :=
  .beacon s.cfg.number s.show_.state s.show_.session s.show_.clock held (s.timing.frameNumber.setWidth 16)

/-- Six free places for each burst, the BEACON in place 1 of the beacon burst (R65). -/
def beaconPlaces (beacon : Cell) (at_ : Option Position) : List Position → Places
  | [] => []
  | p :: ps =>
    (if at_ == some p then some beacon else none) :: List.replicate (Config.burstCells - 1) none ++ beaconPlaces beacon at_ ps

/-- A DIRECTORY is due in frames whose number is a multiple of 25 (R68). -/
def directoryDue (f : FrameNo) : Bool := f.toNat % 25 == 0

/-- Level 3: one AUDIO cell for each block handed over; a block passed over is dropped and counted (R69). -/
def placeAudio : List AudioOffer → Draft → Nat → Draft × Nat
  | [], d, dropped => (d, dropped)
  | a :: rest, d, dropped =>
    if d.fits [.audio a.track a.block] then placeAudio rest (d.put [.audio a.track a.block]) dropped
    else placeAudio rest d (dropped + 1)

/-- Level 2, first: acknowledgements drained six to a cell while a place is free (R70); fuel bounds the cells. -/
def drainAcks : Nat → List Ack → Draft → Draft × List Ack
  | 0, acks, d => (d, acks)
  | fuel + 1, acks, d =>
    if acks.isEmpty || freePlaces d.places == 0 then (d, acks)
    else drainAcks fuel (acks.drop 6) (d.put [.ack (acks.take 6)])

/-- Level 2, second: one CAPTION CLEAR for each item of the clear list (R71). -/
def placeClear (d : Draft) (c : ClearItem) : Draft :=
  let cell : Cell := .captionClear c.track c.start c.region
  if d.fits [cell] then
    { d.put [cell] with clears := d.clears ++ (d.burstsOf 1).map (fun p => { burst := p, serial := c.serial }) }
  else d

/-- A start or a refresh: all its cells, or none (R71); the plan records its bursts. -/
def placeCue (show_ : ShowControl) (generation : Nat) (refresh : Bool) (d : Draft) (e : Cue) : Draft :=
  let cells := cueCells show_ refresh e
  if d.fits cells then
    let bursts := d.burstsOf cells.length
    { d.put cells with items := d.items ++ [{ track := e.track, start := e.start, region := e.region, bursts := bursts
                                              open_ := bursts, generation := generation }] }
  else d

/-- The places cut into the bursts of the plan, FILL in every place left (R66). -/
def burstsFrom (beacon : Option Position) : List Position → Places → List Burst
  | [], _ => []
  | p :: ps, places =>
    { position := p, cells := (places.take Config.burstCells).map (fun c => c.getD .fill), beacon := beacon == some p
      progress := .planned } :: burstsFrom beacon ps (places.drop Config.burstCells)

/-! ## The composition (R64) -/

/-- Steps 1 to 5 of R64, for the frame whose number the station now has. -/
def State.compose (s : State) : State :=
  let f := s.timing.frameNumber
  let held := heldInSlotOrder s.pm.holdings
  let beacon := beaconPosition f s.pm.holdings
  let cues := s.cues.progress s.show_.state s.show_.clock f
  let clip := s.clips.progress s.show_
  let d : Draft := { positions := held, places := beaconPlaces (s.beaconCell held) beacon held, items := [], clears := [] }
  let d := if directoryDue f then d.putIfFits (.directory s.show_.tracks) else d
  let audio := placeAudio clip.audio d 0
  let acks := drainAcks s.roster.acks.length s.roster.acks audio.1
  let d := cues.clears.foldl placeClear acks.1
  let d := cues.starts.foldl (placeCue s.show_ cues.generation false) d
  let d := (cues.refreshes f).foldl (placeCue s.show_ cues.generation true) d
  let bursts := burstsFrom beacon held d.places
  let s := { s with
    cues := cues.built f
    clips := clip.store
    roster := { s.roster with acks := acks.2 }
    plan := { bursts := bursts, items := d.items, clears := d.clears, underrun := bumpBy audio.2 s.plan.underrun }
    link := if clip.late then s.link.raise .lateClip else s.link }
  if s.radio.activity.occupiesSlot then s else s.need (bursts.head?.map (·.position.carrier))

/-- A silent frame begins: the previous plan is discarded and none is built (R80). -/
def State.silence (s : State) : State := { s with plan := { s.plan with bursts := [], items := [], clears := [] } }

end Sys2Proof.Machine
end

