-- ==== Sys2Proof/Machine/HouseLine.lean ====
section
/-! DEFINITION. The house line controller's outbound queue, quiet intervals, and the beginning and end of messages on the line
(07). -/

namespace Sys2Proof.Machine

/-! ## Outbound queue (R115 to R117) -/

/-- The class of a waiting message, 1 highest (R113). -/
def WaitingBody.class_ : WaitingBody → Nat
  | .object _ _ _ _ => 1
  | .release _ _ => 2
  | .claim _ _ => 3
  | .announce => 4

/-- Queue order: by class, within a class by order of arrival (R115). -/
def waitingBefore (a b : Waiting) : Bool :=
  a.body.class_ < b.body.class_ || (a.body.class_ == b.body.class_ && a.arrival < b.arrival)

def isAnnounce (w : Waiting) : Bool := w.body.class_ == 4

/-- A message joins the queue (R116). An ANNOUNCE that meets a waiting one changes nothing: a new one takes the waiting one's
place and conflict count, and neither has content before its start mark (R114); a returning one is discarded. -/
def HouseLine.join (m : Waiting) (l : HouseLine) : HouseLine :=
  if isAnnounce m && l.queue.any isAnnounce then l
  else if l.queue.length < Config.maxMessages then { l with queue := insertBy waitingBefore m l.queue }
  else
    match l.queue.getLast? with
    | none => l
    | some last =>
      if last.body.class_ ≤ m.body.class_ then { l with dropped := bump l.dropped }
      else { l with queue := insertBy waitingBefore m l.queue.dropLast, dropped := bump l.dropped }

/-- A message is handed to the controller. -/
def HouseLine.hand (body : WaitingBody) (l : HouseLine) : HouseLine :=
  { l.join { body, conflicts := 0, arrival := l.nextArrival } with nextArrival := l.nextArrival + 1 }

/-- A message handed over in JOINED joins the queue; in any other station state it is discarded (R116, R120). -/
def State.handOver (body : WaitingBody) (s : State) : State :=
  if s.loader.station == .joined then { s with line := s.line.hand body } else s

/-- A CLAIM that still waits for a claim that has ended is removed (R117). -/
def HouseLine.withdrawClaim (c : Stamped) (l : HouseLine) : HouseLine :=
  { l with queue := l.queue.filter (fun w => w.body != .claim c.position c.stamp) }

/-- A waiting OBJECT's window has passed at the boundary that begins frame f (R117). -/
def Waiting.windowPassed (f : FrameNo) (w : Waiting) : Bool :=
  match w.body with
  | .object _ _ _ windowEnd => dueBy f windowEnd
  | _ => false

/-- The first waiting OBJECT whose window has passed is removed and counted (R117). -/
def HouseLine.dropPassed (f : FrameNo) (l : HouseLine) : HouseLine :=
  match l.queue.find? (Waiting.windowPassed f) with
  | some w => { l with queue := l.queue.erase w, dropped := bump l.dropped }
  | none => l

/-- An adoption translates the window end of an OBJECT (R117). -/
def Waiting.adopt (d : FrameNo) (w : Waiting) : Waiting :=
  match w.body with
  | .object p stamp claimant windowEnd => { w with body := .object p stamp claimant (windowEnd + d) }
  | _ => w

/-- Every waiting OBJECT is translated, and with them one in transmission, which may meet a conflict and wait again (R117,
log 39). -/
def HouseLine.adopt (d : FrameNo) (l : HouseLine) : HouseLine :=
  { l with queue := l.queue.map (Waiting.adopt d)
           sending := l.sending.map (fun m => { m with waiting := m.waiting.adopt d }) }

/-! ## Winning the line (R118) -/

/-- Whole bit times since the line became quiet (R112). -/
def HouseLine.quietCount (l : HouseLine) : Nat := l.quietMicros / 2

/-- The quiet interval of a message: class base, station number, 32 bit times for each conflict (R118). -/
def quietInterval (number : Nat) (w : Waiting) : Nat :=
  (match w.body with
    | .object _ _ _ _ => 2
    | .release _ _ => 36
    | .claim _ _ => 70
    | .announce => 104)
  + number + 32 * w.conflicts

/-- A start mark on the line: it is busy, the quiet count 0, and the station's own frame number and phase are read (R112,
R124). -/
def HouseLine.startMark (frame : FrameNo) (phase : Nat) (l : HouseLine) : HouseLine :=
  { l with busy := true, quietMicros := 0, heardFrame := frame, heardPhase := phase }

/-- A message has ended: the line is quiet (R112). -/
def HouseLine.endMessage (l : HouseLine) : HouseLine := { l with busy := false, quietMicros := 0, ownConflict := false }

/-- A message of another station can end now: one is on the line, and the station itself does not send. -/
def HouseLine.hearing (l : HouseLine) : Bool := l.receiving && l.busy && l.sending.isNone

/-- Leaving JOINED stops the controller: the line is released, every message discarded, no counter changed (R120). A message
it was sending breaks off, and its remains are the station's own (R122). -/
def HouseLine.stop (l : HouseLine) : HouseLine :=
  { l with queue := [], sending := none, ownConflict := l.ownConflict || l.sending.isSome }

end Sys2Proof.Machine
end

