-- ==== Sys2Proof/Machine/PeerTable.lean ====
section
/-! DEFINITION. The peer table (08): conflict, what each message does to a record, claims that pass, expiry, adoptions, and the
table's answers on eligibility, occupancy and precedence. -/

namespace Sys2Proof.Machine

/-! ## Records (R125, R126) -/

def findPeer (peers : List PeerRecord) (n : Nat) : Option PeerRecord := peers.find? (·.number == n)

def updatePeer (peers : List PeerRecord) (n : Nat) (f : PeerRecord → PeerRecord) : List PeerRecord :=
  peers.map (fun r => if r.number == n then f r else r)

def removePeer (peers : List PeerRecord) (n : Nat) : List PeerRecord := peers.filter (fun r => r.number != n)

/-- The station and a peer conflict when either neighbour set names the other; the own number is ignored (R126). -/
def conflicts (cfg : ConfigImage) (r : PeerRecord) : Bool :=
  (r.number != cfg.number && inNeighbours cfg.neighbours r.number) || inNeighbours r.neighbours cfg.number

/-- A record is eligible when it is not stale and shows PACE or LOCKED (R136). -/
def PeerRecord.eligible (r : PeerRecord) : Bool := !r.stale && (r.timing == .pace || r.timing == .locked)

/-- The lowest-numbered eligible record of any number (R136). -/
def lowestEligible (peers : List PeerRecord) : Option Nat :=
  (firstBy (fun a b => a.number < b.number) (peers.filter PeerRecord.eligible)).map (·.number)

/-- The lowest-numbered eligible record below a number (R136). -/
def lowestEligibleBelow (peers : List PeerRecord) (own : Nat) : Option Nat :=
  lowestEligible (peers.filter (fun r => r.number < own))

/-- A new record (R127); its timing state and measurement are set with the message that creates it. -/
def PeerRecord.fresh (n : Nat) : PeerRecord :=
  { number := n, neighbours := 0, timing := .listen, offset := 0, frameDiff := 0, lastHeard := 0, stale := false
    holdings := [], claim := none }

/-! ## Holdings of a record (R128) -/

/-- A record's holdings without the entry that gives way: the newest stamp; of equal stamps the one added last. Which of the
entries of one ANNOUNCE that is, is log 53. -/
def withoutNewest (now : FrameNo) (hs : List Stamped) : List Stamped :=
  match firstBy (fun a b => age now a.stamp < age now b.stamp) hs.reverse with
  | some h => (hs.reverse.erase h).reverse
  | none => hs

/-- A position enters a record's holdings, now being the current frame number in the peer's numbering; a position already
there takes the new stamp if restamp is set, and else keeps its own (R131, R133). -/
def addHolding (now : FrameNo) (restamp : Bool) (new : Stamped) (hs : List Stamped) : List Stamped :=
  if hs.any (fun h => h.position == new.position) then
    (if restamp then hs.map (fun h => if h.position == new.position then { h with stamp := new.stamp } else h) else hs)
  else if hs.length < 4 then hs ++ [new]
  else withoutNewest now hs ++ [new]

/-- The older of two stamps; which of two stamps 2^31 apart is kept is free (R128, log 14). -/
def olderStamp (a b : FrameNo) : FrameNo :=
  if older a b then a
  else if older b a then b
  else if a == b then a
  else if Config.keepsFirstOfOpposite a b then a else b

/-- An ANNOUNCE's holdings with no position twice: a repeated one stands once, under the older stamp (R128). Of a position listed
more than twice the stamps are compared two at a time in the order of the list (log 43). The entries count as added in the order of
the list, a repeated position at its first place (log 53). -/
def dedupHoldings : List Stamped → List Stamped → List Stamped
  | acc, [] => acc
  | acc, h :: hs =>
    if acc.any (fun a => a.position == h.position) then
      dedupHoldings (acc.map (fun a => if a.position == h.position then { a with stamp := olderStamp a.stamp h.stamp } else a))
        hs
    else dedupHoldings (acc ++ [h]) hs

/-! ## Taking messages (R127, R129 to R132) -/

/-- The measurement of R101: offset and frame difference. -/
structure Measurement where
  offset : Int
  frameDiff : FrameNo
deriving DecidableEq, Repr

/-- R101: the raw difference folded into −10,000 to +9,999 µs. -/
def measure (sender : Sender) (ownFrame : FrameNo) (ownPhase : Nat) : Measurement :=
  let raw : Int := (sender.phase : Int) - (ownPhase : Int)
  let base := sender.frame - ownFrame
  if 10000 ≤ raw then { offset := raw - 20000, frameDiff := base + 1 }
  else if raw < -10000 then { offset := raw + 20000, frameDiff := base - 1 }
  else { offset := raw, frameDiff := base }

/-- The table with a record for a sender, in ascending number (R127). -/
def ensurePeer (peers : List PeerRecord) (n : Nat) : List PeerRecord :=
  if peers.any (fun r => r.number == n) then peers
  else insertBy (fun a b => a.number < b.number) (PeerRecord.fresh n) peers

/-- What every message does to its sender's record (R127). -/
def takeCommon (sender : Sender) (m : Measurement) (ownFrame : FrameNo) (peers : List PeerRecord) : List PeerRecord :=
  updatePeer (ensurePeer peers sender.number) sender.number (fun r =>
    { r with timing := sender.timing, offset := m.offset, frameDiff := m.frameDiff, lastHeard := ownFrame })

/-- A record's pending claim with its window end in the station's own numbering (R129). -/
def PeerRecord.claimOf (r : PeerRecord) (c : Stamped) : PeerClaim :=
  { position := c.position, stamp := c.stamp, windowEnd := c.stamp + Config.claimWindow - r.frameDiff }

/-- The record's pending claim passes into its holdings, f being the station's frame number (R133). -/
def PeerRecord.passClaim (f : FrameNo) (r : PeerRecord) : PeerRecord :=
  match r.claim with
  | some c =>
    { r with holdings := addHolding (f + r.frameDiff) false { position := c.position, stamp := c.stamp } r.holdings
             claim := none }
  | none => r

/-- The record's pending claim has run out its window at the boundary that begins frame f (R133). -/
def PeerRecord.claimDue (f : FrameNo) (r : PeerRecord) : Bool :=
  match r.claim with
  | some c => dueBy f c.windowEnd
  | none => false

/-- ANNOUNCE (R129), f being the current frame number: neighbour set, holdings and pending claim replaced, stale cleared. -/
def PeerRecord.takeAnnounce (f : FrameNo) (a : AnnounceFields) (r : PeerRecord) : PeerRecord :=
  let r := { r with neighbours := a.neighbours, holdings := dedupHoldings [] a.holdings, claim := a.claim.map r.claimOf
                    stale := false }
  if r.claimDue f then r.passClaim f else r

/-- CLAIM (R130). -/
def PeerRecord.takeClaim (c : Stamped) (r : PeerRecord) : PeerRecord := { r with claim := some (r.claimOf c) }

/-- OBJECT, the objector's part (R131). -/
def PeerRecord.takeObject (f : FrameNo) (h : Stamped) (r : PeerRecord) : PeerRecord :=
  { r with holdings := addHolding (f + r.frameDiff) true h r.holdings }

/-- OBJECT, the claimant's part (R131). -/
def PeerRecord.loseClaim (p : Position) (r : PeerRecord) : PeerRecord :=
  if r.claim.any (fun c => c.position == p) then { r with claim := none } else r

/-- RELEASE (R132). -/
def PeerRecord.takeRelease (p : Position) (r : PeerRecord) : PeerRecord :=
  { r with holdings := r.holdings.filter (fun h => h.position != p) }

/-! ## Expiry and adoption (R134, R135) -/

/-- The record was last heard 150 or more frames before frame f (R134). -/
def PeerRecord.expired (f : FrameNo) (r : PeerRecord) : Bool :=
  Config.peerFrames ≤ age f r.lastHeard && age f r.lastHeard < 2147483648

/-- A record carried into the adopted timing: d the adoption difference, p the adopted phase (R135). -/
def PeerRecord.adopt (d : FrameNo) (p : Nat) (r : PeerRecord) : PeerRecord :=
  let combined : Int := (r.frameDiff.toNat : Int) * 20000 + r.offset - ((d.toNat : Int) * 20000 + (p : Int))
  let frames : Int := (combined + 10000) / 20000
  { r with
    lastHeard := r.lastHeard + d
    claim := r.claim.map (fun c => { c with windowEnd := c.windowEnd + d })
    offset := combined - frames * 20000
    frameDiff := BitVec.ofInt 32 frames }

/-! ## Answers to the position manager (R137, R138) -/

def PeerRecord.holds (r : PeerRecord) (p : Position) : Bool := r.holdings.any (fun h => h.position == p)

def PeerRecord.claims (r : PeerRecord) (p : Position) : Bool := r.claim.any (fun c => c.position == p)

/-- The answer to the question who occupies a position: every conflicting record that holds it and every one that claims it,
by number (R137). -/
structure Occupants where
  holders : List Nat
  claimants : List Nat
deriving DecidableEq, Repr

/-- Who occupies the position; stale records count (R137). -/
def occupants (cfg : ConfigImage) (peers : List PeerRecord) (p : Position) : Occupants :=
  { holders := (peers.filter (fun r => conflicts cfg r && r.holds p)).map (·.number)
    claimants := (peers.filter (fun r => conflicts cfg r && r.claims p)).map (·.number) }

/-- The position is occupied: a conflicting record holds or claims it (R137). -/
def occupied (cfg : ConfigImage) (peers : List PeerRecord) (p : Position) : Bool :=
  !((occupants cfg peers p).holders.isEmpty && (occupants cfg peers p).claimants.isEmpty)

/-- A record's holding of the position has precedence over the station's with this stamp (R138). -/
def PeerRecord.precedesAt (cfg : ConfigImage) (p : Position) (stamp : FrameNo) (r : PeerRecord) : Bool :=
  conflicts cfg r && !r.stale
    && r.holdings.any (fun h => h.position == p && precedes h.stamp r.number stamp cfg.number)

/-- The stamp under which a record holds a position. -/
def PeerRecord.stampAt (r : PeerRecord) (p : Position) : Option FrameNo :=
  (r.holdings.find? (fun h => h.position == p)).map (·.stamp)

/-- Of two holders of a position the first has precedence over the second. -/
def holderPrecedes (p : Position) (a b : PeerRecord) : Bool :=
  match a.stampAt p, b.stampAt p with
  | some x, some y => precedes x a.number y b.number
  | _, _ => false

/-- The answer to the precedence question over one of the station's holdings: the number of the peer with the highest
precedence among those that have precedence over the station, or none, which is the answer "station" (R138). -/
def precedenceOver (cfg : ConfigImage) (peers : List PeerRecord) (h : Stamped) : Option Nat :=
  (firstBy (holderPrecedes h.position) (peers.filter (PeerRecord.precedesAt cfg h.position h.stamp))).map (·.number)

/-- The answer is "peer" (R138). -/
def peerPrecedes (cfg : ConfigImage) (peers : List PeerRecord) (h : Stamped) : Bool := (precedenceOver cfg peers h).isSome

end Sys2Proof.Machine
end

