-- ==== Sys2Proof/Machine/PositionManager.lean ====
section
/-! DEFINITION. The position manager (09): demand, candidates, claims, answers to peers, eviction, release, starvation,
adoption and leaving JOINED, and the steps it takes at a frame boundary. -/

namespace Sys2Proof.Machine

def State.joined (s : State) : Bool := s.loader.station == .joined

/-! ## Demand (R140, R141) -/

/-- A track is active while it has listeners or is carry-always (R140). -/
def Track.active (counts : PerTrack) (t : Track) : Bool := 0 < counts.get t.number || t.carryAlways

/-- Cells wanted: 1, plus 1 for each active DESCRIPTION track, plus 3 for each active CAPTION track (R140). -/
def cellsWanted (counts : PerTrack) (tracks : List Track) : Nat :=
  1 + (tracks.filter (fun t => t.active counts && t.kind == .description)).length
    + 3 * (tracks.filter (fun t => t.active counts && t.kind == .caption)).length

/-- Demand, in slots (R140). -/
def demandFor (state : ShowState) (counts : PerTrack) (tracks : List Track) (maxHoldings : Nat) : Nat :=
  match state with
  | .noShow => 0
  | .ended => 1
  | _ => min ((cellsWanted counts tracks + 5) / 6) maxHoldings

/-! ## Hold-down and starvation conditions (R152, R154) -/

/-- The hold-down runs (R152). -/
def holdDownRuns (joined : Bool) (p : PositionManager) : Bool :=
  joined && 0 < p.demand && p.demand < p.holdings.length && p.claim.isNone

/-- The starvation count runs (R154). -/
def starvationRuns (joined : Bool) (p : PositionManager) : Bool := joined && 0 < p.demand && p.holdings.isEmpty

/-- Each count becomes 0, and starved clear, whenever one of its conditions has stopped holding (R152, R154). -/
def settle (joined : Bool) (p : PositionManager) : PositionManager :=
  { p with
    holdDown := if holdDownRuns joined p then p.holdDown else 0
    starvation := if starvationRuns joined p then p.starvation else 0
    starved := p.starved && starvationRuns joined p }

/-- The position manager changed, its counts settled. -/
def State.setPm (p : PositionManager) (s : State) : State := { s with pm := settle s.joined p }

/-! ## Candidates (R142) -/

/-- The smaller way round between two slots (00, Conventions). -/
def cyclicDistance (a b : Fin 8) : Nat :=
  let d := if a.val ≤ b.val then b.val - a.val else a.val - b.val
  min d (8 - d)

/-- The positions in order of position index: licensed carriers only, carrier by carrier (00, Conventions). -/
def positionsOf (carriers : BitVec 8) : List Position :=
  ((List.finRange 8).filter (fun c => carriers.getLsbD c.val)).flatMap
    (fun c => (List.finRange 8).map (fun slot => { carrier := c, slot := slot }))

/-- Held positions on different carriers stand at least 2 slots apart (R142, condition 2). -/
def spaced (p q : Position) : Bool := p.carrier == q.carrier || 2 ≤ cyclicDistance p.slot q.slot

/-- The position is a candidate (R142). -/
def State.isCandidate (s : State) (p : Position) : Bool :=
  s.cfg.carriers.getLsbD p.carrier.val
    && s.pm.holdings.all (fun h => h.position != p && spaced p h.position)
    && !occupied s.cfg s.peers p

/-- The scan's order: from index (station number − 1) modulo the number of positions, upward and round (R142). -/
def scanOrder (cfg : ConfigImage) : List Position :=
  let ps := positionsOf cfg.carriers
  let first := (cfg.number - 1) % ps.length
  ps.drop first ++ ps.take first

def State.scan (s : State) : Option Position := (scanOrder s.cfg).find? s.isCandidate

/-! ## Claims (R143 to R148) -/

/-- Conditions 1 to 6 of R143. -/
def State.mayClaim (s : State) : Bool :=
  s.joined && (s.timing.state == .pace || s.timing.state == .locked) && s.pm.claim.isNone && !s.pm.claimRest
    && s.pm.holdings.length + 1 ≤ s.cfg.maxHoldings && s.pm.holdings.length < s.pm.demand

/-- A claim is issued for a position, stamped with the current frame number: at a boundary in hand, that of the frame it
begins (R143, R156; log 5). -/
def State.issueClaim (p : Position) (s : State) : State :=
  let c : Stamped := { position := p, stamp := s.timing.boundaryFrame }
  (s.setPm { s.pm with claim := some c }).handOver (.claim c.position c.stamp)

/-- A claim attempt (R143). -/
def State.claimAttempt (s : State) : State :=
  if s.mayClaim then
    match s.scan with
    | some p => s.issueClaim p
    | none => s
  else s

/-- The pending claim ends other than by entering the holdings: withdrawn, or abandoned (R147, R148, R155). -/
def State.abandonClaim (s : State) : State :=
  match s.pm.claim with
  | some c =>
    let s := s.setPm { s.pm with claim := none, claimRest := true, abandoned := bump s.pm.abandoned }
    { s with line := s.line.withdrawClaim c }
  | none => s

/-- Demand worked out afresh; a rise clears the hold-down and makes a claim attempt (R141). -/
def State.recomputeDemand (s : State) : State :=
  let demand := demandFor s.show_.state s.pm.counts s.show_.tracks s.cfg.maxHoldings
  if s.pm.demand < demand then (s.setPm { s.pm with demand := demand, holdDown := 0 }).claimAttempt
  else s.setPm { s.pm with demand := demand }

/-- A count report of the roster unit (R91, R141). -/
def State.countReport (s : State) : State :=
  State.recomputeDemand { s with pm := { s.pm with counts := s.roster.counts } }

/-- The new show and cleared signals: every count as last reported becomes 0 (R141). -/
def State.demandNewShow (s : State) : State :=
  State.recomputeDemand { s with pm := { s.pm with counts := .zero } }

/-! ## Eviction and release (R149 to R153) -/

/-- Holdings in ascending position index: carriers and slots both rise with it. -/
def byIndex (hs : List Stamped) : List Stamped :=
  sortBy (fun a b => positionCode a.position < positionCode b.position) hs

/-- Steps 1 to 6 of R151. -/
def State.evictOnly (h : Stamped) (s : State) : State :=
  let s := s.setPm { s.pm with holdings := s.pm.holdings.filter (fun o => o.position != h.position)
                               evictions := bump s.pm.evictions }
  ((s.cancelBurst h.position).handOver (.release h.position .evicted)).raise .evicted

/-- Those of some holdings over which a peer has precedence are evicted, in ascending position index, and one claim attempt
follows the last (R149, R151). -/
def State.evictWhere (asked : Stamped → Bool) (s : State) : State :=
  let losers := byIndex (s.pm.holdings.filter (fun h => asked h && peerPrecedes s.cfg s.peers h))
  if losers.isEmpty then s else (losers.foldl (fun s h => s.evictOnly h) s).claimAttempt

/-- A holding is released for falling or absent demand (R152, R153). -/
def State.releaseHolding (h : Stamped) (s : State) : State :=
  (s.setPm { s.pm with holdings := s.pm.holdings.filter (fun o => o.position != h.position) }).handOver
    (.release h.position .demand)

/-- The holding with the newest stamp (00, Time). -/
def newestHolding (now : FrameNo) (hs : List Stamped) : Option Stamped :=
  firstBy (fun a b => age now a.stamp < age now b.stamp) hs

/-! ## Steps at a boundary (R156)

The position manager's five steps at the boundary that begins frame f. Releasing at a hold-down count of 5 and the entry of a
claim are rows of their own (HOLD_DOWN_RELEASE, CLAIM_WINDOW_END); see log 6. -/

/-- Step 1: at demand 0 every holding is released, in ascending position index (R153). -/
def State.releaseAtZero (s : State) : State :=
  if s.pm.demand == 0 then (byIndex s.pm.holdings).foldl (fun s h => s.releaseHolding h) s else s

/-- Step 2: at a second tick the hold-down count advances (R152). -/
def State.holdDownTick (f : FrameNo) (s : State) : State :=
  if isSecondTick f && holdDownRuns s.joined s.pm then { s with pm := { s.pm with holdDown := min 5 (s.pm.holdDown + 1) } }
  else s

/-- Step 4: the starvation count advances (R154), the claim rest is cleared, and a claim attempt is made. -/
def State.tickAttempt (s : State) : State :=
  let starvation := if starvationRuns s.joined s.pm then min 10 (s.pm.starvation + 1) else s.pm.starvation
  State.claimAttempt { s with pm := { s.pm with starvation := starvation, claimRest := false } }

/-- The pending claim has run out its window at the boundary that begins frame f (R144, R156). -/
def claimDue (f : FrameNo) (p : PositionManager) : Bool :=
  match p.claim with
  | some c => dueBy f (c.stamp + Config.claimWindow)
  | none => false

/-- Step 4 that waits for a claim whose window ends at this very instant, once that claim has ended another way: with nothing left
to enter, step 3 is over, and step 4 is taken (R156, log 6). -/
def State.owedTick (s : State) : State :=
  if s.pm.tickOwed && s.timing.boundaryOpen && s.pm.claim.isNone then
    State.tickAttempt { s with pm := { s.pm with tickOwed := false } }
  else s

/-- Steps 1, 2 and 4 at FRAME_BOUNDARY; step 4 waits for CLAIM_WINDOW_END where a claim enters first (step 3). -/
def State.managerBoundary (f : FrameNo) (s : State) : State :=
  if s.pm.stepsTaken then { s with pm := { s.pm with stepsTaken := false, tickOwed := false } }
  else
    let s := State.holdDownTick f (State.releaseAtZero { s with pm := { s.pm with tickOwed := false } })
    if claimDue f s.pm then { s with pm := { s.pm with tickOwed := isSecondTick f } }
    else if isSecondTick f then s.tickAttempt
    else s

/-- The pending claim enters the holdings, and precedence is asked over it at once (R144). -/
def State.enterClaim (s : State) : State :=
  match s.pm.claim with
  | some c =>
    let s := s.setPm { s.pm with holdings := s.pm.holdings ++ [c], claim := none }
    s.evictWhere (fun h => h.position == c.position)
  | none => s

/-! ## Adoption and leaving JOINED (R155, R157) -/

/-- An adoption: stamps translated, a pending claim abandoned (R155). -/
def State.managerAdopt (d : FrameNo) (s : State) : State :=
  State.abandonClaim { s with pm := { s.pm with holdings := s.pm.holdings.map (fun h => { h with stamp := h.stamp + d }) } }

/-- Leaving JOINED: holdings and pending claim dropped, counts 0, starved clear (R157). -/
def PositionManager.leaveJoined (p : PositionManager) : PositionManager :=
  { p with
    holdings := [], claim := none, abandoned := if p.claim.isSome then bump p.abandoned else p.abandoned
    holdDown := 0, starvation := 0, starved := false, stepsTaken := false, tickOwed := false }

end Sys2Proof.Machine
end

