-- ==== Sys2Proof/Machine/TimingUnit.lean ====
section
/-! DEFINITION. The timing unit's choices (06): whom to follow, the rate gate and trim, steps and resteps and their adoption,
and the issue of a frame boundary. -/

namespace Sys2Proof.Machine

/-! ## Following (R102, R104 to R108) -/

/-- The station follows a peer, or none; a change empties the rate gate and clears the lock count (R102). -/
def Timing.follow (n : Option Nat) (t : Timing) : Timing :=
  if t.followed == n then t else { t with followed := n, gate := none, lockCount := 0 }

/-- A change of frame timing is decided: a restep with holdings, else a step; nothing changes while a restep is pending
(R108). A decision at a boundary waits for the boundary after it (log 12); one at the very instant of a pending adoption does not,
since that instant issues no boundary: a step is adopted there, and a restep begins its silent frame there (log 42). -/
def Timing.decide_ (holds : Bool) (t : Timing) : Timing :=
  let t := { t with state := .acquire }
  match t.change with
  | .restepHeld => t
  | .restep => t
  | .restepSilent => t
  | _ =>
    if holds then { t with change := if t.atBoundary then .restepHeld else .restep }
    else { t with change := if t.atBoundary then .stepHeld else .step }

/-- The offset lies beyond ±bound µs. -/
def beyond (bound : Nat) (offset : Int) : Bool := (bound : Int) < offset || offset < -(bound : Int)

/-- The offset a peer's record holds. -/
def offsetOf (peers : List PeerRecord) (n : Nat) : Int :=
  match findPeer peers n with
  | some r => r.offset
  | none => 0

/-- The station follows a peer in ACQUIRE; an offset beyond ±2,000 µs decides a change (R106, R108). -/
def Timing.acquire_ (peers : List PeerRecord) (holds : Bool) (n : Nat) (t : Timing) : Timing :=
  let t := { t.follow (some n) with state := .acquire }
  if beyond 2000 (offsetOf peers n) then t.decide_ holds else t

/-- The station follows no one and keeps its frame timing and trim (R104, R106, R107). -/
def Timing.enterPace (t : Timing) : Timing := { t.follow none with state := .pace }

/-- The followed station is lost: the lowest-numbered eligible peer of any number, or PACE (R106). -/
def Timing.chooseAny (peers : List PeerRecord) (holds : Bool) (t : Timing) : Timing :=
  match lowestEligible peers with
  | some n => t.acquire_ peers holds n
  | none => t.enterPace

/-- The choice of a station in LOCKED (R107). -/
def Timing.chooseLocked (own : Nat) (peers : List PeerRecord) (holds : Bool) (t : Timing) : Timing :=
  match lowestEligibleBelow peers own with
  | some n =>
    if t.followed == some n then t
    else if beyond 50 (offsetOf peers n) then t.acquire_ peers holds n
    else { t.follow (some n) with state := .locked }
  | none => t.enterPace

/-- The followed station's record is gone, or shows a timing state other than PACE or LOCKED (R106); a stale mark does not
drop it. -/
def followedLost (peers : List PeerRecord) (followed : Option Nat) : Bool :=
  match followed.bind (findPeer peers) with
  | some r => !(r.timing == .pace || r.timing == .locked)
  | none => true

/-- What a change of eligibility leads to in each timing state (R105 to R107). -/
def Timing.review (own : Nat) (peers : List PeerRecord) (holds : Bool) (t : Timing) : Timing :=
  match t.state with
  | .listen => t
  | .pace =>
    match lowestEligibleBelow peers own with
    | some n =>
      if beyond 50 (offsetOf peers n) then t.acquire_ peers holds n else { t.follow (some n) with state := .locked }
    | none => t
  | .acquire =>
    if followedLost peers t.followed then t.chooseAny peers holds
    else
      match lowestEligible peers with
      | some n => if t.followed.any (fun m => n < m) then t.acquire_ peers holds n else t
      | none => t
  | .locked => t.chooseLocked own peers holds

/-- The end of LISTEN: the lowest eligible peer is followed and stepped to whatever its offset, or the state is PACE
(R104). -/
def Timing.endListen (peers : List PeerRecord) (holds : Bool) (t : Timing) : Timing :=
  match lowestEligible peers with
  | some n => (t.follow (some n)).decide_ holds
  | none => t.enterPace

/-! ## Rate gate and trim (R102, R103) -/

/-- The new trim: drift plus a quarter of the offset, rounded toward zero, within ±200 ppm (R103). -/
def newTrim (offset anchorOffset trim : Int) : Int :=
  max (-200) (min 200 (offset - anchorOffset + trim + Int.tdiv offset 4))

/-- An ANNOUNCE of the followed station acts on the gate (R102, R103). -/
def Timing.feedGate (offset : Int) (frame : FrameNo) (t : Timing) : Timing :=
  let anchored := { t with gate := some { offset := offset, frame := frame } }
  match t.gate with
  | none => anchored
  | some a =>
    if frame == a.frame + 50 then
      { anchored with trim := newTrim offset a.offset t.trim
                      lockCount := if beyond 50 offset then 0 else min 3 (t.lockCount + 1) }
    else { anchored with lockCount := 0 }

/-- A lock count of 3 in ACQUIRE enters LOCKED, and the followed station is chosen afresh at once (R106). -/
def Timing.lockIn (own : Nat) (peers : List PeerRecord) (holds : Bool) (t : Timing) : Timing :=
  if t.state == .acquire && 3 ≤ t.lockCount then { t with state := .locked }.chooseLocked own peers holds else t

/-- The gate's part of an ANNOUNCE from the station's followed station, and the check of its offset (R102, R103, R106,
R108), which comes before any review of the choice that the same ANNOUNCE calls for (log 16). -/
def Timing.hearFollowed (own : Nat) (peers : List PeerRecord) (holds : Bool) (n : Nat) (offset : Int) (frame : FrameNo)
    (t : Timing) : Timing :=
  if t.followed == some n then
    let t := (t.feedGate offset frame).lockIn own peers holds
    if t.followed == some n && (t.state == .acquire || t.state == .locked) && beyond 2000 offset then t.decide_ holds else t
  else t

/-- The timing unit's state after some choices; a timing state that becomes PACE or LOCKED makes a claim attempt (R143,
log 23). -/
def State.setTiming (t : Timing) (s : State) : State :=
  let before := s.timing.state
  let s := { s with timing := t }
  if t.state != before && (t.state == .pace || t.state == .locked) then s.claimAttempt else s

def State.holds (s : State) : Bool := !s.pm.holdings.isEmpty

/-- A change of eligibility reaches the timing unit (R136). -/
def State.reviewTiming (s : State) : State := s.setTiming (s.timing.review s.cfg.number s.peers s.holds)

/-! ## Announce schedule (R121) -/

/-- An ANNOUNCE is due in the frame. -/
def announceDue (number : Nat) (f : FrameNo) : Bool := f.toNat % 50 == number - 1

/-- The controller hands itself the scheduled ANNOUNCE of a due frame; handOver keeps it to JOINED (R120, R121). -/
def State.scheduleAnnounce (s : State) : State :=
  if announceDue s.cfg.number s.timing.frameNumber then s.handOver .announce else s

/-! ## Frame boundaries (R100) -/

/-- The roster's and the show link's part of a second tick: the second count, and a STATUS (R83, R165). -/
def State.secondTick (s : State) : State :=
  { s with roster := { s.roster with secondCount := s.roster.secondCount + 1 }, link := s.link.handStatus }

/-- What the blocks do at an issued boundary, the station's frame number being that of the frame it begins: second tick,
scheduled ANNOUNCE, the position manager's steps, and the composition, or none in a silent frame. releaseFirst says which of
the last two is taken first (R79); that the ANNOUNCE is handed over before the position manager's messages is log 36. -/
def State.boundaryWork (releaseFirst silent : Bool) (s : State) : State :=
  let f := s.timing.frameNumber
  let s := if isSecondTick f then s.secondTick else s
  if s.joined then
    let s := s.scheduleAnnounce
    let compose (s : State) : State := if silent then s.silence else s.compose
    if releaseFirst then compose (s.managerBoundary f) else (compose s).managerBoundary f
  else s

/-- The frame timer begins the next frame: number up by 1, the new length taken from the trim in force, and what it ran
over, less than a microsecond, carried (R99, R100, log 9). A change of timing comes one boundary nearer. -/
def Timing.nextFrame (t : Timing) : Timing :=
  { t with
    frameNumber := t.frameNumber + 1
    frameElapsed := t.frameElapsed - t.frameLength
    frameLength := frameLengthAt t.trim
    boundaryOpen := true
    change :=
      match t.change with
      | .stepHeld => .step
      | .restepHeld => .restep
      | .restep => .restepSilent
      | c => c }

/-! ## Adoption (R109, R110) -/

/-- What is adopted: frame number, phase, adoption difference. -/
structure Adopted where
  frame : FrameNo
  phase : Nat
  difference : FrameNo
deriving DecidableEq, Repr

/-- R109's table; F the running frame, o and d what the followed station's record holds. With no followed station number and
phase are kept: the frame F + 1 begins (log 11). -/
def adoptedFrom (f : FrameNo) (record : Option PeerRecord) : Adopted :=
  match record with
  | some r =>
    if 0 ≤ r.offset then { frame := f + 1 + r.frameDiff, phase := r.offset.toNat, difference := r.frameDiff }
    else { frame := f + r.frameDiff, phase := (20000 + r.offset).toNat, difference := r.frameDiff - 1 }
  | none => { frame := f + 1, phase := 0, difference := 0 }

/-- Number and phase become the adopted ones; the gate is emptied, the lock count 0, the trim kept, no change pending (R109).
The rest of the frame lasts 20,000 µs less the phase, untrimmed (log 10); at phase 0 a frame of the trimmed length begins. What
the frame had run over when ADOPTION came is dropped (log 38). The timing state is ACQUIRE where a station is followed (R155,
R110; log 37). -/
def Timing.adopt (a : Adopted) (t : Timing) : Timing :=
  { t with
    frameNumber := a.frame
    frameElapsed := 50 * a.phase
    frameLength := if a.phase == 0 then frameLengthAt t.trim else 1000000
    gate := none, lockCount := 0, change := .none, boundaryOpen := a.phase == 0
    state := if t.followed.isSome then .acquire else t.state }

/-- A record at an adoption; a restep marks it stale as well (R135, R110). -/
def PeerRecord.atAdoption (restep : Bool) (a : Adopted) (r : PeerRecord) : PeerRecord :=
  { r.adopt a.difference a.phase with stale := r.stale || restep }

/-- The adoption at the instant it is applied, and the further actions of a restep (R109, R110, R41, R117, R135, R155). An
adopted phase of 0 issues the boundary that begins the adopted frame. That the abandoned claim's waiting CLAIM is removed before an
ANNOUNCE is handed over is the model's order (log 49). -/
def State.adopt (releaseFirst : Bool) (s : State) : State :=
  let restep := s.timing.change == .restepSilent
  let a := adoptedFrom s.timing.frameNumber (s.timing.followed.bind (findPeer s.peers))
  let s := State.managerAdopt a.difference { s with timing := s.timing.adopt a }
  let s := { s with
    peers := s.peers.map (PeerRecord.atAdoption restep a)
    cues := s.cues.adopt a.difference
    line := s.line.adopt a.difference }
  let s := if restep then s.reviewTiming.handOver .announce else s
  if a.phase == 0 then s.boundaryWork releaseFirst false else s.scheduleAnnounce

end Sys2Proof.Machine
end

