-- ==== Sys2Proof/Machine/StartUp.lean ====
section
/-! DEFINITION. Cold start, CONFIG READ and DUPLICATE FAULT (11), and the meanings of the commands of the power supply, the
restart line and the configuration memory. -/

namespace Sys2Proof.Machine

/-! ## Cold start (R168) -/

/-- Every block at its cold-start values. What stays is what stands outside the station: the two pins that hold it, the front
end's lock indicator, and the commands still to come. -/
def State.coldStart (s : State) : State :=
  { State.reset with
    pending := s.pending
    loader := { Loader.reset with supplyUp := s.loader.supplyUp, restartAsserted := s.loader.restartAsserted }
    radio := { RadioPort.reset with lockIndicator := s.radio.lockIndicator } }

/-- The supply pin moved. -/
def State.setSupply (up : Bool) (s : State) : State := { s with loader := { s.loader with supplyUp := up } }

/-- The restart line moved. -/
def State.setRestart (asserted : Bool) (s : State) : State := { s with loader := { s.loader with restartAsserted := asserted } }

/-- The supply rises above 3.0 V; a supply that is already up does not rise. -/
def State.powerOn (s : State) : State := if s.loader.supplyUp then s else (s.setSupply true).coldStart

/-- The supply falls below 2.9 V. -/
def State.powerLoss (s : State) : State := (s.setSupply false).coldStart

/-- The restart line is asserted for width µs; a shorter assertion than 10 µs is ignored (log 24). -/
def State.restartLine (width : Nat) (s : State) : State :=
  if 10 ≤ width && !s.loader.restartAsserted then (s.setRestart true).coldStart else s

/-- The restart line is released. -/
def State.restartLineReleased (s : State) : State :=
  if s.loader.restartAsserted then (s.setRestart false).coldStart else s

/-- POWER_ON. -/
def execPowerOn (dt : Nat) (s : State) : Host.Outcome State Fault Refusal := run dt State.powerOn s

/-- POWER_LOSS. -/
def execPowerLoss (dt : Nat) (s : State) : Host.Outcome State Fault Refusal := run dt State.powerLoss s

/-- RESTART_LINE. -/
def execRestartLine (dt width : Nat) (s : State) : Host.Outcome State Fault Refusal := run dt (State.restartLine width) s

/-- RESTART_LINE_RELEASED. -/
def execRestartLineReleased (dt : Nat) (s : State) : Host.Outcome State Fault Refusal := run dt State.restartLineReleased s

/-! ## The end of CONFIG READ (R170, R171) -/

/-- The station is in CONFIG READ, not held at cold start. -/
def Loader.reading (l : Loader) : Bool := !l.held && l.station == .configRead

/-- The read that the loader sends to the configuration memory: the command byte 3 and a three-byte address of 0 (R170). -/
def spiReadCommand : List Byte := [3, 0, 0, 0]

/-- Select is asserted, and the read goes out on it, for as long as the image is being read (R170). -/
def Loader.spiRead (l : Loader) : Option (List Byte) := if l.reading then some spiReadCommand else none

/-- A bad image: CONFIG FAULT (R171). -/
def State.enterConfigFault (s : State) : State := { s with loader := { s.loader with station := .configFault } }

/-- A good image: LISTEN. The frame timer starts, the boundary that begins frame 0 is issued, which is a second tick, and the
show link receiver enters IDLE WAIT (R170, R98, R159). -/
def State.enterListen (image : ConfigImage) (s : State) : State :=
  State.secondTick
    { s with
      loader := { s.loader with station := .listen, config := some image }
      timing := { s.timing with running := true, boundaryOpen := true }
      link := { s.link with framing := .idleWait, idleMicros := 0 } }

/-- The image read is judged (R169, R170). -/
def State.configReadComplete (image : List Byte) (s : State) : State :=
  if s.loader.reading then
    match parseImage image with
    | some c => s.enterListen c
    | none => s.enterConfigFault
  else s

/-- CONFIG_READ_COMPLETE. -/
def execConfigReadComplete (dt : Nat) (image : List Byte) (s : State) : Host.Outcome State Fault Refusal :=
  run dt (State.configReadComplete image) s

/-! ## DUPLICATE FAULT (R174) -/

/-- Radio port and house line controller stop, and the position manager drops what it holds (R81, R120, R157). -/
def State.leaveJoined (s : State) : State :=
  let s := s.stopRadio
  { s with line := s.line.stop, pm := s.pm.leaveJoined }

/-- The own number was heard: in LISTEN and in JOINED the station enters DUPLICATE FAULT; from LISTEN the timing unit makes
its choice (R174, R104). In DUPLICATE FAULT nothing more happens (R123). -/
def State.ownNumberHeard (s : State) : State :=
  match s.loader.station with
  | .joined => State.raise .duplicate { s.leaveJoined with loader := { s.loader with station := .duplicateFault } }
  | .listen =>
    State.raise .duplicate
      (State.setTiming (s.timing.endListen s.peers s.holds) { s with loader := { s.loader with station := .duplicateFault } })
  | _ => s

end Sys2Proof.Machine
end

