-- ==== Sys2Proof/Machine/Boundary.lean ====
section
/-! DEFINITION. The meanings of the commands of the frame timer: the frame boundary, what comes due at one, the end of LISTEN
and the adoption. -/

namespace Sys2Proof.Machine

/-! ## FRAME_BOUNDARY (R100) -/

/-- A boundary that has been reached is issued; the frame it begins is silent when a restep waits for it (R110). -/
def State.frameBoundary (releaseFirst : Bool) (s : State) : State :=
  if s.timing.atBoundary then
    State.boundaryWork releaseFirst (s.timing.change == .restep) { s with timing := s.timing.nextFrame }
  else s

/-- FRAME_BOUNDARY. -/
def execFrameBoundary (dt : Nat) (releaseFirst : Bool) (s : State) : Host.Outcome State Fault Refusal :=
  run dt (State.frameBoundary releaseFirst) s

/-! ## CLAIM_WINDOW_END (R144, R156) -/

/-- Steps 1 and 2 of R156, at the boundary that begins frame f. -/
def State.managerFirst (f : FrameNo) (s : State) : State := s.releaseAtZero.holdDownTick f

/-- The position manager's steps for this boundary are done before its FRAME_BOUNDARY (log 6). -/
def State.markSteps (s : State) : State := { s with pm := { s.pm with stepsTaken := true } }

/-- The pending claim enters the holdings at the boundary in hand. Taken before FRAME_BOUNDARY, the steps of R156 that come
before it and after it are taken with it (log 6). -/
def State.claimWindowEnd (s : State) : State :=
  let f := s.timing.boundaryFrame
  if s.joined && s.timing.inBoundary && claimDue f s.pm then
    if s.timing.atBoundary && !s.pm.stepsTaken then
      let s := (s.managerFirst f).enterClaim
      (if isSecondTick f then s.tickAttempt else s.claimAttempt).markSteps
    else
      let owed := s.pm.tickOwed
      let s := State.enterClaim { s with pm := { s.pm with tickOwed := false } }
      if owed then s.tickAttempt else s.claimAttempt
  else s

/-- CLAIM_WINDOW_END. -/
def execClaimWindowEnd (dt : Nat) (s : State) : Host.Outcome State Fault Refusal := run dt State.claimWindowEnd s

/-! ## HOLD_DOWN_RELEASE (R152) -/

/-- The newest holding is released and the count starts again. -/
def State.releaseNewest (s : State) : State :=
  match newestHolding s.timing.frameNumber s.pm.holdings with
  | some h => State.releaseHolding h { s with pm := { s.pm with holdDown := 0 } }
  | none => s

/-- The hold-down count reaches 5: it stands at 5 after its second tick, or it reaches 5 at the second tick in hand, before
that boundary's FRAME_BOUNDARY (log 6). Before an ADOPTION nothing is in hand: at a second tick that an adoption issues the release
always follows the composition (log 54). -/
def State.holdDownRelease (s : State) : State :=
  let f := s.timing.boundaryFrame
  if s.timing.inBoundary && holdDownRuns s.joined s.pm then
    if s.pm.holdDown == 5 then s.releaseNewest
    else if s.timing.atBoundary && !s.pm.stepsTaken && isSecondTick f && s.pm.holdDown == 4 then
      s.releaseNewest.tickAttempt.markSteps
    else s
  else s

/-- HOLD_DOWN_RELEASE. -/
def execHoldDownRelease (dt : Nat) (s : State) : Host.Outcome State Fault Refusal := run dt State.holdDownRelease s

/-! ## STARVED (R154) -/

/-- The starvation count has reached 10: starved is set, and the STARVED event. -/
def State.becomeStarved (s : State) : State :=
  if s.timing.inBoundary && starvationRuns s.joined s.pm && s.pm.starvation == 10 && !s.pm.starved then
    State.raise .starved { s with pm := { s.pm with starved := true } }
  else s

/-- STARVED. -/
def execStarved (dt : Nat) (s : State) : Host.Outcome State Fault Refusal := run dt State.becomeStarved s

/-! ## ROSTER_EXPIRY (R89) -/

/-- The entry was last renewed 60 or more second counts ago. -/
def RosterEntry.expired (now : BitVec 32) (e : RosterEntry) : Bool := Config.rosterSeconds ≤ (now - e.lastRenewed).toNat

/-- At a second tick that has been issued, expired entries leave the roster; one count report tells of all of them (R89,
R91). The second count goes up with FRAME_BOUNDARY, and so do the position manager's counts and claim attempt: they come before
this report (log 44), and a STATUS that starts with the tick is read before it (log 45). A reply given between the two is dated
with the new count, and its entry stays (log 52). -/
def State.rosterExpiry (s : State) : State :=
  if s.timing.boundaryOpen && isSecondTick s.timing.frameNumber
      && s.roster.entries.any (RosterEntry.expired s.roster.secondCount) then
    State.countReport
      { s with roster := { s.roster with
          entries := s.roster.entries.filter (fun e => !e.expired s.roster.secondCount) } }
  else s

/-- ROSTER_EXPIRY. -/
def execRosterExpiry (dt : Nat) (s : State) : Host.Outcome State Fault Refusal := run dt State.rosterExpiry s

/-! ## PEER_RECORD_EXPIRY and PEER_CLAIM_PASSED (R134, R133) -/

/-- A record not heard for 150 frames is removed, and the timing unit is told (R134, R136). -/
def State.peerRecordExpiry (n : Nat) (s : State) : State :=
  if s.timing.inBoundary && (findPeer s.peers n).any (PeerRecord.expired s.timing.boundaryFrame) then
    State.reviewTiming { s with peers := removePeer s.peers n }
  else s

/-- PEER_RECORD_EXPIRY. -/
def execPeerRecordExpiry (dt station : Nat) (s : State) : Host.Outcome State Fault Refusal :=
  run dt (State.peerRecordExpiry station) s

/-- A peer's claim passes into its holdings, and precedence is asked over the position (R133, R149). A record that expires at
the same boundary takes its claim with it (R134). -/
def State.peerClaimPassed (n : Nat) (s : State) : State :=
  let f := s.timing.boundaryFrame
  match findPeer s.peers n with
  | some r =>
    match r.claim with
    | some c =>
      if s.timing.inBoundary && r.claimDue f && !r.expired f then
        State.evictWhere (fun h => h.position == c.position)
          { s with peers := updatePeer s.peers n (PeerRecord.passClaim f) }
      else s
    | none => s
  | none => s

/-- PEER_CLAIM_PASSED. -/
def execPeerClaimPassed (dt station : Nat) (s : State) : Host.Outcome State Fault Refusal :=
  run dt (State.peerClaimPassed station) s

/-! ## OBJECT_WINDOW_PASSED (R117) -/

/-- A waiting OBJECT whose window has passed at the boundary in hand is removed (log 26). -/
def State.objectWindowPassed (s : State) : State :=
  if s.timing.inBoundary then { s with line := s.line.dropPassed s.timing.boundaryFrame } else s

/-- OBJECT_WINDOW_PASSED. -/
def execObjectWindowPassed (dt : Nat) (s : State) : Host.Outcome State Fault Refusal := run dt State.objectWindowPassed s

/-! ## LISTEN_END (R173) -/

/-- At the boundary that begins own frame 150 the station enters JOINED, the timing unit chooses (R104), and a claim attempt
is made (R143). -/
def State.listenEnd (s : State) : State :=
  if s.loader.station == .listen && s.timing.inBoundary && Config.listenFrames ≤ s.timing.boundaryFrame.toNat then
    let s := State.setTiming (s.timing.endListen s.peers s.holds) { s with loader := { s.loader with station := .joined } }
    s.claimAttempt
  else s

/-- LISTEN_END. -/
def execListenEnd (dt : Nat) (s : State) : Host.Outcome State Fault Refusal := run dt State.listenEnd s

/-! ## ADOPTION (R109) -/

/-- A pending step, or a restep at the end of its silent frame, is applied at the end of the running frame. -/
def State.applyAdoption (releaseFirst : Bool) (s : State) : State :=
  if s.timing.boundaryReached && s.timing.change.isAdoption then s.adopt releaseFirst else s

/-- ADOPTION. -/
def execAdoption (dt : Nat) (releaseFirst : Bool) (s : State) : Host.Outcome State Fault Refusal :=
  run dt (State.applyAdoption releaseFirst) s

end Sys2Proof.Machine
end

