-- ==== Sys2Proof/Machine/RadioEvents.lean ====
section
/-! DEFINITION. The meanings of the commands of the radio port: burst start and end, slot end, the lock indicator, and a reply
that is not well-formed (04). -/

namespace Sys2Proof.Machine

/-! ## BURST_START (R72, R76) -/

/-- The burst's slot has begun: slot s begins at phase s × 2,500 µs. -/
def Burst.due (phase : Nat) (b : Burst) : Bool := b.position.slot.val * 2500 ≤ phase

/-- Lock has been confirmed for the 300 µs before now (R76). -/
def RadioPort.confirmed (now : Nat) (r : RadioPort) : Bool := r.lockedSince.any (fun l => l + 300 ≤ now)

/-- A burst becomes SENDING: its header and six cells go out on the tuned carrier at the configured output level (R72). -/
def State.sendBurst (b : Burst) (s : State) : State :=
  State.setProgress b.position .sending
    { s with radio := { s.radio with
        activity := .sending
        onAir := some { carrier := s.radio.tuned, level := s.cfg.outputLevel
                        bytes := b.bytes s.cfg.number s.timing.frameNumber } } }

/-- A burst becomes SKIPPED: a lock skip is counted and its outcome reported. -/
def State.skipBurst (p : Position) (s : State) : State :=
  State.reportUnsent p
    (State.setProgress p .skipped
      { s with radio := { s.radio with activity := .skipped, lockSkip := bump s.radio.lockSkip } })

/-- The next PLANNED burst starts, if its slot has come and no burst is SENDING. -/
def State.burstStart (s : State) : State :=
  match s.plan.nextPlanned with
  | some b =>
    if b.due s.timing.phase && s.radio.activity != .sending then
      (if s.radio.confirmed s.timing.localTime then s.sendBurst b else s.skipBurst b.position)
    else s
  | none => s

/-- BURST_START. -/
def execBurstStart (dt : Nat) (s : State) : Host.Outcome State Fault Refusal := run dt State.burstStart s

/-! ## BURST_SENT (R72, R73) -/

/-- The burst that is SENDING. -/
def Composer.sendingBurst (c : Composer) : Option Burst := c.bursts.find? (fun b => b.progress == .sending)

/-- The sixth cell has gone out: the burst is SENT, its outcome is reported and the reply gap begins. A burst that was still
SENDING when its plan gave way to the next (R75, first row) has no outcome left to report; its reply gap begins all the
same. -/
def State.burstSent (s : State) : State :=
  match s.plan.sendingBurst with
  | some b =>
    State.reportSent b.position
      (State.setProgress b.position .sent { s with radio := { s.radio with activity := .gap, onAir := none } })
  | none =>
    { s with radio := { s.radio with
        activity := if s.radio.activity == .sending then .gap else s.radio.activity, onAir := none } }

/-- BURST_SENT. -/
def execBurstSent (dt : Nat) (s : State) : Host.Outcome State Fault Refusal := run dt State.burstSent s

/-! ## SLOT_END (R75) -/

/-- The slot of a SENT or SKIPPED burst ends, and the port chooses the carrier it needs. Where the next burst starts at this very
instant, the order of the two commands decides: behind a start that is SENDING the ended slot has no choice any more, and behind
one that SKIPPED this command ends the new slot with the choice made now (log 48). -/
def State.slotEnd (s : State) : State :=
  match s.radio.activity with
  | .idle => s
  | .sending => s
  | _ => State.retune { s with radio := { s.radio with activity := .idle } }

/-- SLOT_END. -/
def execSlotEnd (dt : Nat) (s : State) : Host.Outcome State Fault Refusal := run dt State.slotEnd s

/-! ## LOCK_ASSERTED and LOCK_DROPPED (R74) -/

/-- The indicator becomes asserted: locked-since becomes this instant if the lock-confirm state was clear. Before LISTEN, and
in CONFIG FAULT, the lock-confirm state keeps its cold-start value, clear (R168, R171; log 18). -/
def State.lockAsserted (s : State) : State :=
  { s with radio := { s.radio with
      lockIndicator := true
      lockedSince :=
        if s.loader.station.receives then some (s.radio.lockedSince.getD s.timing.localTime) else s.radio.lockedSince } }

/-- LOCK_ASSERTED. -/
def execLockAsserted (dt : Nat) (s : State) : Host.Outcome State Fault Refusal := run dt State.lockAsserted s

/-- The indicator drops: the lock-confirm state becomes clear. -/
def State.lockDropped (s : State) : State := { s with radio := { s.radio with lockIndicator := false, lockedSince := none } }

/-- LOCK_DROPPED. -/
def execLockDropped (dt : Nat) (s : State) : Host.Outcome State Fault Refusal := run dt State.lockDropped s

/-! ## Replies in the reply gap (R77) -/

/-- The one reply of the gap has been taken; what follows it is disregarded. -/
def State.gapUsed (s : State) : State := { s with radio := { s.radio with activity := .gapDone } }

/-- A reply that is not well-formed, or does not end within the gap, is discarded and counted. At the very instant its slot ends it
is counted only if it is given before SLOT_END and before the next slot's BURST_START (log 51). -/
def State.garbledReply (reply : List Byte) (inGap : Bool) (s : State) : State :=
  if s.radio.activity == .gap && !((parseReply reply).isSome && inGap) then
    State.gapUsed { s with radio := { s.radio with garbled := bump s.radio.garbled } }
  else s

/-- GARBLED_REPLY. -/
def execGarbledReply (dt : Nat) (reply : List Byte) (inGap : Bool) (s : State) : Host.Outcome State Fault Refusal :=
  run dt (State.garbledReply reply inGap) s

end Sys2Proof.Machine
end

