-- ==== Sys2Proof/Machine/RosterUnit.lean ====
section
/-! DEFINITION. The roster unit (05): the ticket check, admission, renewal and leaving, acknowledgements, and the meanings of
JOIN, RENEW and LEAVE. -/

namespace Sys2Proof.Machine

/-! ## Acknowledgements (R92) -/

/-- An acknowledgement is offered to the queue. -/
def Roster.offer (a : Ack) (r : Roster) : Roster :=
  if r.acks.length < Config.maxAcks then { r with acks := r.acks ++ [a] } else { r with ackLost := bump r.ackLost }

/-! ## The ticket check (R85) -/

/-- What a JOIN presents. -/
structure Ticket where
  auditorium : Nat
  session : BitVec 32
  ticketClass : Nat
  track : Nat
deriving DecidableEq, Repr

/-- The five checks in order: the result of the first that holds, or none. -/
def ticketRefusal (number : Nat) (show_ : ShowControl) (t : Ticket) : Option JoinResult :=
  if t.auditorium != number then some .wrongRoom
  else if show_.state == .noShow || show_.state == .ended then some .noShow
  else if show_.session != some t.session && t.ticketClass ≤ 2 then some .badSession
  else
    match show_.tracks.find? (fun k => k.number == t.track) with
    | none => some .noTrack
    | some k => if t.ticketClass < k.requiredClass then some .classLow else none

/-! ## The roster's changes (R86 to R88) -/

/-- A receiver has an entry. -/
def Roster.has (receiver : BitVec 32) (r : Roster) : Bool := r.entries.any (fun e => e.receiver == receiver)

/-- The entry of a receiver renewed at the current second count, on a track if one is given. -/
def Roster.renewed (receiver : BitVec 32) (track : Option Nat) (r : Roster) : Roster :=
  { r with entries := r.entries.map (fun e =>
      if e.receiver == receiver then { e with track := track.getD e.track, lastRenewed := r.secondCount } else e) }

/-- A refused JOIN is counted (R97). -/
def Roster.refused (r : Roster) : Roster := { r with joinRefusals := bump r.joinRefusals }

/-- A JOIN that passed the checks is admitted, or finds the roster full (R86). -/
def Roster.enroll (receiver : BitVec 32) (track : Nat) (r : Roster) : Roster × JoinResult :=
  if r.has receiver then (r.renewed receiver (some track), .granted)
  else if r.entries.length < Config.maxRoster then
    ({ r with entries := r.entries ++ [{ receiver := receiver, track := track, lastRenewed := r.secondCount }] }, .granted)
  else (r.refused, .rosterFull)

/-- A JOIN decided (R85, R86). -/
def Roster.join (number : Nat) (show_ : ShowControl) (receiver : BitVec 32) (t : Ticket) (r : Roster) : Roster × JoinResult :=
  match ticketRefusal number show_ t with
  | some result => (r.refused, result)
  | none => r.enroll receiver t.track

/-- A RENEW decided (R87). -/
def Roster.renew (receiver : BitVec 32) (r : Roster) : Roster × JoinResult :=
  if r.has receiver then (r.renewed receiver none, .renewed) else (r, .unknownReceiver)

/-- A LEAVE decided (R88). -/
def Roster.leave (receiver : BitVec 32) (r : Roster) : Roster × JoinResult :=
  if r.has receiver then ({ r with entries := r.entries.filter (fun e => e.receiver != receiver) }, .left)
  else (r, .unknownReceiver)

/-! ## Handling a reply (R84, R91) -/

/-- A reply's decision takes effect: roster, count report if a count changed, one acknowledgement. -/
def State.answer (receiver : BitVec 32) (decision : Roster × JoinResult) (s : State) : State :=
  let before := s.roster.counts
  let s := { s with roster := decision.1 }
  let s := if s.roster.counts == before then s else s.countReport
  { s with roster := s.roster.offer { receiver := receiver, result := decision.2 } }

/-- A well-formed reply in the reply gap: the gap's one reply (R77), discarded if its receiver id is 0 (R84). One whose last part
arrives at the very instant its slot ends is taken only if it is given before SLOT_END and before the next slot's BURST_START,
whichever side of FRAME_BOUNDARY it stands on (log 51). -/
def State.handleReply (receiver : BitVec 32) (decide_ : Roster → Roster × JoinResult) (s : State) : State :=
  if s.radio.activity == .gap then
    let s := s.gapUsed
    if receiver == 0 then s else s.answer receiver (decide_ s.roster)
  else s

/-- JOIN (R85, R86). -/
def execJoin (dt : Nat) (receiver : BitVec 32) (auditorium : Nat) (session : BitVec 32) (ticketClass track : Nat) (s : State) :
    Host.Outcome State Fault Refusal :=
  run dt
    (fun s => s.handleReply receiver (Roster.join s.cfg.number s.show_ receiver { auditorium, session, ticketClass, track })) s

/-- RENEW (R87). -/
def execRenew (dt : Nat) (receiver : BitVec 32) (s : State) : Host.Outcome State Fault Refusal :=
  run dt (State.handleReply receiver (Roster.renew receiver)) s

/-- LEAVE (R88). -/
def execLeave (dt : Nat) (receiver : BitVec 32) (s : State) : Host.Outcome State Fault Refusal :=
  run dt (State.handleReply receiver (Roster.leave receiver)) s

/-! ## The show's own changes (R94, R95) -/

/-- The new show and cleared signals: every entry leaves, the acknowledgement queue is emptied, and a count report is sent if
an entry was removed. -/
def State.rosterCleared (s : State) : State :=
  let any := !s.roster.entries.isEmpty
  let s := { s with roster := { s.roster with entries := [], acks := [] } }
  if any then s.countReport else s

end Sys2Proof.Machine
end

