-- ==== Sys2Proof/Machine/ShowControl.lean ====
section
/-! DEFINITION. Show control (01): the track table, its signals to the other blocks, and the meanings of SHOW LOAD, SHOW END,
SHOW CLEAR, MARK, TABLE LOAD and of its timers. -/

namespace Sys2Proof.Machine

/-! ## The track table and the binding (R2, R3) -/

/-- A to Z or a to z. -/
def isLetter (b : Byte) : Bool := (65 ≤ b.toNat && b.toNat ≤ 90) || (97 ≤ b.toNat && b.toNat ≤ 122)

/-- The kind a track entry's byte names (R179). -/
def trackKindOf : Nat → Option TrackKind
  | 1 => some .caption
  | 2 => some .description
  | _ => none

/-- One entry lies within the ranges of R2; a DESCRIPTION entry's table is ignored. -/
def TrackEntry.valid (e : TrackEntry) : Bool :=
  1 ≤ e.number && e.number ≤ 8 && (trackKindOf e.kind).isSome && e.language.length == 3 && e.language.all isLetter
    && e.requiredClass ≤ 3 && (e.kind != 1 || e.table ≤ 3)

/-- The track list is valid (R2). -/
def validTracks (es : List TrackEntry) : Bool :=
  1 ≤ es.length && es.length ≤ 8 && es.all TrackEntry.valid && decide ((es.map (·.number)).Nodup)
    && (es.filter (fun e => e.kind == 2)).length ≤ 4

/-- A track list entry as the table holds it. -/
def TrackEntry.track (e : TrackEntry) : Track :=
  { number := e.number, kind := (trackKindOf e.kind).getD .caption, language := e.language, requiredClass := e.requiredClass
    table := e.table, carryAlways := e.carryAlways }

/-- The table, in ascending track number (R2). -/
def trackTable (es : List TrackEntry) : List Track := sortBy (fun a b => a.number < b.number) (es.map TrackEntry.track)

/-- The binding: description tracks in ascending number to engines 0 to 3 (R3). -/
def bindEngines (tracks : List Track) : PerEngine (Option Nat) :=
  let ns := (tracks.filter (fun t => t.kind == .description)).map (·.number)
  { e0 := ns[0]?, e1 := ns[1]?, e2 := ns[2]?, e3 := ns[3]? }

/-! ## Signals (R19) -/

/-- The new show and cleared signals: every cue, clip, roster entry and acknowledgement goes, and demand is worked out with
every count 0 (R40, R61, R94, R95, R141). -/
def State.signalEmpty (s : State) : State :=
  State.demandNewShow (State.rosterCleared { s with cues := s.cues.clearAll, clips := s.clips.clearAll })

/-- The ended signal (R39, R60, R141). -/
def State.signalEnded (s : State) : State := State.recomputeDemand { s with cues := s.cues.endShow, clips := s.clips.endShow }

/-- The freeze signal (R38, R59). -/
def State.signalFreeze (s : State) : State := { s with cues := s.cues.freeze, clips := s.clips.freeze s.show_ }

/-- The re-evaluate signal, at the show clock; jump tells JUMP from START (R36, R57, R58, R62). -/
def State.signalReevaluate (jump : Bool) (s : State) : State :=
  let clip := s.clips.reevaluate s.show_ s.show_.clock jump
  let s := { s with cues := s.cues.reevaluate s.show_.clock jump s.timing.frameNumber, clips := clip.1 }
  if clip.2 then s.raise .lateClip else s

/-- The state change signal, if the show state is not what it was before (R56, R141). -/
def State.signalState (before : ShowState) (s : State) : State :=
  if s.show_.state == before then s else State.recomputeDemand { s with clips := s.clips.rechoose s.show_ }

/-! ## SHOW LOAD (R4) -/

/-- The record is refused with BAD FIELD (R4). -/
def showLoadBad (session : BitVec 32) (time : Nat) (tracks : List TrackEntry) : Bool :=
  session == 0 || Config.maxShowTime < time || !validTracks tracks

/-- Show control after an accepted SHOW LOAD (R4, 1 to 5). -/
def ShowControl.load (session : BitVec 32) (time : Nat) (tracks : List TrackEntry) (c : ShowControl) : ShowControl :=
  { c with
    session := some session, tracks := trackTable tracks, binding := bindEngines (trackTable tracks), clock := time
    fraction := 0, rate := { num := 1, den := 1 }, gate := none, markLoss := none, endedTimer := none, state := .ready }

/-- SHOW LOAD taken. -/
def State.showLoad (session : BitVec 32) (time : Nat) (tracks : List TrackEntry) (s : State) : State :=
  if showLoadBad session time tracks then s.refusePlain 1 .badField
  else (State.signalEmpty { s with show_ := s.show_.load session time tracks }).signalState s.show_.state

/-- SHOW LOAD, as show control takes it. -/
def Record.showLoadPart : Record → Option (State → State)
  | .showLoad session time tracks => some (State.showLoad session time tracks)
  | _ => none

/-- SHOW_LOAD. -/
def execShowLoad (dt : Nat) (s : State) : Host.Outcome State Fault Refusal :=
  run dt (State.takeHead Record.showLoadPart) s

/-! ## SHOW END and the ENDED timer (R5, R6) -/

/-- A show is loaded and has not ended. -/
def ShowState.live : ShowState → Bool
  | .noShow => false
  | .ended => false
  | _ => true

/-- 120 s of local reference time (R5). -/
def endedMicros : Nat := 120000000

/-- Show control on entering ENDED (R5, 1 to 3). -/
def ShowControl.endShow (c : ShowControl) : ShowControl :=
  { c with gate := none, markLoss := none, state := .ended, endedTimer := some endedMicros }

/-- SHOW END taken. -/
def State.showEnd (s : State) : State :=
  if s.show_.state.live then (State.signalEnded { s with show_ := s.show_.endShow }).signalState s.show_.state
  else s.refusePlain 2 .wrongState

/-- SHOW END, as show control takes it. -/
def Record.showEndPart : Record → Option (State → State)
  | .showEnd => some State.showEnd
  | _ => none

/-- SHOW_END. -/
def execShowEnd (dt : Nat) (s : State) : Host.Outcome State Fault Refusal := run dt (State.takeHead Record.showEndPart) s

/-- Show control on entering NO SHOW; the clock keeps its value (R6, R7). -/
def ShowControl.clear (c : ShowControl) : ShowControl :=
  { c with markLoss := none, endedTimer := none, gate := none, session := none, tracks := [], binding := .all none
           state := .noShow }

/-- The show becomes NO SHOW and the cleared signal goes out. -/
def State.clearShow (s : State) : State :=
  (State.signalEmpty { s with show_ := s.show_.clear }).signalState s.show_.state

/-- The ENDED timer has run out. -/
def State.endedTimerExpiry (s : State) : State := if s.show_.endedTimer == some 0 then s.clearShow else s

/-- ENDED_TIMER_EXPIRY. -/
def execEndedTimerExpiry (dt : Nat) (s : State) : Host.Outcome State Fault Refusal := run dt State.endedTimerExpiry s

/-! ## SHOW CLEAR (R7) -/

/-- SHOW CLEAR, as show control takes it. -/
def Record.showClearPart : Record → Option (State → State)
  | .showClear => some State.clearShow
  | _ => none

/-- SHOW_CLEAR. -/
def execShowClear (dt : Nat) (s : State) : Host.Outcome State Fault Refusal := run dt (State.takeHead Record.showClearPart) s

/-! ## MARK (R9 to R14) -/

/-- The show clock set to a show time. -/
def ShowControl.place (t : Nat) (c : ShowControl) : ShowControl := { c with clock := t, fraction := 0 }

/-- The mark's error lies within −200 to +200 ms (R11). -/
def isCorrection (t clock : Nat) : Bool := t ≤ clock + 200 && clock ≤ t + 200

/-- The measured rate over a gate: ms ms of film in micros µs, if it lies within 0.95 to 1.05 (R14). -/
def measuredRate (ms micros : Nat) : Option Rate :=
  let num := 1000 * ms
  let g := Nat.gcd num micros
  if 95 * micros ≤ 100 * num && 100 * num ≤ 105 * micros then some { num := num / g, den := micros / g } else none

/-- A running mark is offered to the rate gate at local reference time now (R14). -/
def ShowControl.offerGate (t now : Nat) (c : ShowControl) : ShowControl :=
  let anchored := { c with gate := some { showTime := t, localTime := now } }
  match c.gate with
  | none => anchored
  | some a =>
    if now < a.localTime + 500000 then c
    else
      match measuredRate (t - a.showTime) (now - a.localTime) with
      | some r => { anchored with rate := r }
      | none => { anchored with rate := { num := 1, den := 1 }, rateRejects := bump c.rateRejects }

/-- The running flag applied: the state, and the rate gate fed or emptied (R10, R12 to R14). -/
def ShowControl.applyRunning (t now : Nat) (running : Bool) (c : ShowControl) : ShowControl :=
  if running then { c with state := .running }.offerGate t now else { c with state := .paused, gate := none }

/-- A jump: clock, counter, gate, event and re-evaluation (R11, R13). -/
def State.jumpTo (t : Nat) (s : State) : State :=
  State.signalReevaluate true
    (State.raise .jump { s with show_ := { s.show_.place t with gate := none, jumps := bump s.show_.jumps } })

/-- The clock's part of a taken MARK: the first mark places the show (R10), a mark in FROZEN is a jump (R13), any other is a
correction or a jump (R11). -/
def State.markClock (t : Nat) (s : State) : State :=
  match s.show_.state with
  | .ready => State.signalReevaluate false { s with show_ := s.show_.place t }
  | .frozen => s.jumpTo t
  | _ => if isCorrection t s.show_.clock then { s with show_ := s.show_.place t } else s.jumpTo t

/-- A MARK that is taken (R9 to R14). -/
def State.takeMark (t : Nat) (running : Bool) (s : State) : State :=
  let before := s.show_.state
  let s := State.markClock t { s with show_ := { s.show_ with markLoss := some 0 } }
  State.signalState before { s with show_ := s.show_.applyRunning t s.timing.localTime running }

/-- MARK taken or refused (R9). -/
def State.mark (t : Nat) (running : Bool) (s : State) : State :=
  if !s.show_.state.live then s.refusePlain 4 .wrongState
  else if Config.maxShowTime < t then s.refusePlain 4 .badField
  else s.takeMark t running

/-- MARK, as show control takes it. -/
def Record.markPart : Record → Option (State → State)
  | .mark t running => some (State.mark t running)
  | _ => none

/-- MARK. -/
def execMark (dt : Nat) (s : State) : Host.Outcome State Fault Refusal := run dt (State.takeHead Record.markPart) s

/-! ## The mark-loss timer (R15, R16) -/

/-- The mark-loss timer has reached a number of µs. -/
def ShowControl.marksMissing (micros : Nat) (c : ShowControl) : Bool := c.markLoss.any (fun m => micros ≤ m)

/-- 3 s without a mark in RUNNING: COASTING, MARKS LOST (R15). -/
def State.marksLost (s : State) : State :=
  if s.show_.state == .running && s.show_.marksMissing 3000000 then
    State.signalState .running (State.raise .marksLost { s with show_ := { s.show_ with state := .coasting } })
  else s

/-- MARKS_LOST. -/
def execMarksLost (dt : Nat) (s : State) : Host.Outcome State Fault Refusal := run dt State.marksLost s

/-- The states in which the mark-loss timer runs (R15). -/
def ShowState.timed : ShowState → Bool
  | .running => true
  | .paused => true
  | .coasting => true
  | _ => false

/-- 10 s without a mark: FROZEN (R16). -/
def State.freeze (s : State) : State :=
  if s.show_.state.timed && s.show_.marksMissing 10000000 then
    State.signalState s.show_.state
      (State.signalFreeze
        (State.raise .frozen { s with show_ := { s.show_ with state := .frozen, gate := none, markLoss := none } }))
  else s

/-- FROZEN. -/
def execFrozen (dt : Nat) (s : State) : Host.Outcome State Fault Refusal := run dt State.freeze s

/-! ## TABLE LOAD (R17) -/

/-- The record is refused with BAD FIELD (R17). -/
def tableLoadBad (table first : Nat) (values : List Byte) : Bool :=
  3 < table || values.length < 1 || 64 < values.length || 255 < first + values.length - 1

/-- TABLE LOAD taken: the listed entries take their values. -/
def State.tableLoad (table first : Nat) (values : List Byte) (s : State) : State :=
  if tableLoadBad table first values then s.refusePlain 5 .badField
  else
    { s with show_ := { s.show_ with tables := Memory.writeRun tableDefault s.show_.tables (table * 256 + first) values } }

/-- TABLE LOAD, as show control takes it. -/
def Record.tableLoadPart : Record → Option (State → State)
  | .tableLoad table first values => some (State.tableLoad table first values)
  | _ => none

/-- TABLE_LOAD. -/
def execTableLoad (dt : Nat) (s : State) : Host.Outcome State Fault Refusal :=
  run dt (State.takeHead Record.tableLoadPart) s

end Sys2Proof.Machine
end

