-- ==== Sys2Proof/Machine/ContentRecords.lean ====
section
/-! DEFINITION. The meanings of the records that the cue queue and the clip store take: CUE, CUE CANCEL, CLIP HEAD, CLIP DATA
and CLIP CANCEL (02, 03). -/

namespace Sys2Proof.Machine

/-! ## Refusals that name their content (R162) -/

/-- The cue queue refuses a record. -/
def State.refuseCue (kind track start : Nat) (reason : Reason) (s : State) : State :=
  s.refuse { kind := some (BitVec.ofNat 8 kind), reason, cue := some (track, start), clip := none }

/-- The clip store refuses a record. -/
def State.refuseClip (kind id : Nat) (reason : Reason) (s : State) : State :=
  s.refuse { kind := some (BitVec.ofNat 8 kind), reason, cue := none, clip := some id }

/-! ## CUE (R23 to R25) -/

/-- CUE taken or refused. At a QUEUE FULL refusal the REFUSAL is handed over before the event's STATUS (log 41). -/
def State.cue (track start stop region : Nat) (italic speakerChange : Bool) (text : List Byte) (s : State) : State :=
  match cueRefusal s.show_ track start stop region text.length with
  | some reason => s.refuseCue 6 track start reason
  | none =>
    match s.cues.take s.timing.frameNumber (Cue.fresh track start stop region italic speakerChange text) with
    | some q => { s with cues := q }
    | none => (s.refuseCue 6 track start .queueFull).raise .queueFull

/-- CUE, as the cue queue takes it. -/
def Record.cuePart : Record → Option (State → State)
  | .cue track start stop region italic speakerChange text => some (State.cue track start stop region italic speakerChange text)
  | _ => none

/-- CUE. -/
def execCue (dt : Nat) (s : State) : Host.Outcome State Fault Refusal := run dt (State.takeHead Record.cuePart) s

/-! ## CUE CANCEL (R26) -/

/-- CUE CANCEL taken or refused. -/
def State.cueCancel (track start : Nat) (s : State) : State :=
  if Config.maxShowTime < start || track < 1 || 8 < track then s.refuseCue 7 track start .badField
  else { s with cues := s.cues.cancel track start }

/-- CUE CANCEL, as the cue queue takes it. -/
def Record.cueCancelPart : Record → Option (State → State)
  | .cueCancel track start => some (State.cueCancel track start)
  | _ => none

/-- CUE_CANCEL. -/
def execCueCancel (dt : Nat) (s : State) : Host.Outcome State Fault Refusal :=
  run dt (State.takeHead Record.cueCancelPart) s

/-! ## CLIP HEAD (R46 to R48) -/

/-- CLIP HEAD taken or refused. At a NO ROOM refusal the REFUSAL is handed over before the event's STATUS (log 41). -/
def State.clipHead (id track start length : Nat) (s : State) : State :=
  match clipHeadRefusal s.show_ s.clips id track start length with
  | some reason => s.refuseClip 8 id reason
  | none =>
    match s.clips.makeRoom (pagesFor length) with
    | some store => { s with clips := store.insert s.show_ id track start length }
    | none => (s.refuseClip 8 id .noRoom).raise .clipNoRoom

/-- CLIP HEAD, as the clip store takes it. -/
def Record.clipHeadPart : Record → Option (State → State)
  | .clipHead id track start length => some (State.clipHead id track start length)
  | _ => none

/-- CLIP_HEAD. -/
def execClipHead (dt : Nat) (s : State) : Host.Outcome State Fault Refusal := run dt (State.takeHead Record.clipHeadPart) s

/-! ## CLIP DATA (R49, R50) -/

/-- CLIP DATA taken or refused. -/
def State.clipData (id first : Nat) (blocks : List (List Byte)) (s : State) : State :=
  match clipDataRefusal s.show_ s.clips id first blocks.length with
  | some reason => s.refuseClip 9 id reason
  | none =>
    match s.clips.find id with
    | some c => { s with clips := s.clips.takeData s.show_ c first blocks }
    | none => s

/-- CLIP DATA, as the clip store takes it. -/
def Record.clipDataPart : Record → Option (State → State)
  | .clipData id first blocks => some (State.clipData id first blocks)
  | _ => none

/-- CLIP_DATA. -/
def execClipData (dt : Nat) (s : State) : Host.Outcome State Fault Refusal := run dt (State.takeHead Record.clipDataPart) s

/-! ## CLIP CANCEL (R51) -/

/-- CLIP CANCEL taken or refused. -/
def State.clipCancel (id : Nat) (s : State) : State :=
  if id == 0 then s.refuseClip 10 id .badField
  else if (s.clips.find id).isNone then s.refuseClip 10 id .unknownClip
  else { s with clips := s.clips.cancel s.show_ id }

/-- CLIP CANCEL, as the clip store takes it. -/
def Record.clipCancelPart : Record → Option (State → State)
  | .clipCancel id => some (State.clipCancel id)
  | _ => none

/-- CLIP_CANCEL. -/
def execClipCancel (dt : Nat) (s : State) : Host.Outcome State Fault Refusal :=
  run dt (State.takeHead Record.clipCancelPart) s

end Sys2Proof.Machine
end

