-- ==== Sys2Proof/Machine/LineEvents.lean ====
section
/-! DEFINITION. The meanings of the commands of the house line: start marks, the station's own messages, and the messages it
receives (07, 08, 09). -/

namespace Sys2Proof.Machine

/-! ## Receiving (R112) -/

/-- The line has been seen released for 9 bit times: start marks are taken from now on, and the quiet count runs. -/
def State.receiveStart (s : State) : State :=
  if s.loader.station.receives && !s.line.receiving then
    { s with line := { s.line with receiving := true, busy := false, quietMicros := 0 } }
  else s

/-- HOUSE_LINE_RECEIVE_START. -/
def execHouseLineReceiveStart (dt : Nat) (s : State) : Host.Outcome State Fault Refusal := run dt State.receiveStart s

/-- Another station's start mark. -/
def State.startMarkHeard (s : State) : State :=
  if s.line.receiving && !s.line.busy && s.line.sending.isNone then
    { s with line := s.line.startMark s.timing.frameNumber s.timing.phase }
  else s

/-- START_MARK_HEARD. -/
def execStartMarkHeard (dt : Nat) (s : State) : Host.Outcome State Fault Refusal := run dt State.startMarkHeard s

/-! ## Received messages (R123, R124, R127) -/

/-- What a report on eligibility names of a record (R136). -/
def PeerRecord.standing (r : PeerRecord) : TimingState × Bool := (r.timing, r.stale)

/-- A message created the sender's record, or changed its timing state or its stale mark (R136). -/
def reportsEligibility (before after : Option PeerRecord) : Bool := before.map (·.standing) != after.map (·.standing)

/-- The timing unit acts on a message: an ANNOUNCE of the followed station on its gate and on the check of its offset, then a
change of eligibility on its choice (R102 to R108). The order is log 16: an ANNOUNCE that makes the followed station ineligible
and shows it beyond ±2,000 µs decides a change of timing first. -/
def State.timingHears (sender : Sender) (isAnnounce : Bool) (offset : Int) (before : Option PeerRecord) (s : State) : State :=
  let t :=
    if isAnnounce then
      s.timing.hearFollowed s.cfg.number s.peers s.holds sender.number offset sender.frame
    else s.timing
  let t :=
    if reportsEligibility before (findPeer s.peers sender.number) then t.review s.cfg.number s.peers s.holds else t
  s.setTiming t

/-- A message of another station has ended whole. The own number is a duplicate (R123); every other message is measured and
taken by the peer table, whole, before the timing unit and then the position manager act on it (R124, R127, R101). -/
def State.route (sender : Sender) (isAnnounce : Bool) (update : List PeerRecord → List PeerRecord) (react : State → State)
    (s : State) : State :=
  if s.line.hearing then
    let m := measure sender s.line.heardFrame s.line.heardPhase
    let before := findPeer s.peers sender.number
    let s := { s with line := s.line.endMessage }
    if sender.number == s.cfg.number then s.ownNumberHeard
    else
      react (State.timingHears sender isAnnounce m.offset before
        { s with peers := update (takeCommon sender m s.line.heardFrame s.peers) })
  else s

/-- The sender of a message conflicts with the station, as the table now stands (R126). -/
def State.conflictsWith (n : Nat) (s : State) : Bool := (findPeer s.peers n).any (conflicts s.cfg)

/-! ## ANNOUNCE (R129, R147 to R149) -/

/-- The sender's pending claim on the position of the station's own has precedence (R147). -/
def State.claimLosesTo (n : Nat) (s : State) : Bool :=
  match s.pm.claim, (findPeer s.peers n).bind (·.claim) with
  | some own, some theirs => own.position == theirs.position && precedes theirs.stamp n own.stamp s.cfg.number
  | _, _ => false

/-- The station's pending claim is on a position that an ANNOUNCE lists among its holdings (R148). -/
def State.claimListed (a : AnnounceFields) (s : State) : Bool :=
  s.pm.claim.any (fun own => a.holdings.any (fun h => h.position == own.position))

/-- The position manager on an ANNOUNCE: the claim withdrawn or abandoned, then precedence asked over the holdings that the
sender's record now shows (R147 to R149). That the claim ends before the evictions is the model's order: its waiting CLAIM has
left the queue when their RELEASEs join it (log 47). A step 4 of R156 that waited for the claim follows last. -/
def State.reactAnnounce (n : Nat) (a : AnnounceFields) (s : State) : State :=
  let s := if s.conflictsWith n && (s.claimLosesTo n || s.claimListed a) then s.abandonClaim else s
  let theirs := findPeer s.peers n
  (s.evictWhere (fun h => theirs.any (fun r => r.holds h.position))).owedTick

/-- ANNOUNCE. -/
def execAnnounce (dt : Nat) (sender : Sender) (fields : AnnounceFields) (s : State) : Host.Outcome State Fault Refusal :=
  run dt
    (fun s => s.route sender true
      (fun peers => updatePeer peers sender.number (PeerRecord.takeAnnounce s.timing.frameNumber fields))
      (State.reactAnnounce sender.number fields)) s

/-! ## CLAIM (R130, R146, R147) -/

/-- An OBJECT answers a conflicting peer's CLAIM on a held position; it carries the window end of that claim (R146). -/
def State.objectTo (n : Nat) (p : Position) (s : State) : State :=
  match s.pm.holdings.find? (fun h => h.position == p), (findPeer s.peers n).bind (·.claim) with
  | some h, some theirs => s.handOver (.object p h.stamp n theirs.windowEnd)
  | _, _ => s

/-- The position manager on a CLAIM (R146, R147); a step 4 of R156 that waited for the claim withdrawn follows. -/
def State.reactClaim (n : Nat) (p : Position) (s : State) : State :=
  if s.conflictsWith n then
    let s := s.objectTo n p
    if s.claimLosesTo n then s.abandonClaim.owedTick else s
  else s

/-- CLAIM. -/
def execClaim (dt : Nat) (sender : Sender) (position : Position) (stamp : FrameNo) (s : State) :
    Host.Outcome State Fault Refusal :=
  run dt
    (State.route sender false
      (fun peers => updatePeer peers sender.number (PeerRecord.takeClaim { position, stamp }))
      (State.reactClaim sender.number position)) s

/-! ## OBJECT (R131, R148 to R150) -/

/-- The position manager on an OBJECT: its claim on the position abandoned where the OBJECT names it or the objector
conflicts, then precedence asked if it holds the position (R148, R149). A step 4 of R156 that waited for the claim follows last. -/
def State.reactObject (n : Nat) (p : Position) (claimant : Nat) (s : State) : State :=
  let s :=
    if s.pm.claim.any (fun own => own.position == p) && (claimant == s.cfg.number || s.conflictsWith n) then s.abandonClaim
    else s
  (s.evictWhere (fun h => h.position == p)).owedTick

/-- OBJECT. -/
def execObject (dt : Nat) (sender : Sender) (position : Position) (stamp : FrameNo) (claimant : Nat) (s : State) :
    Host.Outcome State Fault Refusal :=
  run dt
    (fun s => s.route sender false
      (fun peers =>
        updatePeer
          (updatePeer peers sender.number (PeerRecord.takeObject s.timing.frameNumber { position, stamp }))
          claimant (PeerRecord.loseClaim position))
      (State.reactObject sender.number position claimant)) s

/-! ## RELEASE (R132) -/

/-- RELEASE. Its reason is kept nowhere (R113). -/
def execRelease (dt : Nat) (sender : Sender) (position : Position) (_reason : ReleaseReason) (s : State) :
    Host.Outcome State Fault Refusal :=
  run dt
    (State.route sender false
      (fun peers => updatePeer peers sender.number (PeerRecord.takeRelease position))
      (fun s => s)) s

/-! ## BAD_MESSAGE (R122, R183) -/

/-- A message that must be discarded: it is counted, unless it is what is left of the station's own transmission, which the
station stopped itself. -/
def State.badMessage (message : List Byte) (brokeOff : Bool) (s : State) : State :=
  if s.line.hearing && (brokeOff || (parseMessage message).isNone) then
    let counted := !(brokeOff && s.line.ownConflict)
    let line := s.line.endMessage
    { s with line := { line with bad := if counted then bump line.bad else line.bad } }
  else s

/-- BAD_MESSAGE. -/
def execBadMessage (dt : Nat) (message : List Byte) (brokeOff : Bool) (s : State) : Host.Outcome State Fault Refusal :=
  run dt (State.badMessage message brokeOff) s

/-! ## MESSAGE_START (R114, R117, R118) -/

/-- The common part, read at the start mark (R113). -/
def State.ownSender (s : State) : Sender :=
  { number := s.cfg.number, frame := s.timing.frameNumber, phase := s.timing.phase, timing := s.timing.state }

/-- What an ANNOUNCE says at its start mark (R114); the holdings in the order in which they entered (log 50). -/
def State.announceFields (s : State) : AnnounceFields :=
  { neighbours := withoutStation s.cfg.neighbours s.cfg.number, demand := s.pm.demand, holdings := s.pm.holdings
    claim := s.pm.claim }

/-- The content of a message at its start mark; absent for an OBJECT whose position the station no longer holds (R114,
R117). -/
def State.contentOf (body : WaitingBody) (s : State) : Option MessageContent :=
  match body with
  | .object p _ claimant _ =>
    (s.pm.holdings.find? (fun h => h.position == p)).map (fun h => .object p h.stamp claimant)
  | .release p reason => some (.release p reason)
  | .claim p stamp => some (.claim p stamp)
  | .announce => some (.announce s.announceFields)

/-- The controller may start a message: in JOINED, with the line quiet and no message in transmission (R118, R120). -/
def State.lineFree (s : State) : Bool := s.joined && s.line.receiving && !s.line.busy && s.line.sending.isNone

/-- A message leaves the queue at its start mark and becomes the message in transmission. -/
def State.beginMessage (w : Waiting) (rest : List Waiting) (content : MessageContent) (s : State) : State :=
  let line := s.line.startMark s.timing.frameNumber s.timing.phase
  { s with line := { line with
      queue := rest
      sending := some { waiting := w, sender := s.ownSender, content := content } } }

/-- The quiet count has reached the interval of the first waiting message: it starts, or, an OBJECT no longer backed, is
removed (R118, R117). -/
def State.messageStart (s : State) : State :=
  match s.line.queue with
  | w :: rest =>
    if s.lineFree && quietInterval s.cfg.number w ≤ s.line.quietCount then
      match s.contentOf w.body with
      | some content => s.beginMessage w rest content
      | none => { s with line := { s.line with queue := rest } }
    else s
  | [] => s

/-- MESSAGE_START. -/
def execMessageStart (dt : Nat) (s : State) : Host.Outcome State Fault Refusal := run dt State.messageStart s

/-! ## MESSAGE_COMPLETE and LINE_CONFLICT (R119, R123) -/

/-- Every bit was read back as sent: the message leaves the controller, and what was received is its echo. -/
def State.messageComplete (s : State) : State :=
  match s.line.sending with
  | some _ => { s with line := { s.line.endMessage with sending := none } }
  | none => s

/-- MESSAGE_COMPLETE. -/
def execMessageComplete (dt : Nat) (s : State) : Host.Outcome State Fault Refusal := run dt State.messageComplete s

/-- The message that met a conflict, its count raised: dropped at 4, else back in the queue in its place of arrival. A CLAIM whose
claim ended while it was in transmission returns like any other, and goes out again for the ended claim (R117, log 46). -/
def HouseLine.returnMessage (w : Waiting) (l : HouseLine) : HouseLine :=
  if 4 ≤ w.conflicts + 1 then { l with dropped := bump l.dropped } else l.join { w with conflicts := w.conflicts + 1 }

/-- A bit reads back otherwise than sent: the station releases the line; it stays busy until the message on it ends. -/
def State.lineConflict (s : State) : State :=
  match s.line.sending with
  | some m =>
    let line : HouseLine :=
      { s.line with sending := none, ownConflict := true, lineConflict := bump s.line.lineConflict }
    { s with line := line.returnMessage m.waiting }
  | none => s

/-- LINE_CONFLICT. -/
def execLineConflict (dt : Nat) (s : State) : Host.Outcome State Fault Refusal := run dt State.lineConflict s

end Sys2Proof.Machine
end

