-- ==== Sys2Proof/Machine/Dispatch.lean ====
section
/-! DEFINITION. The meaning of every command: one arm for each row of spec/opcode_table.json. -/

namespace Sys2Proof.Machine

def exec (i : Instr) (s : State) : Host.Outcome State Fault Refusal :=
  match i with
  | .powerOn dt => Sys2Proof.Machine.execPowerOn dt s
  | .restartLine dt width => Sys2Proof.Machine.execRestartLine dt width s
  | .configReadComplete dt image => Sys2Proof.Machine.execConfigReadComplete dt image s
  | .frameBoundary dt releaseFirst => Sys2Proof.Machine.execFrameBoundary dt releaseFirst s
  | .claimWindowEnd dt => Sys2Proof.Machine.execClaimWindowEnd dt s
  | .holdDownRelease dt => Sys2Proof.Machine.execHoldDownRelease dt s
  | .starved dt => Sys2Proof.Machine.execStarved dt s
  | .rosterExpiry dt => Sys2Proof.Machine.execRosterExpiry dt s
  | .peerRecordExpiry dt station => Sys2Proof.Machine.execPeerRecordExpiry dt station s
  | .peerClaimPassed dt station => Sys2Proof.Machine.execPeerClaimPassed dt station s
  | .objectWindowPassed dt => Sys2Proof.Machine.execObjectWindowPassed dt s
  | .listenEnd dt => Sys2Proof.Machine.execListenEnd dt s
  | .adoption dt releaseFirst => Sys2Proof.Machine.execAdoption dt releaseFirst s
  | .burstStart dt => Sys2Proof.Machine.execBurstStart dt s
  | .burstSent dt => Sys2Proof.Machine.execBurstSent dt s
  | .slotEnd dt => Sys2Proof.Machine.execSlotEnd dt s
  | .lockAsserted dt => Sys2Proof.Machine.execLockAsserted dt s
  | .lockDropped dt => Sys2Proof.Machine.execLockDropped dt s
  | .garbledReply dt reply inGap => Sys2Proof.Machine.execGarbledReply dt reply inGap s
  | .join dt receiver auditorium session ticketClass track => Sys2Proof.Machine.execJoin dt receiver auditorium session ticketClass track s
  | .renew dt receiver => Sys2Proof.Machine.execRenew dt receiver s
  | .leave dt receiver => Sys2Proof.Machine.execLeave dt receiver s
  | .houseLineReceiveStart dt => Sys2Proof.Machine.execHouseLineReceiveStart dt s
  | .announce dt sender fields => Sys2Proof.Machine.execAnnounce dt sender fields s
  | .claim dt sender position stamp => Sys2Proof.Machine.execClaim dt sender position stamp s
  | .object dt sender position stamp claimant => Sys2Proof.Machine.execObject dt sender position stamp claimant s
  | .release dt sender position reason => Sys2Proof.Machine.execRelease dt sender position reason s
  | .badMessage dt message brokeOff => Sys2Proof.Machine.execBadMessage dt message brokeOff s
  | .messageStart dt => Sys2Proof.Machine.execMessageStart dt s
  | .messageComplete dt => Sys2Proof.Machine.execMessageComplete dt s
  | .lineConflict dt => Sys2Proof.Machine.execLineConflict dt s
  | .idleWaitEnd dt => Sys2Proof.Machine.execIdleWaitEnd dt s
  | .recordComplete dt record => Sys2Proof.Machine.execRecordComplete dt record s
  | .recordGap dt gathered => Sys2Proof.Machine.execRecordGap dt gathered s
  | .recordBroken dt gathered framingError => Sys2Proof.Machine.execRecordBroken dt gathered framingError s
  | .outboundRecordSent dt => Sys2Proof.Machine.execOutboundRecordSent dt s
  | .showLoad dt => Sys2Proof.Machine.execShowLoad dt s
  | .showEnd dt => Sys2Proof.Machine.execShowEnd dt s
  | .showClear dt => Sys2Proof.Machine.execShowClear dt s
  | .mark dt => Sys2Proof.Machine.execMark dt s
  | .tableLoad dt => Sys2Proof.Machine.execTableLoad dt s
  | .cue dt => Sys2Proof.Machine.execCue dt s
  | .cueCancel dt => Sys2Proof.Machine.execCueCancel dt s
  | .clipHead dt => Sys2Proof.Machine.execClipHead dt s
  | .clipData dt => Sys2Proof.Machine.execClipData dt s
  | .clipCancel dt => Sys2Proof.Machine.execClipCancel dt s
  | .eventAck dt => Sys2Proof.Machine.execEventAck dt s
  | .endedTimerExpiry dt => Sys2Proof.Machine.execEndedTimerExpiry dt s
  | .marksLost dt => Sys2Proof.Machine.execMarksLost dt s
  | .frozen dt => Sys2Proof.Machine.execFrozen dt s
  | .powerLoss dt => Sys2Proof.Machine.execPowerLoss dt s
  | .restartLineReleased dt => Sys2Proof.Machine.execRestartLineReleased dt s
  | .recordStartMark dt => Sys2Proof.Machine.execRecordStartMark dt s
  | .idleWaitByte dt => Sys2Proof.Machine.execIdleWaitByte dt s
  | .startMarkHeard dt => Sys2Proof.Machine.execStartMarkHeard dt s

end Sys2Proof.Machine
end

