-- ==== Sys2Proof/Machine/Wires.lean ====
section
/-! DEFINITION. The bits on the station's wires: the order of a byte's bits (R176), the UART framing of the show link (R158),
the frame bits and the driven and released bits of the house line (R112, R177), the SPI read (R170) and the burst on the air
(R72), and what the station puts on each of them as it stands. How long a bit lasts is timing (log 21). -/

namespace Sys2Proof.Machine

/-! ## The bits of a byte (R176) -/

/-- Most significant bit first: the house line, the radio port and the configuration memory. -/
def bitsMsbFirst (b : Byte) : List Bool := (List.range 8).map (fun i => b.getLsbD (7 - i))

/-- Least significant bit first: the show link (R158). -/
def bitsLsbFirst (b : Byte) : List Bool := (List.range 8).map (fun i => b.getLsbD i)

/-- The byte of eight bits, least significant first. -/
def byteOfBits (bits : List Bool) : Byte := BitVec.ofNat 8 (bits.foldr (fun b acc => b.toNat + 2 * acc) 0)

/-! ## The show link (R158): true is the high level -/

/-- The level of the idle line and of the stop bit. -/
def linkIdle : Bool := true

/-- One byte's ten bits: start bit, eight data bits, stop bit. -/
def uartFrame (b : Byte) : List Bool := (!linkIdle) :: (bitsLsbFirst b ++ [linkIdle])

/-- The byte of ten received bits; none where the stop bit is not at the stop level: a framing error (R159). -/
def uartByte (bits : List Bool) : Option Byte :=
  match bits with
  | start :: rest =>
    if start == !linkIdle && rest.length == 9 && rest.getLast? == some linkIdle then some (byteOfBits (rest.take 8)) else none
  | [] => none

/-! ## The house line (R112, R177) -/

/-- One bit of the house line. -/
inductive LineBit where
  | driven | released
deriving DecidableEq, Repr

/-- A bit of value 0 is driven and a bit of value 1 released. -/
def lineBit (b : Bool) : LineBit := if b then .released else .driven

/-- A byte travels as nine bits: the frame bit, which is driven, and its eight bits. -/
def lineFrame (b : Byte) : List LineBit := .driven :: (bitsMsbFirst b).map lineBit

def lineBits (bytes : List Byte) : List LineBit := bytes.flatMap lineFrame

/-- The line is driven when at least one station drives it (R112). -/
def LineBit.with_ (a b : LineBit) : LineBit :=
  match a, b with
  | .released, .released => .released
  | _, _ => .driven

/-- Of two messages that start at the same bit the first keeps the line: at the first bit in which they differ it reads back
what it sent. Two that differ nowhere both go on (R119, R123). -/
def keepsLine : List LineBit → List LineBit → Bool
  | a :: as, b :: bs => if a == b then keepsLine as bs else a == a.with_ b
  | _, _ => true

/-! ## What the station puts on its wires -/

/-- The bits of the message in transmission; with none in transmission the station releases the line (R119, R120). -/
def State.lineOutput (s : State) : Option (List LineBit) :=
  s.line.sending.map (fun m => lineBits (messageBytes m.sender m.content))

/-- The bits of the record in transmission, back to back; with none the link idles high (R158, R164). -/
def State.linkOutput (s : State) : Option (List Bool) := s.link.sending.map (fun r => r.bytes.flatMap uartFrame)

/-- The bits of the burst that goes out (R72, R176). -/
def State.radioOutput (s : State) : Option (List Bool) := s.radio.onAir.map (fun t => t.bytes.flatMap bitsMsbFirst)

/-- The bits of the read that goes to the configuration memory (R170, R176). -/
def State.memoryOutput (s : State) : Option (List Bool) := s.loader.spiRead.map (fun bytes => bytes.flatMap bitsMsbFirst)

end Sys2Proof.Machine
end

