-- ==== Sys2Proof/Safety.lean ====
section
/-! DEFINITION. What every state that the station can reach satisfies: the invariants that the statements speak of, block by
block. Each is about one state; that a step keeps it is a statement. -/

namespace Sys2Proof.Machine

/-- Both addressed stores are in their canonical form (R17, R43). -/
def State.storesCanonical (s : State) : Prop :=
  Memory.wf clipDefault s.clips.memory = true ∧ Memory.wf tableDefault s.show_.tables = true

/-- Every counter is a 16-bit count (00, Values, counters and events; R165 lists all nineteen). -/
def State.countersBounded (s : State) : Prop := ∀ c ∈ s.statusReport.counters, c ≤ Config.counterMax

/-- Every queue and table that fills one entry at a time keeps its stated size (R21, R22, R47, R82, R92, R115, R161,
R164). -/
def State.queuesBounded (s : State) : Prop :=
  s.link.rxQueue.length ≤ Config.maxRecords ∧ s.link.outQueue.length ≤ Config.maxOutbound
    ∧ (s.link.outQueue.filter (· == .status)).length ≤ 1 ∧ s.line.queue.length ≤ Config.maxMessages
    ∧ s.roster.acks.length ≤ Config.maxAcks ∧ s.roster.entries.length ≤ Config.maxRoster
    ∧ s.cues.entries.length ≤ Config.maxCues ∧ s.cues.clears.length ≤ Config.maxClears
    ∧ s.clips.clips.length ≤ Config.maxClips

/-- The peer table, each record's holdings, the burst plan and the track table keep their stated sizes (R125, R128, R63, R2), and
what these rest on: an image is in force exactly from LISTEN on, its number and maximum holdings in range (R169, R170); nothing is
heard before; records bear distinct numbers in range, none the station's own (R125); holdings and claim within the maximum
(R139). -/
def State.tablesBounded (s : State) : Prop :=
  s.peers.length ≤ 31 ∧ (∀ r ∈ s.peers, r.holdings.length ≤ 4) ∧ s.plan.bursts.length ≤ 4
    ∧ s.show_.tracks.length ≤ 8 ∧ (s.show_.state = .noShow ↔ s.show_.tracks = [])
    ∧ s.loader.config.isSome = s.loader.station.receives
    ∧ (∀ c, s.loader.config = some c → 1 ≤ c.number ∧ c.number ≤ 32 ∧ c.maxHoldings ≤ 4)
    ∧ (s.loader.station.receives = false → s.line.receiving = false ∧ s.peers = [])
    ∧ (s.peers.map (·.number)).Nodup ∧ (∀ r ∈ s.peers, 1 ≤ r.number ∧ r.number ≤ 32 ∧ r.number ≠ s.cfg.number)
    ∧ s.pm.holdings.length + s.pm.claim.toList.length ≤ s.cfg.maxHoldings

/-- The fault line and the hold line stand as their conditions require (R161, R167, R175). -/
def State.linesDriven (s : State) : Prop :=
  s.loader.faultLine = faultLineAt s.loader.station s.pm.starved s.show_.state
    ∧ s.link.holdLine = holdLineAt s.loader.station s.link.rxQueue.length

/-- No record waits while the transmit side is free (R164). -/
def State.transmitBusy (s : State) : Prop := s.link.sending = none → s.link.outQueue = []

/-- The positions that the station holds or claims. -/
def PositionManager.positions (p : PositionManager) : List Position := (p.holdings ++ p.claim.toList).map (·.position)

/-- What the station holds and claims is within the maximum holdings, on licensed carriers, no position twice, and positions on
different carriers at least 2 slots apart; outside JOINED it is nothing (R139, R142, section 9.6). -/
def State.positionsLegal (s : State) : Prop :=
  (s.joined = false → s.pm.positions = []) ∧ s.pm.positions.length ≤ s.cfg.maxHoldings
    ∧ (∀ p ∈ s.pm.positions, s.cfg.carriers.getLsbD p.carrier.val = true)
    ∧ s.pm.positions.Pairwise (fun p q => p ≠ q ∧ spaced p q = true)

/-- Each receiver has at most one entry, no entry has receiver id 0, and every entry's track is in the track table (R82,
R84). -/
def State.rosterLegal (s : State) : Prop :=
  (s.roster.entries.map (·.receiver)).Nodup
    ∧ ∀ e ∈ s.roster.entries, e.receiver ≠ 0 ∧ ∃ k ∈ s.show_.tracks, k.number = e.track

/-- Each clip holds its pages and its loaded flags; each page of clip memory belongs to at most one clip; no two clips share
an id (R42, R43). -/
def State.clipsLegal (s : State) : Prop :=
  (s.clips.clips.map (·.id)).Nodup ∧ (s.clips.clips.flatMap (·.pages)).Nodup
    ∧ ∀ c ∈ s.clips.clips,
        c.pages.length = pagesFor c.length ∧ c.loaded.length = c.length ∧ ∀ p ∈ c.pages, p < Config.pages

/-- An engine's current part names a PLAYING clip of its own track, at an index within the clip, and every PLAYING clip is the
current one of an engine (R44); for which every DESCRIPTION track is bound to one engine and no engine's track to another (R3),
every clip's track is bound, and no two clips share track and start (R45). -/
def State.enginesLegal (s : State) : Prop :=
  (∀ i < 4, ∀ cur, (s.clips.engines.get i).current = some cur → ∃ c ∈ s.clips.clips,
      c.id = cur.clip ∧ c.state = .playing ∧ s.show_.binding.get i = some c.track ∧ cur.index ≤ c.length)
    ∧ (∀ c ∈ s.clips.clips, c.state = .playing → ∃ i < 4, ∃ cur,
        (s.clips.engines.get i).current = some cur ∧ cur.clip = c.id)
    ∧ (∀ track, isDescriptionTrack s.show_.tracks track = true → ∃ i < 4, s.show_.binding.get i = some track)
    ∧ (∀ i < 4, ∀ j < 4, (s.show_.binding.get i).isSome = true → s.show_.binding.get i = s.show_.binding.get j → i = j)
    ∧ (∀ c ∈ s.clips.clips, ∃ i < 4, s.show_.binding.get i = some c.track)
    ∧ (s.clips.clips.map (fun c => (c.track, c.start))).Nodup

/-- Cue entries stand in queue order, no two with the same track and start, and no track has more than 3 SHOWING (R21,
R29). -/
def State.cuesLegal (s : State) : Prop :=
  s.cues.entries.Pairwise (fun a b => cueBefore a b = true)
    ∧ ∀ track, (s.cues.showing track).length ≤ Config.showingCap

/-- The trim is within ±200 ppm, the lock count at most 3, a followed station present exactly in ACQUIRE and LOCKED and in
LOCKED numbered below the station, and the timing state LISTEN before the station listens (R99, R103, section 6.5, R107). -/
def State.timingLegal (s : State) : Prop :=
  -200 ≤ s.timing.trim ∧ s.timing.trim ≤ 200 ∧ s.timing.lockCount ≤ 3
    ∧ (s.timing.followed.isSome = true ↔ s.timing.state = .acquire ∨ s.timing.state = .locked)
    ∧ (s.timing.state = .locked → ∀ n, s.timing.followed = some n → n < s.cfg.number)
    ∧ (s.loader.station.receives = false → s.timing.state = .listen)

/-- The show clock lies in its range, and its fraction is less than a millisecond (R8, 00, Time). -/
def State.clockLegal (s : State) : Prop :=
  s.show_.clock ≤ Config.maxShowTime ∧ 0 < s.show_.rate.den ∧ s.show_.fraction < 1000 * s.show_.rate.den

/-! ## Cold start, written out -/

/-- The station held or just released at cold start: nothing but its pins and the commands still to come is left (R168). -/
def coldState (pending : List Instr) (supplyUp restartAsserted lockIndicator : Bool) : State :=
  { State.reset with
    pending := pending
    loader := { Loader.reset with supplyUp := supplyUp, restartAsserted := restartAsserted }
    radio := { RadioPort.reset with lockIndicator := lockIndicator } }

/-! ## What a re-evaluation leaves (R36, R57, R58) -/

/-- The candidates of an entry's track at show time t that start later than it. -/
def laterCues (t : Nat) (all : List Cue) (e : Cue) : List Cue :=
  all.filter (fun o => o.track == e.track && o.start ≤ t && t < o.stop && e.start < o.start)

/-- An entry e before and e' after a re-evaluation at show time t in frame f (R36). -/
def cueSettled (t : Nat) (f : FrameNo) (all : List Cue) (e e' : Cue) : Prop :=
  (e'.track = e.track ∧ e'.start = e.start ∧ e'.stop = e.stop ∧ e'.region = e.region ∧ e'.text = e.text)
    ∧ (e.stop ≤ t → e'.state = .spent)
    ∧ (t < e.stop → t < e.start → e'.state = .waiting)
    ∧ (t < e.stop → e.start ≤ t → 3 ≤ (laterCues t all e).length → e'.state = .spent)
    ∧ (t < e.stop → e.start ≤ t → (laterCues t all e).length < 3 →
        (e.state = .showing → e' = e)
          ∧ (e.state ≠ .showing → e'.state = .showing ∧ e'.startedFrame = some f ∧ e'.refreshDue = none
              ∧ e'.everShown = true ∧ e'.changed = true ∧ e'.lateNoted = false))

/-- The candidates of a clip's track at show time t that start later than it. -/
def laterClips (t : Nat) (all : List Clip) (c : Clip) : List Clip :=
  all.filter (fun o => o.track == c.track && o.start ≤ t && t < o.start + o.length * 20 && c.start < o.start)

/-- A clip c before and c' after a re-evaluation at show time t (R57, R58). -/
def clipSettled (t : Nat) (all : List Clip) (c c' : Clip) : Prop :=
  (c'.id = c.id ∧ c'.track = c.track ∧ c'.start = c.start ∧ c'.length = c.length ∧ c'.pages = c.pages ∧ c'.loaded = c.loaded)
    ∧ (c.start + c.length * 20 ≤ t → c'.state = .spent)
    ∧ (t < c.start → c'.state = (match c.state with
        | .loading => .loading
        | .ready => .ready
        | .late => .loading
        | .playing => .ready
        | .spent => if c.complete then .ready else .loading))
    ∧ (c.start ≤ t → t < c.start + c.length * 20 → laterClips t all c ≠ [] → c'.state = .spent)
    ∧ (c.start ≤ t → t < c.start + c.length * 20 → laterClips t all c = [] → c.complete = true →
        c'.state = .playing ∧ c'.everPlayed = true)
    ∧ (c.start ≤ t → t < c.start + c.length * 20 → laterClips t all c = [] → c.complete = false → c'.state = .late)

/-! ## What a composition places (R66 to R71) -/

/-- The items that find room, in the order in which they are offered, n places being free: an item that does not fit is passed
over and the next one is tried (R66). -/
def itemsPlaced : Nat → List (List Cell) → List (List Cell)
  | _, [] => []
  | n, item :: rest => if item.length ≤ n then item :: itemsPlaced (n - item.length) rest else itemsPlaced n rest

/-- Acknowledgements six to a cell (R70); the first number bounds the cells. -/
def ackItems : Nat → List Ack → List (List Cell)
  | 0, _ => []
  | n + 1, acks => if acks.isEmpty then [] else [.ack (acks.take 6)] :: ackItems n (acks.drop 6)

/-- What the levels offer after the BEACON, in order: DIRECTORY, AUDIO, ACK, CAPTION CLEAR, starts, refreshes (R66). -/
def itemsOffered (show_ : ShowControl) (f : FrameNo) (audio : List AudioOffer) (acks : List Ack) (cues : CueQueue) :
    List (List Cell) :=
  (if f.toNat % 25 = 0 then [[.directory show_.tracks]] else [])
    ++ audio.map (fun a => [.audio a.track a.block])
    ++ ackItems acks.length acks
    ++ cues.clears.map (fun c => [.captionClear c.track c.start c.region])
    ++ cues.starts.map (cueCells show_ false)
    ++ (cues.refreshes f).map (cueCells show_ true)

/-- An acknowledgement cell. -/
def Cell.isAck : Cell → Bool
  | .ack _ => true
  | _ => false

/-! ## Values that a format carries

The ranges in which a record, a message, a reply or an image comes back from its own bytes. -/

/-- The fields of a track entry fill their bytes (R179). -/
def TrackEntry.fits (e : TrackEntry) : Prop :=
  e.number < 256 ∧ e.kind < 256 ∧ e.language.length = 3 ∧ e.requiredClass < 256 ∧ e.table < 256

/-- The fields of an inward record fill their bytes, and its body is within 261 bytes (R179). -/
def Record.fits : Record → Prop
  | .showLoad _ time tracks => time < 4294967296 ∧ tracks.length ≤ 31 ∧ ∀ e ∈ tracks, e.fits
  | .showEnd => True
  | .showClear => True
  | .mark time _ => time < 4294967296
  | .tableLoad table first values => table < 256 ∧ first < 256 ∧ values.length ≤ 255
  | .cue track start stop region _ _ text =>
    track < 256 ∧ start < 4294967296 ∧ stop < 4294967296 ∧ region < 256 ∧ text.length ≤ 249
  | .cueCancel track start => track < 256 ∧ start < 4294967296
  | .clipHead id track start length => id < 65536 ∧ track < 256 ∧ start < 4294967296 ∧ length < 65536
  | .clipData id first blocks => id < 65536 ∧ first < 65536 ∧ blocks.length ≤ 8 ∧ ∀ b ∈ blocks, b.length = 32
  | .clipCancel id => id < 65536
  | .eventAck _ => True

/-- The content of a house line message lies in its ranges (R178). -/
def contentFits : MessageContent → Prop
  | .object _ _ claimant => 1 ≤ claimant ∧ claimant ≤ 32
  | .release _ _ => True
  | .claim _ _ => True
  | .announce f => f.demand ≤ 4 ∧ f.holdings.length ≤ 4

/-- The fields of a reply fill their bytes, and a JOIN's class is within its range (R181, R183). -/
def Reply.fits : Reply → Prop
  | .join _ auditorium _ ticketClass track => auditorium < 256 ∧ ticketClass ≤ 3 ∧ track < 256
  | .renew _ => True
  | .leave _ => True

/-- A STATUS as the station can send it: its fields fill their bytes (R165, R179). -/
def StatusReport.fits (r : StatusReport) : Prop :=
  r.showTime < 4294967296 ∧ r.holdings.length ≤ 4 ∧ r.demand < 256 ∧ (∀ n, r.listeners.get n < 256)
    ∧ r.counters.length = 19 ∧ ∀ c ∈ r.counters, c < 65536

/-- The fields of a REFUSAL fill their bytes (R162, R179). -/
def RefusalRecord.fits (r : RefusalRecord) : Prop :=
  (∀ track start, r.cue = some (track, start) → track < 256 ∧ start < 4294967296) ∧ ∀ id, r.clip = some id → id < 65536

/-- The fields of a cell fill their bytes (R180). -/
def Cell.fits : Cell → Prop
  | .fill => True
  | .beacon number _ _ showTime held _ => number < 256 ∧ showTime < 4294967296 ∧ held.length ≤ 4
  | .directory tracks =>
    tracks.length ≤ 8 ∧ ∀ k ∈ tracks, 1 ≤ k.number ∧ k.number ≤ 8 ∧ k.requiredClass ≤ 3 ∧ k.language.length = 3
  | .audio track block => track < 256 ∧ block.length = 32
  | .ack acks => acks.length ≤ 6
  | .captionHead _ track start duration region _ _ codes =>
    track < 256 ∧ start < 4294967296 ∧ duration < 65536 ∧ region < 256 ∧ codes < 256
  | .captionText track start sequence codes => track < 16 ∧ sequence < 16 ∧ start < 4294967296 ∧ codes.length ≤ 28
  | .captionClear track start region => track < 256 ∧ start < 4294967296 ∧ region < 256

/-- Every field of an image lies in its range, and its check is not the one that always fails (R169, R176). -/
def ConfigImage.good (c : ConfigImage) : Prop :=
  1 ≤ c.number ∧ c.number ≤ 32 ∧ c.carriers ≠ 0 ∧ 1 ≤ c.maxHoldings ∧ c.maxHoldings ≤ 4 ∧ c.outputLevel ≤ 7
    ∧ fieldAt c.bytes 8 2 ≠ 65535

/-! ## What a receiver of the bytes reads

The layouts of chapter 12 as a reader finds them: which number stands in which bytes. -/

/-- The number that stands for a position (R178). -/
def positionNumber (p : Position) : Nat := 8 * p.carrier.val + p.slot.val

/-- The station, timing and show states as coded fields (R178, R179). -/
def stationNumber (s : StationState) : Nat :=
  match s with
  | .configRead => 1 | .configFault => 2 | .listen => 3 | .joined => 4 | .duplicateFault => 5

def timingNumber (t : TimingState) : Nat := match t with | .listen => 0 | .pace => 1 | .acquire => 2 | .locked => 3

def showNumber (s : ShowState) : Nat :=
  match s with
  | .noShow => 0 | .ready => 1 | .running => 2 | .paused => 3 | .coasting => 4 | .frozen => 5 | .ended => 6

/-- The reasons of R179 and the results of R180, in the order of their codes from 1. -/
def reasonsInOrder : List Reason :=
  [.badCheck, .badLength, .unknownKind, .wrongState, .badField, .queueFull, .noRoom, .unknownClip, .duplicate, .noTrack,
   .tooLate]

def resultsInOrder : List JoinResult :=
  [.granted, .wrongRoom, .noShow, .badSession, .noTrack, .classLow, .rosterFull, .renewed, .left, .unknownReceiver]

/-- The events of R166 in the order of their bits from 0. -/
def eventsInOrder : List Event :=
  [.starved, .evicted, .duplicate, .marksLost, .frozen, .jump, .queueFull, .clipNoRoom, .lateClip, .linkOverrun]

/-- A record with this kind and body after the start mark, its length and check right (R179). -/
def carriesRecord (kind : Byte) (body bs : List Byte) : Prop :=
  bs.head? = some 165 ∧ bs[1]? = some kind ∧ fieldAt bs 2 2 = body.length ∧ (bs.drop 4).take body.length = body
    ∧ bs.length = body.length + 6 ∧ checkOk bs.tail = true

/-- The body of a STATUS: its fields, and after h holdings the rest of them (R179). -/
def carriesStatus (r : StatusReport) (body : List Byte) : Prop :=
  body.length = 57 + 5 * r.holdings.length ∧ fieldAt body 0 1 = stationNumber r.station
    ∧ fieldAt body 1 1 = timingNumber r.timing ∧ fieldAt body 2 1 = showNumber r.show_ ∧ fieldAt body 3 4 = r.showTime
    ∧ fieldAt body 7 1 = r.holdings.length
    ∧ (∀ i h, r.holdings[i]? = some h →
        fieldAt body (8 + 5 * i) 1 = positionNumber h.position ∧ fieldAt body (9 + 5 * i) 4 = h.stamp.toNat)
    ∧ fieldAt body (8 + 5 * r.holdings.length) 1 = r.demand
    ∧ (∀ k < 8, fieldAt body (9 + 5 * r.holdings.length + k) 1 = r.listeners.get (k + 1))
    ∧ fieldAt body (17 + 5 * r.holdings.length) 2 = r.events.toNat
    ∧ ∀ k c, r.counters[k]? = some c → fieldAt body (19 + 5 * r.holdings.length + 2 * k) 2 = c

/-- The body of a REFUSAL; what is absent is sent as 0 (R179), and so are the bits of the present byte that no rule names (log 55). -/
def carriesRefusal (r : RefusalRecord) (body : List Byte) : Prop :=
  body.length = 10 ∧ fieldAt body 0 1 = (r.kind.getD 0).toNat ∧ reasonsInOrder[fieldAt body 1 1 - 1]? = some r.reason
    ∧ 1 ≤ fieldAt body 1 1
    ∧ fieldAt body 2 1 = (if r.cue.isSome then 1 else 0) + (if r.clip.isSome then 2 else 0)
    ∧ fieldAt body 3 1 = (r.cue.map (·.1)).getD 0 ∧ fieldAt body 4 4 = (r.cue.map (·.2)).getD 0
    ∧ fieldAt body 8 2 = r.clip.getD 0

/-- A cell's 34 bytes: kind, tag, the fields of its body, and zeros (R180). Bit 1 of a track's descriptor is 0, and a CAPTION HEAD's
style byte has the bits of a CUE's (log 55). -/
def carriesCell (c : Cell) (bs : List Byte) : Prop :=
  bs.length = 34 ∧ match c with
    | .fill => fieldAt bs 0 1 = 0 ∧ fieldAt bs 1 1 = 0 ∧ bs.drop 2 = List.replicate 32 0
    | .beacon number state session showTime held frame =>
      fieldAt bs 0 1 = 1 ∧ fieldAt bs 1 1 = 0 ∧ fieldAt bs 2 1 = number ∧ fieldAt bs 3 1 = showNumber state
        ∧ fieldAt bs 4 4 = (session.getD 0).toNat ∧ fieldAt bs 8 4 = showTime ∧ fieldAt bs 12 1 = held.length
        ∧ (∀ i < 4, fieldAt bs (13 + i) 1 = (held[i]?.map positionNumber).getD 255)
        ∧ fieldAt bs 17 2 = frame.toNat ∧ bs.drop 19 = List.replicate 15 0
    | .directory tracks =>
      fieldAt bs 0 1 = 2 ∧ fieldAt bs 1 1 = 0
        ∧ (∀ i k, tracks[i]? = some k →
            fieldAt bs (2 + 4 * i) 1
                = 32 * (k.number - 1) + (if k.kind = .description then 16 else 0) + 4 * k.requiredClass + 1
              ∧ (bs.drop (3 + 4 * i)).take 3 = k.language)
        ∧ bs.drop (2 + 4 * tracks.length) = List.replicate (32 - 4 * tracks.length) 0
    | .audio track block => fieldAt bs 0 1 = 3 ∧ fieldAt bs 1 1 = track ∧ bs.drop 2 = block
    | .ack acks =>
      fieldAt bs 0 1 = 4 ∧ fieldAt bs 1 1 = acks.length
        ∧ (∀ i a, acks[i]? = some a → fieldAt bs (2 + 5 * i) 4 = a.receiver.toNat ∧ 1 ≤ fieldAt bs (6 + 5 * i) 1
            ∧ resultsInOrder[fieldAt bs (6 + 5 * i) 1 - 1]? = some a.result)
        ∧ bs.drop (2 + 5 * acks.length) = List.replicate (32 - 5 * acks.length) 0
    | .captionHead refresh track start duration region italic speakerChange codes =>
      fieldAt bs 0 1 = 5 ∧ fieldAt bs 1 1 = (if refresh then 2 else 1) ∧ fieldAt bs 2 1 = track ∧ fieldAt bs 3 4 = start
        ∧ fieldAt bs 7 2 = duration ∧ fieldAt bs 9 1 = region
        ∧ fieldAt bs 10 1 = (if italic then 1 else 0) + (if speakerChange then 2 else 0) ∧ fieldAt bs 11 1 = codes
        ∧ bs.drop 12 = List.replicate 22 0
    | .captionText track start sequence codes =>
      fieldAt bs 0 1 = 6 ∧ fieldAt bs 1 1 = 16 * sequence + track ∧ fieldAt bs 2 4 = start
        ∧ bs.drop 6 = codes ++ List.replicate (28 - codes.length) 0
    | .captionClear track start region =>
      fieldAt bs 0 1 = 7 ∧ fieldAt bs 1 1 = track ∧ fieldAt bs 2 4 = start ∧ fieldAt bs 6 1 = region
        ∧ bs.drop 7 = List.replicate 27 0

/-- A burst's 209 bytes: header, six cells in place order, check (R180). -/
def carriesBurst (number : Nat) (frame : FrameNo) (cells : List Cell) (bs : List Byte) : Prop :=
  bs.length = 209 ∧ fieldAt bs 0 1 = number ∧ fieldAt bs 1 2 = frame.toNat % 65536 ∧ checkOk bs = true
    ∧ ∀ i c, cells[i]? = some c → carriesCell c ((bs.drop (3 + 34 * i)).take 34)

end Sys2Proof.Machine
end

