-- ==== Sys2Proof/Certificates/Slice0/Obligations.lean ====
section
/-! DEFINITION. The statements for the provers. In each, u is the state after the dt µs that the command says have passed
(advance dt s), and finish is the end of every step: the two output lines follow, and a waiting record may start to go out
(stated itself as EndOfStepDrivesLinesAndStartsARecord). A conclusion `exec c s = .next (finish { u with … })` therefore says
the whole next state: everything not named in it is as it was. -/

section
open Sys2Proof Sys2Proof.Machine

/-! ## The step -/

/-- A step takes the command at the front of the queue and runs it with the queue's rest. -/
def Obligations.StepRunsTheFrontCommand : Prop :=
  ∀ (c : Instr) (q : List Instr) (s : State), step (s.withPending (c :: q)) = exec c (s.withPending q)

/-- No command stops the station, and none touches the commands behind it. For a command that is not due this is the model's
choice: only its time passes (log 2). -/
def Obligations.EveryCommandGoesOnAndKeepsTheQueue : Prop :=
  ∀ (c : Instr) (s : State), ∃ t, exec c s = .next t ∧ t.pending = s.pending

/-- The end of a step changes the two lines and the transmit side alone: a free transmit side takes the oldest waiting record,
a STATUS being read then (R164, R165); that it happens at the end of the step is the model's choice (log 17). The rest says how a
record joins the outbound queue: a STATUS stands as a waiting one, joins the end of fewer than 4, or takes the place of the newest
REFUSAL of 4, counted; a REFUSAL joins the end of fewer than 4 or is dropped and counted; an event that passes from clear to set
hands over a STATUS, and one already set nothing (R164 to R166). The hold line is asserted in CONFIG READ, in CONFIG FAULT and
from 7 occupied entries on; the fault line in CONFIG FAULT, in DUPLICATE FAULT, while starved and in FROZEN; each is released where
none of its conditions holds (R161, R167, R175). -/
def Obligations.EndOfStepDrivesLinesAndStartsARecord : Prop :=
  (∀ (s v : State),
    v = { s with
          loader := { s.loader with faultLine := faultLineAt s.loader.station s.pm.starved s.show_.state }
          link := { s.link with holdLine := holdLineAt s.loader.station s.link.rxQueue.length } } →
    (s.link.sending ≠ none → finish s = v)
      ∧ (s.link.outQueue = [] → finish s = v)
      ∧ (∀ rest, s.link.sending = none → s.link.outQueue = .status :: rest →
          finish s = { v with link := { v.link with outQueue := rest, sending := some (.status s.statusReport) } })
      ∧ (∀ r rest, s.link.sending = none → s.link.outQueue = .refusal r :: rest →
          finish s = { v with link := { v.link with outQueue := rest, sending := some (.refusal r) } }))
  ∧ (∀ (station : StationState) (occupied : Nat) (starved : Bool) (show_ : ShowState),
    (holdLineAt station occupied = true ↔ station = .configRead ∨ station = .configFault ∨ 7 ≤ occupied)
    ∧ (faultLineAt station starved show_ = true ↔
        station = .configFault ∨ station = .duplicateFault ∨ starved = true ∨ show_ = .frozen))
  ∧ ∀ (k : ShowLink),
    (.status ∈ k.outQueue → k.handStatus = k)
    ∧ (.status ∉ k.outQueue → k.outQueue.length < 4 → k.handStatus = { k with outQueue := k.outQueue ++ [.status] })
    ∧ (∀ older newest, k.outQueue = older ++ [newest] → .status ∉ k.outQueue → 4 ≤ k.outQueue.length →
        k.handStatus = { k with outQueue := older ++ [.status], refusalsDropped := min 65535 (k.refusalsDropped + 1) })
    ∧ (∀ r, k.outQueue.length < 4 → k.handRefusal r = { k with outQueue := k.outQueue ++ [.refusal r] })
    ∧ (∀ r, 4 ≤ k.outQueue.length → k.handRefusal r = { k with refusalsDropped := min 65535 (k.refusalsDropped + 1) })
    ∧ (∀ e, k.has e = true → k.raise e = k)
    ∧ (∀ e, k.has e = false → k.raise e = { k with events := k.events ||| e.bit }.handStatus)
    ∧ ∀ e f, { k with events := k.events ||| e.bit }.has f = (k.has f || e == f)

/-- The show clock loses nothing through rounding: two spans of time at one rate are one span, and it stands still at its end (R8).
The rest says what the passing of dt µs does, which comes before every command's effect (log 1): nothing while the station is held
(R168); else local reference time runs, and the frame timer, in fiftieths of a microsecond, while it is running (R98, R99); a
boundary is in hand only at its own instant (log 5); the show clock moves in RUNNING and COASTING alone, the mark-loss timer and the
ENDED timer while they run (R5, R8, R15); the quiet count runs while the line is quiet (R112), and the receiver's time without a
byte in IDLE WAIT and IN RECORD (R159; log 21). -/
def Obligations.ShowClockLosesNothing : Prop :=
  (∀ (a b : Nat) (c : ShowControl), 0 < c.rate.den → c.fraction < 1000 * c.rate.den → c.clock ≤ 2147483647 →
    (c.advanceClock a).advanceClock b = c.advanceClock (a + b)
      ∧ c.advanceClock a = { c with clock := (c.advanceClock a).clock, fraction := (c.advanceClock a).fraction }
      ∧ (c.advanceClock a).clock ≤ 2147483647
      ∧ (1000 * c.rate.den * 2147483647 ≤ 1000 * c.rate.den * c.clock + c.fraction + a * c.rate.num →
          (c.advanceClock a).clock = 2147483647)
      ∧ ((c.advanceClock a).clock < 2147483647 →
          1000 * c.rate.den * (c.advanceClock a).clock + (c.advanceClock a).fraction
              = 1000 * c.rate.den * c.clock + c.fraction + a * c.rate.num
            ∧ (c.advanceClock a).fraction < 1000 * c.rate.den))
  ∧ ∀ (dt : Nat) (s : State),
    (s.loader.supplyUp = false ∨ s.loader.restartAsserted = true → advance dt s = s)
    ∧ (s.loader.supplyUp = true → s.loader.restartAsserted = false → ∀ (moved : ShowControl) (quiet idle : Nat),
      moved = (if s.show_.state = .running ∨ s.show_.state = .coasting then s.show_.advanceClock dt else s.show_) →
      quiet = (if s.line.receiving = true ∧ s.line.busy = false then s.line.quietMicros + dt else s.line.quietMicros) →
      idle = (if s.link.framing = .idleWait ∨ s.link.framing = .inRecord then s.link.idleMicros + dt else s.link.idleMicros) →
      advance dt s = { s with
        timing := { s.timing with
          localTime := s.timing.localTime + dt
          frameElapsed := if s.timing.running then s.timing.frameElapsed + 50 * dt else s.timing.frameElapsed
          boundaryOpen := s.timing.boundaryOpen && dt == 0 }
        show_ := { moved with
          markLoss := s.show_.markLoss.map (fun m => m + dt), endedTimer := s.show_.endedTimer.map (fun m => m - dt) }
        line := { s.line with quietMicros := quiet }
        link := { s.link with idleMicros := idle } })

/-! ## Reset and invariants -/

/-- State.reset holds every value that the manual's chapters give for cold start. -/
def Obligations.ResetHoldsTheColdStartValues : Prop :=
  ∀ s, s = State.reset →
    (s.loader.station = .configRead ∧ s.loader.config = none ∧ s.loader.faultLine = false ∧ s.link.holdLine = true)
      ∧ (s.timing.localTime = 0 ∧ s.timing.running = false ∧ s.timing.trim = 0 ∧ s.timing.frameNumber = 0
          ∧ s.timing.phase = 0 ∧ s.timing.state = .listen ∧ s.timing.followed = none ∧ s.timing.gate = none
          ∧ s.timing.lockCount = 0 ∧ s.timing.change = .none)
      ∧ (s.line.queue = [] ∧ s.line.sending = none ∧ s.line.receiving = false ∧ s.peers = [])
      ∧ (s.pm.holdings = [] ∧ s.pm.claim = none ∧ s.pm.demand = 0 ∧ s.pm.counts = .zero ∧ s.pm.claimRest = false
          ∧ s.pm.holdDown = 0 ∧ s.pm.starvation = 0 ∧ s.pm.starved = false)
      ∧ (s.link.framing = .notReceiving ∧ s.link.rxQueue = [] ∧ s.link.outQueue = [] ∧ s.link.sending = none
          ∧ s.link.events = 0)
      ∧ (s.show_.state = .noShow ∧ s.show_.session = none ∧ s.show_.tracks = [] ∧ s.show_.binding = .all none
          ∧ s.show_.clock = 0 ∧ s.show_.rate = { num := 1, den := 1 } ∧ s.show_.gate = none ∧ s.show_.markLoss = none
          ∧ s.show_.endedTimer = none)
      ∧ (∀ table entry, table < 4 → entry < 256 →
          Memory.read tableDefault s.show_.tables (table * 256 + entry) = BitVec.ofNat 8 entry)
      ∧ (s.cues.entries = [] ∧ s.cues.clears = [] ∧ s.clips.clips = [] ∧ s.clips.freePages = List.range 128
          ∧ s.clips.engines = .all { current := none, next := none } ∧ s.plan.bursts = [])
      ∧ (s.radio.tuned = none ∧ s.radio.lockedSince = none ∧ s.roster.entries = [] ∧ s.roster.acks = []
          ∧ s.roster.secondCount = 0)
      ∧ s.statusReport.counters = List.replicate 19 0

/-- Right after reset every invariant below holds. -/
def Obligations.ResetSatisfiesEveryInvariant : Prop :=
  State.reset.storesCanonical ∧ State.reset.countersBounded ∧ State.reset.queuesBounded ∧ State.reset.tablesBounded
    ∧ State.reset.linesDriven ∧ State.reset.transmitBusy ∧ State.reset.positionsLegal ∧ State.reset.rosterLegal ∧ State.reset.clipsLegal
    ∧ State.reset.enginesLegal ∧ State.reset.cuesLegal ∧ State.reset.timingLegal ∧ State.reset.clockLegal

/-- Every step keeps clip memory and the translation tables in canonical form, so that equal stores are equal data. -/
def Obligations.StepKeepsStoresCanonical : Prop :=
  ∀ s t : State, s.storesCanonical → step s = .next t → t.storesCanonical

/-- Every step keeps every counter within 16 bits and every queue within its size; and, where the command it takes is well formed,
the peer table, the records' holdings, the burst plan and the track table within theirs. -/
def Obligations.StepKeepsCountersAndQueuesBounded : Prop :=
  (∀ s t : State, s.countersBounded → s.queuesBounded → step s = .next t → t.countersBounded ∧ t.queuesBounded)
    ∧ ∀ s t : State, s.tablesBounded → (∀ c ∈ s.pending.head?, c.wf = true) → step s = .next t → t.tablesBounded

/-- Every step leaves the fault line and the hold line as their conditions require, and no record waiting for a free transmit
side. -/
def Obligations.StepKeepsLinesDriven : Prop :=
  ∀ s t : State, s.linesDriven → s.transmitBusy → step s = .next t → t.linesDriven ∧ t.transmitBusy

/-- Every step keeps what the station holds and claims legal: within the maximum holdings, licensed, distinct, and 2 slots apart
between carriers. -/
def Obligations.StepKeepsPositionsLegal : Prop :=
  ∀ s t : State, s.positionsLegal → step s = .next t → t.positionsLegal

/-- Every step keeps one entry for each receiver, each on a track of the track table. -/
def Obligations.StepKeepsRosterLegal : Prop :=
  ∀ s t : State, s.rosterLegal → step s = .next t → t.rosterLegal

/-- Every step keeps each page of clip memory with at most one clip; with that, each engine's current clip PLAYING and each
PLAYING clip current; and the cue queue in queue order, at most 3 entries of a track SHOWING. -/
def Obligations.StepKeepsClipsAndCuesLegal : Prop :=
  ∀ s t : State, step s = .next t → (s.clipsLegal → t.clipsLegal)
    ∧ (s.clipsLegal → s.enginesLegal → t.enginesLegal) ∧ (s.cuesLegal → t.cuesLegal)

/-- Every step keeps trim, lock count, timing state and followed station in agreement, and the show clock in its range. -/
def Obligations.StepKeepsTimingAndClockLegal : Prop :=
  ∀ s t : State, s.timingLegal → s.clockLegal → step s = .next t → t.timingLegal ∧ t.clockLegal

/-! ## Start-up (11) -/

/-- Power loss, power-on, and the restart line asserted for 10 µs or released: everything the station held is lost, and it
stands at cold start; a shorter assertion is ignored, and nothing moves while the station is held. -/
def Obligations.ColdStartForgetsEverything : Prop :=
  ∀ (dt : Nat) (s : State),
    exec (.powerLoss dt) s = .next (coldState s.pending false s.loader.restartAsserted s.radio.lockIndicator)
      ∧ (s.loader.supplyUp = false →
          exec (.powerOn dt) s = .next (coldState s.pending true s.loader.restartAsserted s.radio.lockIndicator))
      ∧ (∀ width, 10 ≤ width → s.loader.restartAsserted = false →
          exec (.restartLine dt width) s = .next (coldState s.pending s.loader.supplyUp true s.radio.lockIndicator))
      ∧ (s.loader.restartAsserted = true →
          exec (.restartLineReleased dt) s = .next (coldState s.pending s.loader.supplyUp false s.radio.lockIndicator))
      ∧ (∀ width, width < 10 → exec (.restartLine dt width) s = .next (finish (advance dt s)))
      ∧ (s.loader.held = true → advance dt s = s)

/-- The end of CONFIG READ. A good image: LISTEN, the frame timer running from the boundary that begins frame 0, a second tick,
and the show link receiver in IDLE WAIT. A bad one, such as ten bytes with every bit set: CONFIG FAULT, with both lines held. -/
def Obligations.ImageDecidesListenOrFault : Prop :=
  ∀ (dt : Nat) (image : List Byte) (s u : State), u = advance dt s → u.loader.reading = true →
    (∀ c, parseImage image = some c →
      exec (.configReadComplete dt image) s = .next (finish
        { u with
          loader := { u.loader with station := .listen, config := some c }
          timing := { u.timing with running := true, boundaryOpen := true }
          roster := { u.roster with secondCount := u.roster.secondCount + 1 }
          link := ShowLink.handStatus { u.link with framing := .idleWait, idleMicros := 0 } }))
      ∧ (parseImage image = none → ∃ t,
          exec (.configReadComplete dt image) s = .next t
            ∧ t = finish { u with loader := { u.loader with station := .configFault } }
            ∧ t.loader.station = .configFault ∧ t.loader.faultLine = true ∧ t.link.holdLine = true)
      ∧ parseImage (List.replicate 10 255) = none

/-! ## Formats (12) -/

/-- An image in its ranges is read back from its ten bytes, and an uplink reply from its own, every field at every value. Everything
else is turned away: an image with a wrong check, the check 65,535, or a field out of range (R169, R176), and a reply of an
unknown kind, of another length than its kind's, with a wrong check, or with a ticket class above 3 (R77, R181). Bytes end in a
right check exactly if they are some bytes and the check of these. -/
def Obligations.ImageAndReplyRoundTrip : Prop :=
  (∀ c : ConfigImage, c.good → c.bytes.length = 10 ∧ parseImage c.bytes = some c)
    ∧ (∀ r : Reply, r.fits → parseReply r.bytes = some r)
    ∧ (∀ bs : List Byte, checkOk bs = true ↔ ∃ body, bs = withCheck body)
    ∧ (∀ bs : List Byte, ((∃ c, parseImage bs = some c) ↔ bs.length = 10 ∧ checkOk bs = true ∧ fieldAt bs 8 2 ≠ 65535
        ∧ 1 ≤ fieldAt bs 0 1 ∧ fieldAt bs 0 1 ≤ 32 ∧ fieldAt bs 1 1 ≠ 0 ∧ 1 ≤ fieldAt bs 6 1 ∧ fieldAt bs 6 1 ≤ 4
        ∧ fieldAt bs 7 1 ≤ 7)
      ∧ ∀ c, parseImage bs = some c → c.number = fieldAt bs 0 1 ∧ c.carriers.toNat = fieldAt bs 1 1
          ∧ c.neighbours.toNat = fieldAt bs 2 4 ∧ c.maxHoldings = fieldAt bs 6 1 ∧ c.outputLevel = fieldAt bs 7 1)
    ∧ ∀ bs : List Byte, (∃ r, parseReply bs = some r) ↔ checkOk bs = true
        ∧ (fieldAt bs 0 1 = 1 ∧ bs.length = 14 ∧ fieldAt bs 10 1 ≤ 3 ∨ fieldAt bs 0 1 = 2 ∧ bs.length = 7
          ∨ fieldAt bs 0 1 = 3 ∧ bs.length = 7)

/-- An inward record is read back from its own bytes: it is whole, and judged well formed, with every field; and a byte from its
UART frame, a start bit low, eight bits least significant first, and a stop bit high (R158). An outward record goes out as start
mark, kind, length, body and check, a STATUS and a REFUSAL with the body of R179 (the bits of its present
byte that no rule names are log 55); event n of R166 is bit n. -/
def Obligations.RecordRoundTrip : Prop :=
  (∀ r : Record, r.fits → wholeRecord r.bytes = true ∧ judgeRecord r.bytes = .ok r)
    ∧ (∀ b : Byte, uartByte (uartFrame b) = some b ∧ (uartFrame b).length = 10 ∧ (uartFrame b).head? = some false
        ∧ (uartFrame b).getLast? = some true ∧ ∀ i < 8, (uartFrame b)[i + 1]? = some (b.getLsbD i))
    ∧ (∀ r : StatusReport, r.fits → carriesStatus r r.body ∧ carriesRecord 128 r.body (SendingRecord.status r).bytes)
    ∧ (∀ r : RefusalRecord, r.fits → carriesRefusal r r.body ∧ carriesRecord 129 r.body (SendingRecord.refusal r).bytes)
    ∧ ∀ (n : Nat) (e : Event), eventsInOrder[n]? = some e → e.bit = 1 <<< n

/-- A house line message is read back from its own bytes, common part and content. On the line each byte is a driven frame bit and
its eight bits, most significant first, 0 driven and 1 released; and of two runs of bytes the one with the lower byte where they
first differ keeps the line (R177). A message is taken exactly if its check is right, its sender lies in 1 to 32, phase and timing
state in their ranges, its kind is one of the four, and its fields and its length are those of its kind (R122, R178, R183). -/
def Obligations.MessageRoundTrip : Prop :=
  (∀ (m : Sender) (c : MessageContent), m.wf = true → contentFits c → parseMessage (messageBytes m c) = some (m, c))
    ∧ (∀ (m : Sender) (c : MessageContent), (lineBits (messageBytes m c)).length = messageBits m c)
    ∧ (∀ b : Byte, (lineFrame b).head? = some .driven ∧ (lineFrame b).length = 9
        ∧ ∀ i < 8, (lineFrame b)[i + 1]? = some (if b.getLsbD (7 - i) then .released else .driven))
    ∧ (∀ (same as bs : List Byte) (a b : Byte), a.toNat < b.toNat →
        keepsLine (lineBits (same ++ a :: as)) (lineBits (same ++ b :: bs)) = true
          ∧ keepsLine (lineBits (same ++ b :: bs)) (lineBits (same ++ a :: as)) = false)
    ∧ ∀ bs : List Byte, (∃ m, parseMessage bs = some m) ↔ checkOk bs = true
        ∧ 1 ≤ fieldAt bs 1 1 ∧ fieldAt bs 1 1 ≤ 32 ∧ fieldAt bs 6 2 ≤ 19999 ∧ fieldAt bs 8 1 ≤ 3
        ∧ (fieldAt bs 0 1 = 1 ∧ bs.length = 17 ∧ fieldAt bs 9 1 ≤ 63 ∧ 1 ≤ fieldAt bs 14 1 ∧ fieldAt bs 14 1 ≤ 32
          ∨ fieldAt bs 0 1 = 2 ∧ bs.length = 13 ∧ fieldAt bs 9 1 ≤ 63 ∧ 1 ≤ fieldAt bs 10 1 ∧ fieldAt bs 10 1 ≤ 2
          ∨ fieldAt bs 0 1 = 3 ∧ bs.length = 16 ∧ fieldAt bs 9 1 ≤ 63
          ∨ fieldAt bs 0 1 = 4 ∧ fieldAt bs 13 1 ≤ 4 ∧ fieldAt bs 14 1 ≤ 4 ∧ fieldAt bs 15 1 ≤ 1
            ∧ bs.length = 18 + 5 * fieldAt bs 14 1 + 5 * fieldAt bs 15 1
            ∧ ∀ i < fieldAt bs 14 1 + fieldAt bs 15 1, fieldAt bs (16 + 5 * i) 1 ≤ 63)

/-! ## The frame boundary (06, 04) -/

/-- FRAME_BOUNDARY: the frame number goes up by 1, the next frame takes its length from the trim, and a frame whose number is a
multiple of 50 begins with a second tick, at which the second count goes up by 1. That what the timer ran over is carried into the
next frame is the model's reading (log 9). -/
def Obligations.FrameBoundaryBeginsTheNextFrame : Prop :=
  ∀ (dt : Nat) (r : Bool) (s u : State), u = advance dt s → u.timing.atBoundary = true →
    ∃ t, exec (.frameBoundary dt r) s = .next t
      ∧ t.timing.frameNumber = u.timing.frameNumber + 1
      ∧ t.timing.frameElapsed = u.timing.frameElapsed - u.timing.frameLength
      ∧ t.timing.frameLength = (1000000 - u.timing.trim).toNat
      ∧ t.timing.trim = u.timing.trim ∧ t.timing.state = u.timing.state ∧ t.timing.followed = u.timing.followed
      ∧ t.timing.gate = u.timing.gate ∧ t.timing.lockCount = u.timing.lockCount
      ∧ t.roster.secondCount =
          (if (u.timing.frameNumber + 1).toNat % 50 = 0 then u.roster.secondCount + 1 else u.roster.secondCount)
      ∧ t.peers = u.peers ∧ t.show_ = u.show_ ∧ t.loader.station = u.loader.station ∧ t.loader.config = u.loader.config

/-- Outside JOINED a boundary composes nothing and moves neither cues nor clips nor positions; a silent frame discards the plan
and takes nothing from any source (R64, R80, R172). -/
def Obligations.NoCompositionOutsideJoinedOrInASilentFrame : Prop :=
  ∀ (dt : Nat) (r : Bool) (s u : State), u = advance dt s → u.timing.atBoundary = true →
    (u.joined = false → ∃ t, exec (.frameBoundary dt r) s = .next t ∧ t.plan = u.plan ∧ t.cues = u.cues ∧ t.clips = u.clips
      ∧ t.pm = u.pm ∧ t.line = u.line ∧ t.radio = u.radio ∧ t.roster.acks = u.roster.acks
      ∧ t.roster.entries = u.roster.entries)
    ∧ (u.joined = true → u.timing.change = .restep → ∃ t, exec (.frameBoundary dt r) s = .next t
      ∧ t.plan = { u.plan with bursts := [], items := [], clears := [] } ∧ t.cues = u.cues ∧ t.clips = u.clips
      ∧ t.radio = u.radio ∧ t.roster.acks = u.roster.acks ∧ t.roster.entries = u.roster.entries)

/-- A composition plans one burst of six cells for each held position, in slot order, all PLANNED; the burst with the oldest
stamp, and no other, is the beacon burst and opens with the BEACON. Cue queue and clip store take their progress steps; the other
places take, in place order, the items offered level by level that find room, and then FILL; acknowledgements placed leave their
queue, and blocks that find no place are counted. The port tunes to the carrier of the first burst, unless it still serves a slot
(R64, R75). With the releases of demand 0 taken first no burst is planned (R63 to R71, R79).
The rest says what the clip store's progress step does (R52 to R55): retention, passing, giving up; an engine's start, a current
clip being cut; and its supply, the block the film has reached within 2, ahead or behind; starting and supply take the engines 0 to
3 in order. An engine's next clip is the earliest of its track's LOADING, READY and LATE clips, later than a current one (R45); that
a clip behind a current one is chosen once that has gone is log 35. -/
def Obligations.CompositionPlansOneBurstPerHolding : Prop :=
  (∀ (dt : Nat) (r : Bool) (s u : State) (f : FrameNo) (cues : CueQueue) (clip : ClipProgress) (placed : List (List Cell)),
    u = advance dt s → u.timing.atBoundary = true → u.joined = true → u.timing.change ≠ .restep →
    f = u.timing.frameNumber + 1 → cues = u.cues.progress u.show_.state u.show_.clock f → clip = u.clips.progress u.show_ →
    placed = itemsPlaced (6 * u.pm.holdings.length - 1) (itemsOffered u.show_ f clip.audio u.roster.acks cues) →
    (r = false ∨ u.pm.demand ≠ 0 → ∃ t, exec (.frameBoundary dt r) s = .next t
      ∧ t.plan.bursts.map (·.position) = heldInSlotOrder u.pm.holdings
      ∧ (∀ b ∈ t.plan.bursts, b.cells.length = 6 ∧ b.progress = .planned
          ∧ b.beacon = (beaconPosition (u.timing.frameNumber + 1) u.pm.holdings == some b.position)
          ∧ (b.beacon = true → b.cells.head? = some
              (.beacon u.cfg.number u.show_.state u.show_.session u.show_.clock (heldInSlotOrder u.pm.holdings)
                ((u.timing.frameNumber + 1).setWidth 16))))
      ∧ (u.pm.holdings = [] ∨ u.radio.activity = .sending ∨ u.radio.activity = .gap ∨ u.radio.activity = .gapDone →
          t.radio = u.radio)
      ∧ (∀ p, (heldInSlotOrder u.pm.holdings).head? = some p → u.radio.activity = .idle ∨ u.radio.activity = .skipped →
          t.radio = if u.radio.tuned = some p.carrier then u.radio
            else { u.radio with
              tuned := some p.carrier
              lockedSince := if u.radio.lockIndicator then some u.timing.localTime else none })
      ∧ t.cues = cues.built f ∧ t.clips = clip.store ∧ (clip.late = true → t.link.has .lateClip = true)
      ∧ ((u.pm.holdings.map (·.position)).Nodup →
          t.plan.bursts.flatMap (fun b => if b.beacon then b.cells.tail else b.cells)
              = placed.flatten ++ List.replicate (6 * u.pm.holdings.length - 1 - placed.flatten.length) .fill
            ∧ t.roster.acks = u.roster.acks.drop (6 * (placed.flatten.filter Cell.isAck).length)
            ∧ t.plan.underrun
                = bumpBy (if u.pm.holdings = [] then clip.audio.length else 0) u.plan.underrun))
    ∧ (r = true → u.pm.demand = 0 → u.pm.stepsTaken = false → ∃ t, exec (.frameBoundary dt r) s = .next t
      ∧ t.plan.bursts = [] ∧ t.pm.holdings = []))
  ∧ (∀ (f : FrameNo) (held : List Stamped),
    (heldInSlotOrder held).Perm (held.map (·.position)) ∧ (heldInSlotOrder held).Pairwise (fun p q => p.slot ≤ q.slot)
    ∧ (beaconPosition f held = none ↔ held = [])
    ∧ ∀ p, beaconPosition f held = some p →
        ∃ h ∈ held, h.position = p ∧ ∀ k ∈ held, (f - k.stamp).toNat ≤ (f - h.stamp).toNat)
  ∧ (∀ (show_ : ShowControl) (s : ClipStore),
    (show_.state ≠ .running → show_.state ≠ .coasting →
      s.progress show_ = { store := s.retain show_.clock, audio := [], late := false })
    ∧ (show_.state = .running ∨ show_.state = .coasting → ∀ started supplied,
      started = (((s.retain show_.clock).passing show_.clock).givingUp show_.clock).starting show_ show_.clock →
      supplied = started.1.supply show_.clock →
      s.progress show_ = { store := supplied.1.rechoose show_, audio := supplied.2, late := started.2 }))
  ∧ (∀ (t : Nat) (s : ClipStore),
    s.retain t = { s with
        clips := s.clips.filter (fun c => !(c.state == .spent && c.start + c.length * 20 + 30000 < t)) }
    ∧ s.passing t = { s with
        clips := s.clips.map (fun c =>
          if c.state ≠ .playing ∧ c.state ≠ .spent ∧ c.start + c.length * 20 ≤ t then { c with state := .spent } else c)
        skipped := bumpBy (s.clips.filter (fun c =>
          c.state != .playing && c.state != .spent && c.start + c.length * 20 ≤ t && !c.everPlayed)).length s.skipped }
    ∧ ((∀ c ∈ s.clips, c.state = .late → c.start ≤ t) →
        s.givingUp t = { s with
          clips := s.clips.map (fun c =>
            if c.state = .late ∧ c.length < (t - c.start) / 20 + 10 then { c with state := .spent } else c)
          skipped := bumpBy (s.clips.filter (fun c => c.state == .late && c.length < (t - c.start) / 20 + 10)).length
            s.skipped }))
  ∧ (∀ (show_ : ShowControl) (t i n : Nat) (again : Bool) (s cut : ClipStore) (c : Clip),
    cut = (match (s.engines.get i).current with
      | some cur => { (s.setState cur.clip .spent).setCurrent i none with overlap := bump s.overlap }
      | none => s) →
    (s.chooseNext show_ (show_.binding.get i) (s.engines.get i) = none → s.startEngine show_ t i again (n + 1) = (s, false))
    ∧ (s.chooseNext show_ (show_.binding.get i) (s.engines.get i) = some c →
      (t < c.start → s.startEngine show_ t i again (n + 1) = (s, false))
      ∧ (c.start ≤ t → c.state = .ready → s.startEngine show_ t i again (n + 1)
          = ((cut.update c.id (fun c => { c with state := .playing, everPlayed := true })).setCurrent i
              (some { clip := c.id, index := 0 })).startEngine show_ t i true n)
      ∧ (c.start ≤ t → c.state = .loading → s.startEngine show_ t i again (n + 1)
          = (((cut.setState c.id .late).startEngine show_ t i true n).1, true))
      ∧ (c.start ≤ t → c.state = .late → s.startEngine show_ t i false (n + 1) = cut.startEngine show_ t i true n
          ∧ s.startEngine show_ t i true (n + 1) = (s, false))))
  ∧ (∀ (t i : Nat) (s ended : ClipStore) (cur : Current) (c : Clip) (advanced : Nat → ClipStore → ClipStore),
    (s.engines.get i).current = some cur → s.find cur.clip = some c → c.start ≤ t →
    ended = (s.setState c.id .spent).setCurrent i none →
    advanced = (fun n s => if n < c.length then s.setCurrent i (some { clip := c.id, index := n })
      else (s.setState c.id .spent).setCurrent i none) →
    (cur.index ≤ (t - c.start) / 20 + 2 → (t - c.start) / 20 ≤ cur.index + 2 →
      s.supplyEngine t i = (advanced (cur.index + 1) s, [{ track := c.track, block := s.block c cur.index }]))
    ∧ (cur.index + 2 < (t - c.start) / 20 → (t - c.start) / 20 < c.length →
      s.supplyEngine t i = (advanced ((t - c.start) / 20 + 1) { s with slip := bump s.slip },
        [{ track := c.track, block := s.block c ((t - c.start) / 20) }]))
    ∧ (cur.index + 2 < (t - c.start) / 20 → c.length ≤ (t - c.start) / 20 →
      s.supplyEngine t i = ({ ended with slip := bump s.slip }, []))
    ∧ ((t - c.start) / 20 + 2 < cur.index → s.supplyEngine t i = ({ s with slip := bump s.slip }, [])))
  ∧ (∀ (t i : Nat) (s : ClipStore), (s.engines.get i).current = none → s.supplyEngine t i = (s, []))
  ∧ (∀ (show_ : ShowControl) (t : Nat) (s : ClipStore) (start : Nat → ClipStore → ClipStore × Bool)
      (supply : Nat → ClipStore → ClipStore × List AudioOffer),
    start = (fun i s => s.startEngine show_ t i false (s.clips.length + 1)) → supply = (fun i s => s.supplyEngine t i) →
    (∀ a b c d, a = start 0 s → b = start 1 a.1 → c = start 2 b.1 → d = start 3 c.1 →
      s.starting show_ t = (d.1, a.2 || b.2 || c.2 || d.2))
    ∧ (∀ a b c d, a = supply 0 s → b = supply 1 a.1 → c = supply 2 b.1 → d = supply 3 c.1 →
      s.supply t = (d.1, a.2 ++ b.2 ++ c.2 ++ d.2)))
  ∧ (∀ (show_ : ShowControl) (s : ClipStore) (bound : Option Nat) (e : Engine) (eligible : Clip → Prop),
    (∀ c, eligible c ↔ c ∈ s.clips ∧ bound = some c.track ∧ (c.state = .loading ∨ c.state = .ready ∨ c.state = .late)
      ∧ ∀ cur k, e.current = some cur → s.find cur.clip = some k → k.start < c.start) →
    (bound = none ∨ show_.state = .noShow ∨ show_.state = .ended → s.chooseNext show_ bound e = none)
    ∧ (show_.state ≠ .noShow → show_.state ≠ .ended →
      (s.chooseNext show_ bound e = none ↔ ∀ c, ¬ eligible c)
        ∧ ∀ c, s.chooseNext show_ bound e = some c → eligible c ∧ ∀ d, eligible d → c.start ≤ d.start)
    ∧ ∀ i < 4, (s.rechoose show_).engines.get i
        = { s.engines.get i with next := (s.chooseNext show_ (show_.binding.get i) (s.engines.get i)).map (·.id) })

/-- CLAIM_WINDOW_END: the pending claim enters the holdings with its own stamp and ends the starvation, unless a peer has
precedence over the position: then it is evicted at once (R144, R149, R151). A claim attempt follows it, after the claim rest is
cleared where the second tick's step waits for it (R156; log 6). The rest says what a claim attempt does (R142, R143): while its
conditions hold, the first candidate of the scan becomes the pending claim and its CLAIM is handed over, and else nothing changes;
that a claim issued at a boundary bears the number of the frame it begins is log 5. A claim is due at a boundary exactly if the
frame that it begins is the claim's stamp + 13 or newer; before that, and outside JOINED, CLAIM_WINDOW_END moves nothing. -/
def Obligations.ClaimEntersTheHoldings : Prop :=
  (∀ (dt : Nat) (s u : State) (c : Stamped), u = advance dt s → u.joined = true → u.timing.inBoundary = true →
    u.pm.claim = some c → claimDue u.timing.boundaryFrame u.pm = true → 0 < u.pm.demand →
    (∀ h ∈ u.pm.holdings, h.position ≠ c.position) →
    (peerPrecedes u.cfg u.peers c = false → ∃ pm line,
      exec (.claimWindowEnd dt) s = .next (finish { u with pm := pm, line := line })
        ∧ pm.holdings = u.pm.holdings ++ [c] ∧ pm.claim ≠ some c ∧ pm.starvation = 0 ∧ pm.starved = false
        ∧ pm.demand = u.pm.demand ∧ pm.evictions = u.pm.evictions ∧ pm.abandoned = u.pm.abandoned)
    ∧ (peerPrecedes u.cfg u.peers c = false → ∀ (early : Bool) (v : State),
      early = (u.timing.atBoundary && !u.pm.stepsTaken) →
      v = { u with pm := { u.pm with
        holdings := u.pm.holdings ++ [c], claim := none, starvation := 0, starved := false
        holdDown := if u.pm.demand < u.pm.holdings.length + 1 then u.pm.holdDown else 0
        claimRest := u.pm.claimRest && !(if early then isSecondTick u.timing.boundaryFrame else u.pm.tickOwed)
        tickOwed := u.pm.tickOwed && early, stepsTaken := u.pm.stepsTaken || early } } →
      exec (.claimWindowEnd dt) s = .next (finish v.claimAttempt))
    ∧ (peerPrecedes u.cfg u.peers c = true → ∃ t, exec (.claimWindowEnd dt) s = .next t
        ∧ t.pm.holdings = u.pm.holdings ∧ t.pm.evictions = bump u.pm.evictions ∧ t.pm.abandoned = u.pm.abandoned
        ∧ (t.link.has .evicted = true) ∧ t.peers = u.peers ∧ t.cues = u.cues ∧ t.clips = u.clips))
  ∧ (∀ (f : FrameNo) (p : PositionManager),
    claimDue f p = true ↔ ∃ c, p.claim = some c ∧ (f - (c.stamp + 13)).toNat < 2147483648)
  ∧ (∀ (dt : Nat) (s u : State), u = advance dt s →
    u.joined = false ∨ u.timing.inBoundary = false ∨ claimDue u.timing.boundaryFrame u.pm = false →
    exec (.claimWindowEnd dt) s = .next (finish u))
  ∧ ∀ (s : State) (may : Prop) (candidate : Position → Prop) (licensed scanned : List Position),
    (may ↔ s.loader.station = .joined ∧ (s.timing.state = .pace ∨ s.timing.state = .locked) ∧ s.pm.claim = none
      ∧ s.pm.claimRest = false ∧ s.pm.holdings.length + 1 ≤ s.cfg.maxHoldings ∧ s.pm.holdings.length < s.pm.demand) →
    (∀ p, candidate p ↔ s.cfg.carriers.getLsbD p.carrier.val = true ∧ occupied s.cfg s.peers p = false
      ∧ ∀ h ∈ s.pm.holdings, h.position ≠ p ∧ (h.position.carrier ≠ p.carrier →
          2 ≤ (p.slot.val + 8 - h.position.slot.val) % 8 ∧ (p.slot.val + 8 - h.position.slot.val) % 8 ≤ 6)) →
    (∀ p, p ∈ licensed ↔ s.cfg.carriers.getLsbD p.carrier.val = true) →
    licensed.Pairwise (fun p q => p.carrier < q.carrier ∨ p.carrier = q.carrier ∧ p.slot < q.slot) →
    scanned = licensed.drop ((s.cfg.number - 1) % licensed.length) ++ licensed.take ((s.cfg.number - 1) % licensed.length) →
    (¬ may → s.claimAttempt = s) ∧ ((∀ p, ¬ candidate p) → s.claimAttempt = s)
    ∧ ∀ before p after, may → scanned = before ++ p :: after → candidate p → (∀ q ∈ before, ¬ candidate q) →
        s.claimAttempt = { s with
          pm := { s.pm with
            claim := some { position := p, stamp := s.timing.boundaryFrame }, holdDown := 0
            starvation := if s.pm.holdings = [] then s.pm.starvation else 0
            starved := s.pm.starved && s.pm.holdings.isEmpty }
          line := s.line.hand (.claim p s.timing.boundaryFrame) }

/-- HOLD_DOWN_RELEASE at a count of 5 releases the newest holding with reason DEMAND and starts the count again (R152); given at a
count of 4 before the FRAME_BOUNDARY of a second tick it takes that tick's steps with it (log 6); at any other count it moves
nothing. The newest stamp is the one that lies least far back from the current frame. STARVED at a count of 10 sets starved and
the STARVED event, and the fault line is held (R154, R175). FRAME_BOUNDARY in JOINED: an ANNOUNCE due in the frame is handed over
(R121), before the position manager's messages (log 36); at demand 0 nothing stays held, and one RELEASE for each holding, with
reason DEMAND, is handed over in ascending position index (R153); at a second tick the counts whose conditions hold go up by 1,
the claim rest is cleared and a claim attempt is made, which waits for a claim whose window ends there (R152, R154, R156; log 6);
any other boundary moves none of these. -/
def Obligations.SecondTickCountsRunOut : Prop :=
  (∀ (dt : Nat) (s u : State), u = advance dt s → u.timing.inBoundary = true →
    (∀ h, holdDownRuns u.joined u.pm = true → u.pm.holdDown = 5 →
      newestHolding u.timing.frameNumber u.pm.holdings = some h → ∃ pm,
      exec (.holdDownRelease dt) s
          = .next (finish { u with pm := pm, line := u.line.hand (.release h.position .demand) })
        ∧ pm.holdings = u.pm.holdings.filter (fun o => o.position != h.position) ∧ pm.holdDown = 0
        ∧ pm.demand = u.pm.demand ∧ pm.claim = u.pm.claim)
    ∧ (∀ h, holdDownRuns u.joined u.pm = true → u.pm.holdDown = 4 → u.timing.atBoundary = true → u.pm.stepsTaken = false →
      u.timing.boundaryFrame.toNat % 50 = 0 → newestHolding u.timing.frameNumber u.pm.holdings = some h →
      (u.pm.holdings.map (·.position)).Nodup →
      exec (.holdDownRelease dt) s = .next (finish { u with
        pm := { u.pm with
          holdings := u.pm.holdings.filter (fun o => o.position != h.position), holdDown := 0
          starvation := 0, starved := false, claimRest := false, stepsTaken := true }
        line := u.line.hand (.release h.position .demand) }))
    ∧ (holdDownRuns u.joined u.pm = false ∨ u.pm.holdDown ≠ 5 ∧ (u.pm.holdDown ≠ 4 ∨ u.timing.atBoundary = false
          ∨ u.pm.stepsTaken = true ∨ u.timing.boundaryFrame.toNat % 50 ≠ 0) →
      exec (.holdDownRelease dt) s = .next (finish u))
    ∧ (starvationRuns u.joined u.pm = true → u.pm.starvation = 10 → u.pm.starved = false → ∃ t,
      exec (.starved dt) s = .next t
        ∧ t = finish { u with pm := { u.pm with starved := true }, link := u.link.raise .starved }
        ∧ t.pm.starved = true ∧ t.link.has .starved = true ∧ t.loader.faultLine = true))
  ∧ (∀ (now : FrameNo) (held : List Stamped) (p : PositionManager) (joined : Bool),
    (newestHolding now held = none ↔ held = [])
    ∧ (∀ h, newestHolding now held = some h → h ∈ held ∧ ∀ k ∈ held, (now - h.stamp).toNat ≤ (now - k.stamp).toNat)
    ∧ (holdDownRuns joined p = true ↔ joined = true ∧ 0 < p.demand ∧ p.demand < p.holdings.length ∧ p.claim = none)
    ∧ (starvationRuns joined p = true ↔ joined = true ∧ 0 < p.demand ∧ p.holdings = []))
  ∧ ∀ (dt : Nat) (r : Bool) (s u : State) (f : FrameNo) (line : HouseLine), u = advance dt s → u.timing.atBoundary = true →
    u.joined = true → u.pm.stepsTaken = false → f = u.timing.frameNumber + 1 →
    line = (if f.toNat % 50 = u.cfg.number - 1 then u.line.hand .announce else u.line) →
    ∃ t, exec (.frameBoundary dt r) s = .next t
      ∧ (u.pm.demand = 0 → t.pm.holdings = [] ∧ t.pm.claim = u.pm.claim ∧ ∀ rising : List Stamped, rising.Perm u.pm.holdings →
          rising.Pairwise (fun a b => a.position.carrier < b.position.carrier
            ∨ a.position.carrier = b.position.carrier ∧ a.position.slot < b.position.slot) →
          t.line = rising.foldl (fun l h => l.hand (.release h.position .demand)) line)
      ∧ (0 < u.pm.demand → f.toNat % 50 ≠ 0 → t.pm = { u.pm with tickOwed := false } ∧ t.line = line)
      ∧ (0 < u.pm.demand → f.toNat % 50 = 0 → claimDue f u.pm = true → t.pm = { u.pm with tickOwed := true } ∧ t.line = line)
      ∧ (0 < u.pm.demand → f.toNat % 50 = 0 → claimDue f u.pm = false → ∀ v, v = { u with
          timing := t.timing, line := line
          pm := { u.pm with
            holdDown :=
              if u.pm.demand < u.pm.holdings.length ∧ u.pm.claim = none then min 5 (u.pm.holdDown + 1) else u.pm.holdDown
            starvation := if u.pm.holdings = [] then min 10 (u.pm.starvation + 1) else u.pm.starvation
            claimRest := false, tickOwed := false } } →
          t.pm = v.claimAttempt.pm ∧ t.line = v.claimAttempt.line)

/-- ROSTER_EXPIRY: at an issued second tick every entry 60 or more counts behind is removed and one count report carries the
counts that are left; no acknowledgement is offered and no counter changes (R89, R91). What the report leads to is stated with the
demand (R141); that it comes after the position manager's own steps at that tick is log 44, and
what a reply given between FRAME_BOUNDARY and this command does is log 52. -/
def Obligations.OldRosterEntriesExpire : Prop :=
  ∀ (dt : Nat) (s u : State), u = advance dt s → u.timing.boundaryOpen = true → u.timing.frameNumber.toNat % 50 = 0 →
    (∃ e ∈ u.roster.entries, 60 ≤ (u.roster.secondCount - e.lastRenewed).toNat) →
    ∃ entries pm line,
      exec (.rosterExpiry dt) s
          = .next (finish { u with roster := { u.roster with entries := entries }, pm := pm, line := line })
        ∧ entries = u.roster.entries.filter (fun e => (u.roster.secondCount - e.lastRenewed).toNat < 60)
        ∧ { u with roster := { u.roster with entries := entries }, pm := pm, line := line }
            = State.countReport { u with roster := { u.roster with entries := entries } }
        ∧ pm.counts = Roster.counts { u.roster with entries := entries } ∧ pm.holdings = u.pm.holdings

/-- What comes due at a boundary in the peer table and the outbound queue. A record not heard for 150 frames goes (R134), the
timing unit reviews its choice (R136, R105 to R107), and a claim attempt follows where it comes to PACE or LOCKED (R143; log 23).
A claim whose window has run out passes into its record's holdings, which keep an older entry of the position and never exceed 4,
the newest stamp, of equals the one added last, giving way (R133, R128); then the precedence question is asked over the position,
and a holding over which a peer has precedence is evicted (R149, R151). A waiting OBJECT whose window has passed is removed and
counted (R117), one for each command (log 26). A frame number has come when it equals the boundary's or is older. -/
def Obligations.PeerTableAndObjectsComeDue : Prop :=
  ∀ (dt : Nat) (s u : State) (f : FrameNo) (come : FrameNo → Prop) (silent : PeerRecord → Prop), u = advance dt s →
    u.timing.inBoundary = true → f = u.timing.boundaryFrame → (∀ due, come due ↔ (f - due).toNat < 2147483648) →
    (∀ r, silent r ↔ 150 ≤ (f - r.lastHeard).toNat ∧ (f - r.lastHeard).toNat < 2147483648) →
    (∀ n, (∀ r, findPeer u.peers n = some r → ¬ silent r) → exec (.peerRecordExpiry dt n) s = .next (finish u))
    ∧ (∀ n r v, findPeer u.peers n = some r → silent r →
      v = { u with
        peers := u.peers.filter (fun r => r.number != n)
        timing := u.timing.review u.cfg.number (u.peers.filter (fun r => r.number != n)) (!u.pm.holdings.isEmpty) } →
      exec (.peerRecordExpiry dt n) s = .next (finish
        (if v.timing.state ≠ u.timing.state ∧ (v.timing.state = .pace ∨ v.timing.state = .locked) then v.claimAttempt else v)))
    ∧ (∀ n r c, findPeer u.peers n = some r → r.claim = some c → come c.windowEnd → ¬ silent r → ∃ t r',
      exec (.peerClaimPassed dt n) s = .next t ∧ findPeer t.peers n = some r' ∧ r'.claim = none
        ∧ (∀ m, m ≠ n → findPeer t.peers m = findPeer u.peers m)
        ∧ ((∃ h ∈ r.holdings, h.position = c.position) → r'.holdings = r.holdings)
        ∧ ((∀ h ∈ r.holdings, h.position ≠ c.position) → r.holdings.length < 4 →
            r'.holdings = r.holdings ++ [{ position := c.position, stamp := c.stamp }])
        ∧ ((∀ h ∈ r.holdings, h.position ≠ c.position) → r.holdings.length = 4 →
            ∃ before v after, r.holdings = before ++ v :: after
              ∧ r'.holdings = before ++ after ++ [{ position := c.position, stamp := c.stamp }]
              ∧ (∀ o ∈ before, (f + r.frameDiff - v.stamp).toNat ≤ (f + r.frameDiff - o.stamp).toNat)
              ∧ ∀ o ∈ after, (f + r.frameDiff - v.stamp).toNat < (f + r.frameDiff - o.stamp).toNat)
        ∧ t.timing = u.timing ∧ t.show_ = u.show_ ∧ t.cues = u.cues ∧ t.clips = u.clips
        ∧ ((∀ h ∈ u.pm.holdings, h.position = c.position → peerPrecedes u.cfg t.peers h = false) →
            t = finish { u with peers := t.peers })
        ∧ ((u.pm.holdings.map (·.position)).Nodup → ∀ h ∈ u.pm.holdings, h.position = c.position →
            peerPrecedes u.cfg t.peers h = true → ∀ kept v, kept = u.pm.holdings.filter (fun o => o.position != h.position) →
            v = State.cancelBurst h.position { u with
              peers := t.peers
              pm := { u.pm with
                holdings := kept, evictions := bump u.pm.evictions
                holdDown :=
                  if u.joined ∧ 0 < u.pm.demand ∧ u.pm.demand < kept.length ∧ u.pm.claim = none then u.pm.holdDown else 0
                starvation := if u.joined ∧ 0 < u.pm.demand ∧ kept = [] then u.pm.starvation else 0
                starved := u.pm.starved && u.joined && 0 < u.pm.demand && kept.isEmpty } } →
            t = finish (State.claimAttempt { v with
              line := if u.joined then u.line.hand (.release h.position .evicted) else u.line
              link := u.link.raise .evicted })))
    ∧ (∀ n, (∀ r c, findPeer u.peers n = some r → r.claim = some c → ¬ come c.windowEnd ∨ silent r) →
      exec (.peerClaimPassed dt n) s = .next (finish u))
    ∧ (∀ before w after p k g e, u.line.queue = before ++ w :: after → w.body = .object p k g e → come e →
      (∀ o ∈ before, ∀ p k g e, o.body = .object p k g e → ¬ come e) →
      exec (.objectWindowPassed dt) s = .next (finish
        { u with line := { u.line with queue := before ++ after, dropped := bump u.line.dropped } }))
    ∧ ((∀ o ∈ u.line.queue, ∀ p k g e, o.body = .object p k g e → ¬ come e) →
      exec (.objectWindowPassed dt) s = .next (finish u))

/-- LISTEN_END at the boundary that begins own frame 150: JOINED; the lowest-numbered eligible peer is followed in ACQUIRE and a
step decided whatever its offset, and without one the station paces, frame timing and trim kept, and makes a claim attempt (R173,
R104, R143). That a step decided before the boundary's own FRAME_BOUNDARY waits for the boundary after it is log 12. -/
def Obligations.ListenEndsInJoined : Prop :=
  ∀ (dt : Nat) (s u : State), u = advance dt s → u.loader.station = .listen → u.timing.inBoundary = true →
    150 ≤ u.timing.boundaryFrame.toNat → u.timing.change = .none → u.pm.holdings = [] →
    ∃ t, exec (.listenEnd dt) s = .next t ∧ t.loader.station = .joined ∧ t.loader.config = u.loader.config
      ∧ t.peers = u.peers ∧ t.show_ = u.show_ ∧ t.cues = u.cues ∧ t.clips = u.clips ∧ t.roster = u.roster
      ∧ t.timing.frameNumber = u.timing.frameNumber ∧ t.timing.frameElapsed = u.timing.frameElapsed
      ∧ t.timing.trim = u.timing.trim
      ∧ (∀ n, lowestEligible u.peers = some n →
          t.timing.state = .acquire ∧ t.timing.followed = some n
            ∧ t.timing.change = (if u.timing.atBoundary then .stepHeld else .step))
      ∧ (lowestEligible u.peers = none →
          t.timing.state = .pace ∧ t.timing.followed = none ∧ t.timing.change = .none)
      ∧ (lowestEligible u.peers = none → u.timing.followed = none → t = finish (State.claimAttempt { u with
          loader := { u.loader with station := .joined }, timing := { u.timing with state := .pace } }))

/-- ADOPTION takes frame number and phase from the followed station's record by the table of R109 and leaves that record with
offset 0 and frame difference 0 (R135); what the frame had run over is dropped (log 38). The gate is emptied, the lock count 0,
the trim kept, and the station goes on following it in ACQUIRE (R155, R136; log 37). At every adoption, step or restep, the stamps
of the holdings, the cues' frames (R41), the window ends of waiting OBJECTs (R117), and every record's last heard and window end
(R135) move by the adoption difference, each record's measurement is reduced by what was adopted, and a pending claim is abandoned
and counted (R155); at an adopted phase of 0 the boundary is issued and the cues then take their composition. An ANNOUNCE due in
the adopted frame is handed over (R121). A restep marks every record stale and queues an ANNOUNCE (R110). With no followed station
number and phase are kept: the model issues the boundary of the next frame (log 11). -/
def Obligations.AdoptionFollowsTheTable : Prop :=
  ∀ (dt : Nat) (r : Bool) (s u : State), u = advance dt s → u.timing.boundaryReached = true →
    u.timing.change.isAdoption = true →
    (∀ n p (d : FrameNo) (phase : Int) (held : List Stamped) (cues : CueQueue) (settles : Prop), u.timing.followed = some n →
      findPeer u.peers n = some p → -10000 ≤ p.offset → p.offset ≤ 9999 →
      d = (if 0 ≤ p.offset then p.frameDiff else p.frameDiff - 1) →
      phase = (if 0 ≤ p.offset then p.offset else 20000 + p.offset) →
      held = u.pm.holdings.map (fun h => { h with stamp := h.stamp + d }) →
      cues = { u.cues with entries := u.cues.entries.map (fun e =>
        { e with startedFrame := e.startedFrame.map (· + d), refreshDue := e.refreshDue.map (· + d) }) } →
      (settles ↔ u.timing.change = .step ∨ p.timing = .pace ∨ p.timing = .locked) →
      ∃ t p', exec (.adoption dt r) s = .next t
        ∧ (0 ≤ p.offset → t.timing.frameNumber = u.timing.frameNumber + 1 + p.frameDiff
            ∧ (t.timing.frameElapsed : Int) = 50 * p.offset)
        ∧ (p.offset < 0 → t.timing.frameNumber = u.timing.frameNumber + p.frameDiff
            ∧ (t.timing.frameElapsed : Int) = 50 * (20000 + p.offset))
        ∧ t.timing.trim = u.timing.trim ∧ t.timing.gate = none ∧ t.timing.lockCount = 0 ∧ t.timing.change = .none
        ∧ findPeer t.peers n = some p' ∧ p'.offset = 0 ∧ p'.frameDiff = 0 ∧ p'.holdings = p.holdings
        ∧ t.show_ = u.show_
        ∧ (p.timing = .pace ∨ p.timing = .locked → t.timing.state = .acquire ∧ t.timing.followed = some n)
        ∧ (u.timing.change = .step → p.offset ≠ 0 →
            t.pm.holdings = u.pm.holdings.map (fun h =>
                { h with stamp := h.stamp + (t.timing.frameNumber - (u.timing.frameNumber + 1)) })
              ∧ t.pm.claim = none ∧ (u.pm.claim ≠ none → t.pm.abandoned = bump u.pm.abandoned ∧ t.pm.claimRest = true)
              ∧ t.plan = u.plan ∧ t.clips = u.clips ∧ t.roster = u.roster)
        ∧ (u.timing.change = .restepSilent → p.offset ≠ 0 → u.joined = true → u.line.queue.length ≤ 4 →
            (∀ q ∈ t.peers, q.stale = true) ∧ ∃ w ∈ t.line.queue, w.body = .announce)
        ∧ t.timing.frameNumber = u.timing.frameNumber + 1 + d ∧ (t.timing.frameElapsed : Int) = 50 * phase
        ∧ (p.offset ≠ 0 → t.pm.holdings = held ∧ t.cues = cues ∧ t.plan = u.plan ∧ t.clips = u.clips ∧ t.roster = u.roster
            ∧ t.pm.demand = u.pm.demand)
        ∧ (p.offset = 0 →
            t.pm.holdings = (if u.joined = true ∧ u.pm.demand = 0 ∧ u.pm.stepsTaken = false then [] else held)
            ∧ t.cues = (if u.joined then (cues.progress u.show_.state u.show_.clock t.timing.frameNumber).built t.timing.frameNumber
                else cues))
        ∧ (settles → t.pm.claim = none)
        ∧ t.pm.abandoned = (if u.pm.claim = none then u.pm.abandoned else bump u.pm.abandoned)
        ∧ (u.pm.claim ≠ none → p.offset ≠ 0 → t.pm.claimRest = true)
        ∧ (settles → p.offset ≠ 0 → (starvationRuns u.joined u.pm = true → t.pm.starvation = u.pm.starvation)
            ∧ (u.pm.claim = none → t.pm.holdDown = u.pm.holdDown))
        ∧ t.line.queue.filter (fun w => w.body.class_ == 1)
            = (u.line.queue.filter (fun w => w.body.class_ == 1)).map (fun w => match w.body with
                | .object position stamp claimant windowEnd =>
                  { w with body := .object position stamp claimant (windowEnd + d) }
                | _ => w)
        ∧ (u.joined = true → p.offset ≠ 0 → u.line.queue.length ≤ 4 → t.timing.frameNumber.toNat % 50 = u.cfg.number - 1 →
            ∃ w ∈ t.line.queue, w.body = .announce)
        ∧ (∀ m, findPeer u.peers m = none → findPeer t.peers m = none)
        ∧ ∀ m q, findPeer u.peers m = some q → ∃ q', findPeer t.peers m = some q'
            ∧ q' = { q with
                lastHeard := q.lastHeard + d, claim := q.claim.map (fun c => { c with windowEnd := c.windowEnd + d })
                offset := q'.offset, frameDiff := q'.frameDiff, stale := q.stale || u.timing.change == .restepSilent }
            ∧ -10000 ≤ q'.offset ∧ q'.offset ≤ 9999
            ∧ ∃ turns : Int, (q'.frameDiff.toNat : Int) * 20000 + q'.offset
                = (q.frameDiff.toNat : Int) * 20000 + q.offset - ((d.toNat : Int) * 20000 + phase)
                  + turns * (4294967296 * 20000))
    ∧ (u.timing.followed = none → ∃ t, exec (.adoption dt r) s = .next t
        ∧ t.timing.frameNumber = u.timing.frameNumber + 1 ∧ t.timing.frameElapsed = 0 ∧ t.timing.trim = u.timing.trim
        ∧ ((∀ q ∈ u.peers, -10000 ≤ q.offset ∧ q.offset ≤ 9999) →
            t.peers = u.peers.map (fun q => { q with stale := q.stale || u.timing.change == .restepSilent }))
        ∧ t.pm.abandoned = (if u.pm.claim = none then u.pm.abandoned else bump u.pm.abandoned)
        ∧ t.cues = (if u.joined then (u.cues.progress u.show_.state u.show_.clock t.timing.frameNumber).built t.timing.frameNumber
            else u.cues))

/-! ## The radio port (04) -/

/-- BURST_START: a planned burst whose slot has come becomes SENDING if lock has stood for 300 µs, its bytes going out on the tuned
carrier at the configured level, else SKIPPED, counted and reported; BURST_SENT: the burst that is SENDING becomes SENT, its clears
leave the clear list, each start and refresh of which it was the last open burst is reported placed, and its reply gap begins
(R72, R73, R76); that the clears are reported first and the items in the plan's order is log 40. A burst's 209 bytes are its header,
its six cells in place order, each with kind, tag and fields, and its check (R180); the bits that no rule names are log 55. -/
def Obligations.BurstsAreSentOrSkipped : Prop :=
  (∀ (dt : Nat) (s u : State) (b : Burst), u = advance dt s →
    (u.plan.nextPlanned = some b → b.position.slot.val * 2500 ≤ u.timing.phase → u.radio.activity ≠ .sending →
      ((∃ l, u.radio.lockedSince = some l ∧ l + 300 ≤ u.timing.localTime) →
        exec (.burstStart dt) s = .next (finish
          { u with
            plan := u.plan.setProgress b.position .sending
            radio := { u.radio with
              activity := .sending
              onAir := some { carrier := u.radio.tuned, level := u.cfg.outputLevel
                              bytes := b.bytes u.cfg.number u.timing.frameNumber } } }))
      ∧ ((∀ l, u.radio.lockedSince = some l → u.timing.localTime < l + 300) →
        exec (.burstStart dt) s = .next (finish
          { u with
            plan := { u.plan.setProgress b.position .skipped with
              clears := u.plan.clears.filter (fun c => c.burst != b.position)
              items := u.plan.items.filter (fun i => !i.bursts.contains b.position) }
            radio := { u.radio with activity := .skipped, lockSkip := bump u.radio.lockSkip } })))
    ∧ (u.plan.sendingBurst = some b → ∃ t, exec (.burstSent dt) s = .next t
        ∧ t.radio = { u.radio with activity := .gap, onAir := none }
        ∧ t.plan.bursts = u.plan.bursts.map (fun o => if o.position == b.position then { o with progress := .sent } else o)
        ∧ (∀ c ∈ t.plan.clears, c.burst ≠ b.position) ∧ (∀ i ∈ t.plan.items, b.position ∉ i.open_)
        ∧ t.cues = (u.plan.items.filter (fun i => i.open_.contains b.position && i.open_.all (· == b.position))).foldl
            (fun q i => q.placed u.timing.frameNumber i)
            { u.cues with clears := u.cues.clears.filter (fun c =>
                !u.plan.clears.any (fun k => k.burst == b.position && k.serial == c.serial)) }
        ∧ t.clips = u.clips ∧ t.pm = u.pm ∧ t.roster = u.roster ∧ t.timing = u.timing))
  ∧ ∀ (number : Nat) (frame : FrameNo) (b : Burst), number < 256 → b.cells.length = 6 → (∀ c ∈ b.cells, c.fits) →
    carriesBurst number frame b.cells (b.bytes number frame)

/-- The report of a placed start or refresh (R34): a clear of the same cue leaves the list; a SHOWING entry is due again 25 frames
after the frame it was sent in, or at once if it changed since its cells were built; for an entry that is not SHOWING, or is gone,
a clear is owed with the region that the cells carried, an item that waited having left the list; a report from before a new show
or cleared signal does nothing (R40). A clear owed keeps an item of the same cue, else joins the list, whose first item gives way
at 32 (R22). The rest says what the cue queue's progress step does and what it offers (R27 to R33); that the three SHOWING of R29
are those before the entry that starts is log 15. A text is translated byte by byte through the table its track names, an entry of
0 dropping the byte (R18). -/
def Obligations.PlacedCuesAreReported : Prop :=
  (∀ (f : FrameNo) (i : PlacedItem) (q : CueQueue),
    (i.generation ≠ q.generation → q.placed f i = q)
    ∧ ∀ cleared, i.generation = q.generation →
        cleared = { q with clears := q.clears.filter (fun c => !(c.track == i.track && c.start == i.start)) } →
        (∀ e, q.find i.track i.start = some e → e.state = .showing →
          q.placed f i = { cleared with entries := q.entries.map (fun o => if o.track == i.track && o.start == i.start then
            { o with refreshDue := some (if o.changed then f else f + 25) } else o) })
        ∧ ((∀ e, q.find i.track i.start = some e → e.state ≠ .showing) →
          q.placed f i = cleared.oweClear i.track i.start i.region))
  ∧ (∀ (q : CueQueue) (track start region : Nat),
    ((∃ c ∈ q.clears, c.track = track ∧ c.start = start) → q.oweClear track start region = q)
    ∧ ((∀ c ∈ q.clears, ¬ (c.track = track ∧ c.start = start)) →
      q.oweClear track start region = { q with
        clears := (if q.clears.length < 32 then q.clears else q.clears.tail)
          ++ [{ track := track, start := start, region := region, serial := q.nextSerial }]
        nextSerial := q.nextSerial + 1 }))
  ∧ (∀ (state : ShowState) (t : Nat) (f : FrameNo) (q : CueQueue),
    (state ≠ .running → state ≠ .coasting → q.progress state t f
      = { q with entries := q.entries.filter (fun e => !(e.state == .spent && e.stop + 30000 < t)) })
    ∧ (state = .running ∨ state = .coasting → q.progress state t f
      = ((CueQueue.ending t
          { q with entries := q.entries.filter (fun e => !(e.state == .spent && e.stop + 30000 < t)) }).starting t f).lateness f)
    ∧ (q.ending t = { q.oweClears (q.entries.filter (fun e =>
            e.state == .showing && e.refreshDue.isSome && e.stop ≤ t)) with
          entries := q.entries.map (fun e =>
            if e.stop ≤ t then
              (match e.state with
                | .showing => { e with state := .spent, startedFrame := none, refreshDue := none, lateNoted := false }
                | .waiting => { e with state := .spent }
                | .spent => e)
            else e)
          skippedCue := bumpBy (q.entries.filter (fun e => e.state == .waiting && e.stop ≤ t && !e.everShown)).length
            q.skippedCue })
    ∧ (∀ started, started = (q.entries.filter (fun e => e.state == .waiting && e.start ≤ t)).foldl (CueQueue.startOne f) q →
      q.starting t f = started.oweClears (q.entries.filter (fun e =>
        e.state == .showing && e.refreshDue.isSome
          && !started.entries.any (fun o => o.track == e.track && o.start == e.start && o.state == .showing))))
    ∧ (∀ e shown, shown = (fun q : CueQueue => q.update e.track e.start (fun e =>
          { e with state := .showing, everShown := true, startedFrame := some f, refreshDue := none, lateNoted := false
                   changed := true })) →
      ((q.entries.filter (fun o => o.track == e.track && o.state == .showing)).length < 3 → q.startOne f e = shown q)
      ∧ (∀ v rest, q.entries.filter (fun o => o.track == e.track && o.state == .showing) = v :: rest → 2 ≤ rest.length →
        q.startOne f e = shown (q.update v.track v.start (fun o =>
          { o with state := .spent, startedFrame := none, refreshDue := none, lateNoted := false }))))
    ∧ (∀ late : Cue → Bool, late = (fun e => e.state == .showing && e.refreshDue.isNone && !e.lateNoted
          && e.startedFrame.any (fun g => 5 ≤ (f - g).toNat)) →
      q.lateness f = { q with
        lateCue := bumpBy (q.entries.filter late).length q.lateCue
        entries := q.entries.map (fun e => if late e then { e with lateNoted := true } else e) })
    ∧ q.starts = q.entries.filter (fun e => e.state == .showing && e.refreshDue.isNone)
    ∧ (∀ e, e ∈ q.refreshes f ↔ e ∈ q.entries ∧ e.state = .showing ∧ ∃ d, e.refreshDue = some d ∧ (d = f ∨ older d f = true))
    ∧ (q.refreshes f).Pairwise (fun a b => ∀ x y, a.refreshDue = some x → b.refreshDue = some y →
        (f - y).toNat ≤ (f - x).toNat)
    ∧ (∀ d, d = f ∨ older d f = true → (q.refreshes f).filter (fun e => e.refreshDue == some d)
        = q.entries.filter (fun e => e.state == .showing && e.refreshDue == some d))
    ∧ (q.built f).entries = q.entries.map (fun e =>
        if e ∈ q.starts ∨ e ∈ q.refreshes f then { e with changed := false } else e))
  ∧ (∀ (show_ : ShowControl) (refresh : Bool) (e : Cue) (codes : List Byte),
    codes = translate show_.tables (tableOfTrack show_.tracks e.track) e.text → codes.length ≤ 140 →
    (cueCells show_ refresh e).length = 1 + (codes.length + 27) / 28
      ∧ (cueCells show_ refresh e).head? = some
          (.captionHead refresh e.track e.start (e.stop - e.start) e.region e.italic e.speakerChange codes.length)
      ∧ (∀ n c, (cueCells show_ refresh e)[n + 1]? = some c →
          c = .captionText e.track e.start (n + 1) ((codes.drop (28 * n)).take 28)))
  ∧ (∀ (tables : List Host.Cell) (table : Nat),
    translate tables table [] = []
      ∧ ∀ b text, translate tables table (b :: text)
          = (if Memory.read tableDefault tables (table * 256 + b.toNat) = 0 then translate tables table text
            else Memory.read tableDefault tables (table * 256 + b.toNat) :: translate tables table text))
  ∧ ∀ (tracks : List Track) (k : Track), (tracks.map (·.number)).Nodup → k ∈ tracks → tableOfTrack tracks k.number = k.table

/-- SLOT_END in JOINED: the port needs the carrier of the next PLANNED burst, or else that of the held position with the lowest
slot; it tunes if that differs from the tuned one, lock-confirm starting afresh, and needs none when nothing is held (R74,
R75). LOCK_ASSERTED and LOCK_DROPPED move the lock-confirm state (R74), which before LISTEN and in CONFIG FAULT keeps its
cold-start value (R171; log 18). A reply that is not well-formed, or ends outside its
gap, is discarded and counted, and uses the gap (R77). An eviction cancels the PLANNED bursts in its position, whose clears and
items are then reported unsent; unless a burst is SENDING the port chooses its carrier afresh, as at the end of a slot (R75, R78). -/
def Obligations.RadioPortTunesFollowsLockAndCountsGarbledReplies : Prop :=
  (∀ (dt : Nat) (s u : State) (needed : Option (Fin 8)), u = advance dt s → u.joined = true →
      u.radio.activity ≠ .idle → u.radio.activity ≠ .sending →
      needed = (match u.plan.nextPlanned with
        | some b => some b.position.carrier
        | none => (firstBy (fun a b => a.position.slot < b.position.slot) u.pm.holdings).map (·.position.carrier)) →
      (needed = none ∨ needed = u.radio.tuned →
        exec (.slotEnd dt) s = .next (finish { u with radio := { u.radio with activity := .idle } }))
      ∧ (∀ c, needed = some c → u.radio.tuned ≠ some c →
        exec (.slotEnd dt) s = .next (finish { u with radio := { u.radio with
          activity := .idle, tuned := some c
          lockedSince := if u.radio.lockIndicator then some u.timing.localTime else none } })))
  ∧ (∀ (held : List Stamped) (h : Stamped), firstBy (fun a b => a.position.slot < b.position.slot) held = some h →
      h ∈ held ∧ ∀ k ∈ held, h.position.slot ≤ k.position.slot)
  ∧ (∀ (u v : State) (p : Position) (needed : Option (Fin 8)),
      v = { u with plan := { u.plan with
        bursts := u.plan.bursts.map (fun b => if b.position == p then { b with progress := .cancelled } else b)
        clears := u.plan.clears.filter (fun c => c.burst != p)
        items := u.plan.items.filter (fun i => !i.bursts.contains p) } } →
      needed = (match v.plan.nextPlanned with
        | some b => some b.position.carrier
        | none => (firstBy (fun a b => a.position.slot < b.position.slot) u.pm.holdings).map (·.position.carrier)) →
      ((∀ b ∈ u.plan.bursts, b.position = p → b.progress ≠ .planned) → u.cancelBurst p = u)
      ∧ ((∃ b ∈ u.plan.bursts, b.position = p ∧ b.progress = .planned) →
        (u.radio.activity = .sending ∨ u.joined = false ∨ needed = none ∨ needed = u.radio.tuned → u.cancelBurst p = v)
        ∧ (∀ c, u.radio.activity ≠ .sending → u.joined = true → needed = some c → u.radio.tuned ≠ some c →
          u.cancelBurst p = { v with radio := { u.radio with
            tuned := some c, lockedSince := if u.radio.lockIndicator then some u.timing.localTime else none } })))
  ∧ (∀ (plan : Composer) (b : Burst), (plan.nextPlanned = none ↔ ∀ o ∈ plan.bursts, o.progress ≠ .planned)
      ∧ (plan.nextPlanned = some b ↔ ∃ before after, plan.bursts = before ++ b :: after ∧ b.progress = .planned
          ∧ ∀ o ∈ before, o.progress ≠ .planned))
  ∧ ∀ (dt : Nat) (s u : State), u = advance dt s →
    (u.loader.station = .listen ∨ u.loader.station = .joined ∨ u.loader.station = .duplicateFault →
      exec (.lockAsserted dt) s = .next (finish { u with radio := { u.radio with
        lockIndicator := true, lockedSince := some (u.radio.lockedSince.getD u.timing.localTime) } }))
    ∧ (u.loader.station = .configRead ∨ u.loader.station = .configFault →
      exec (.lockAsserted dt) s = .next (finish { u with radio := { u.radio with lockIndicator := true } }))
    ∧ exec (.lockDropped dt) s = .next (finish { u with radio := { u.radio with lockIndicator := false, lockedSince := none } })
    ∧ (∀ reply inGap, u.radio.activity = .gap → parseReply reply = none ∨ inGap = false →
      exec (.garbledReply dt reply inGap) s = .next (finish { u with radio := { u.radio with
        activity := .gapDone, garbled := bump u.radio.garbled } }))

/-! ## The roster (05) -/

/-- The ticket check examines its five conditions in order, and the first that holds decides; a ticket of class 3 is not checked
against the session (R85). -/
def Obligations.TicketChecksInOrder : Prop :=
  ∀ (number : Nat) (c : ShowControl) (k : Ticket),
    (k.auditorium ≠ number → ticketRefusal number c k = some .wrongRoom)
    ∧ (k.auditorium = number → c.state = .noShow ∨ c.state = .ended → ticketRefusal number c k = some .noShow)
    ∧ (k.auditorium = number → c.state ≠ .noShow → c.state ≠ .ended → c.session ≠ some k.session → k.ticketClass ≤ 2 →
        ticketRefusal number c k = some .badSession)
    ∧ (k.auditorium = number → c.state ≠ .noShow → c.state ≠ .ended → c.session = some k.session ∨ 3 ≤ k.ticketClass →
        (∀ t ∈ c.tracks, t.number ≠ k.track) → ticketRefusal number c k = some .noTrack)
    ∧ (∀ t, k.auditorium = number → c.state ≠ .noShow → c.state ≠ .ended →
        c.session = some k.session ∨ 3 ≤ k.ticketClass → c.tracks.find? (fun t => t.number == k.track) = some t →
        ticketRefusal number c k = if k.ticketClass < t.requiredClass then some .classLow else none)

/-- JOIN in a reply gap. A JOIN that fails a check changes no entry and counts a refusal. One that passes renews the receiver's
own entry on its track, or makes a new entry while fewer than 48 are held, or is answered ROSTER FULL and counted; the
acknowledgement joins a queue of up to 16, or is lost and counted (R84 to R86, R92, R97). A listener count that changed is reported
to the position manager (R91). One with receiver id 0 uses the gap and does nothing else (R84, R77). -/
def Obligations.JoinsAreAnswered : Prop :=
  ∀ (dt : Nat) (s u : State) (id : BitVec 32) (k : Ticket) (answer : Roster → JoinResult → Roster), u = advance dt s →
    u.radio.activity = .gap →
    answer = (fun r result =>
      if r.acks.length < 16 then { r with acks := r.acks ++ [{ receiver := id, result := result }] }
      else { r with ackLost := bump r.ackLost }) →
    (id = 0 → exec (.join dt id k.auditorium k.session k.ticketClass k.track) s = .next (finish
      { u with radio := { u.radio with activity := .gapDone } }))
    ∧ (id ≠ 0 →
      (∀ result, ticketRefusal u.cfg.number u.show_ k = some result →
        exec (.join dt id k.auditorium k.session k.ticketClass k.track) s = .next (finish
          { u with
            radio := { u.radio with activity := .gapDone }
            roster := answer { u.roster with joinRefusals := bump u.roster.joinRefusals } result }))
      ∧ (ticketRefusal u.cfg.number u.show_ k = none → ∃ pm line roster,
        exec (.join dt id k.auditorium k.session k.ticketClass k.track) s = .next (finish
            { u with radio := { u.radio with activity := .gapDone }, roster := roster, pm := pm, line := line })
          ∧ pm.holdings = u.pm.holdings
          ∧ (roster.counts = u.roster.counts → pm = u.pm ∧ line = u.line)
          ∧ (roster.counts ≠ u.roster.counts → ∀ v, v = State.countReport { u with roster := roster } →
              pm = v.pm ∧ line = v.line)
          ∧ ((∃ e ∈ u.roster.entries, e.receiver = id) →
              roster = answer { u.roster with entries := u.roster.entries.map (fun e =>
                if e.receiver == id then { e with track := k.track, lastRenewed := u.roster.secondCount } else e) } .granted)
          ∧ ((∀ e ∈ u.roster.entries, e.receiver ≠ id) → u.roster.entries.length < 48 →
              roster = answer { u.roster with entries := u.roster.entries ++
                [{ receiver := id, track := k.track, lastRenewed := u.roster.secondCount }] } .granted)
          ∧ ((∀ e ∈ u.roster.entries, e.receiver ≠ id) → 48 ≤ u.roster.entries.length →
              roster = answer { u.roster with joinRefusals := bump u.roster.joinRefusals } .rosterFull)))

/-- R87; the acknowledgement joins the queue of R92, or is lost and counted when 16 wait. One with receiver id 0 uses the
gap and does nothing else (R84, R77). -/
def Obligations.RenewKeepsTheReceiversPlace : Prop :=
  ∀ (dt : Nat) (s u : State) (id : BitVec 32) (answer : Roster → JoinResult → Roster), u = advance dt s →
    u.radio.activity = .gap →
    answer = (fun r result =>
      if r.acks.length < 16 then { r with acks := r.acks ++ [{ receiver := id, result := result }] }
      else { r with ackLost := bump r.ackLost }) →
    (id = 0 → exec (.renew dt id) s = .next (finish { u with radio := { u.radio with activity := .gapDone } }))
    ∧ (id ≠ 0 →
      ((∃ e ∈ u.roster.entries, e.receiver = id) → ∃ roster,
        exec (.renew dt id) s = .next (finish { u with radio := { u.radio with activity := .gapDone }, roster := roster })
          ∧ roster = answer { u.roster with entries := u.roster.entries.map (fun e =>
              if e.receiver == id then { e with lastRenewed := u.roster.secondCount } else e) } .renewed
          ∧ roster.counts = u.roster.counts)
      ∧ ((∀ e ∈ u.roster.entries, e.receiver ≠ id) →
        exec (.renew dt id) s = .next (finish { u with
          radio := { u.radio with activity := .gapDone }
          roster := answer u.roster .unknownReceiver })))

/-- R88; each receiver id appears in at most one entry (R82). One with receiver id 0 uses the gap and does nothing else
(R84, R77). -/
def Obligations.LeaveGivesUpTheReceiversPlace : Prop :=
  ∀ (dt : Nat) (s u : State) (id : BitVec 32) (answer : Roster → JoinResult → Roster), u = advance dt s →
    u.radio.activity = .gap →
    answer = (fun r result =>
      if r.acks.length < 16 then { r with acks := r.acks ++ [{ receiver := id, result := result }] }
      else { r with ackLost := bump r.ackLost }) →
    (id = 0 → exec (.leave dt id) s = .next (finish { u with radio := { u.radio with activity := .gapDone } }))
    ∧ (id ≠ 0 →
      (∀ e, e ∈ u.roster.entries → e.receiver = id → (u.roster.entries.map (·.receiver)).Nodup →
        1 ≤ e.track → e.track ≤ 8 → ∃ pm line roster,
        exec (.leave dt id) s = .next (finish
            { u with radio := { u.radio with activity := .gapDone }, roster := roster, pm := pm, line := line })
          ∧ roster = answer { u.roster with entries := u.roster.entries.filter (fun e => e.receiver != id) } .left
          ∧ roster.counts.get e.track + 1 = u.roster.counts.get e.track
          ∧ (∀ n, n ≠ e.track → roster.counts.get n = u.roster.counts.get n)
          ∧ (∀ v, v = State.countReport { u with roster := roster } → pm = v.pm ∧ line = v.line)
          ∧ pm.holdings = u.pm.holdings)
      ∧ ((∀ e ∈ u.roster.entries, e.receiver ≠ id) →
        exec (.leave dt id) s = .next (finish { u with
          radio := { u.radio with activity := .gapDone }
          roster := answer u.roster .unknownReceiver })))

/-! ## The house line and the peer table (07, 08, 09) -/

/-- HOUSE_LINE_RECEIVE_START, START_MARK_HEARD and BAD_MESSAGE: the line is taken as received, busy from a start mark on, and quiet
again after a message that is discarded and counted, unless it is what is left of the station's own (R112, R122). -/
def Obligations.LineIsHeardAndBadMessagesCounted : Prop :=
  ∀ (dt : Nat) (s u : State), u = advance dt s →
    (u.loader.station = .listen ∨ u.loader.station = .joined ∨ u.loader.station = .duplicateFault →
      u.line.receiving = false →
      exec (.houseLineReceiveStart dt) s = .next (finish
        { u with line := { u.line with receiving := true, busy := false, quietMicros := 0 } }))
    ∧ (u.line.receiving = true → u.line.busy = false → u.line.sending = none →
      exec (.startMarkHeard dt) s = .next (finish { u with line := { u.line with
        busy := true, quietMicros := 0, heardFrame := u.timing.frameNumber, heardPhase := u.timing.phase } }))
    ∧ (∀ message brokeOff, u.line.receiving = true → u.line.busy = true → u.line.sending = none →
      brokeOff = true ∨ parseMessage message = none →
      exec (.badMessage dt message brokeOff) s = .next (finish { u with line := { u.line with
        busy := false, quietMicros := 0, ownConflict := false
        bad := if brokeOff && u.line.ownConflict then u.line.bad else bump u.line.bad } }))

/-- ANNOUNCE replaces its sender's neighbour set, holdings and pending claim wholly, clears the stale mark, and leaves every other
record alone; the common part takes timing state, measurement and last heard (R127, R129, R101). A position listed twice is kept
once, in its first place, under the older stamp (R128; of stamps 2^31 apart either: log 14; more than two are compared two at a
time: log 43), and a claim whose window has run out passes into the holdings at once (R129; log 32). The timing unit hears it, and
reviews its choice where the sender's record is new or shows another timing state or stale mark (R136; the order is log 16). The
station's own claim ends where a conflicting sender lists its position among the holdings or claims it with precedence, and else
stands (R147, R148); the station's holdings that the sender's record then shows and over which a peer has precedence are evicted
(R149, R151). Where a second tick's step 4 of R156 waits for the claim that ends, it follows (log 6; stated with the CLAIM). The
rest says what the measurement is (R101) and what the timing unit does: the gate and the trim (R102, R103), the lock (R106), the
choice in each timing state (R105 to R107) and the decision of a step or a restep (R108); that a decision at a boundary whose
FRAME_BOUNDARY is still to be taken is held for the boundary after it is log 12, and that one at the instant of a pending adoption
is not is log 42. -/
def Obligations.AnnounceReplacesTheRecord : Prop :=
  (∀ (dt : Nat) (s u : State) (m : Sender) (a : AnnounceFields) (heard : Timing) (conflict passed owed : Prop)
    (listed lost : List Stamped) (d : FrameNo),
    u = advance dt s → u.line.hearing = true → m.number ≠ u.cfg.number →
    d = (measure m u.line.heardFrame u.line.heardPhase).frameDiff → listed = dedupHoldings [] a.holdings →
    (passed ↔ ∃ c, a.claim = some c ∧ (u.timing.frameNumber - (c.stamp + 13 - d)).toNat < 2147483648) →
    (owed ↔ u.pm.tickOwed = true ∧ u.timing.boundaryOpen = true) →
    (conflict ↔ inNeighbours u.cfg.neighbours m.number = true ∨ inNeighbours a.neighbours u.cfg.number = true) →
    ∃ t r, exec (.announce dt m a) s = .next t ∧ findPeer t.peers m.number = some r
      ∧ r = { number := m.number, neighbours := a.neighbours, timing := m.timing
              offset := (measure m u.line.heardFrame u.line.heardPhase).offset, frameDiff := d
              lastHeard := u.line.heardFrame, stale := false, holdings := r.holdings, claim := r.claim }
      ∧ (¬ passed → r.holdings = listed ∧ r.claim = a.claim.map (fun c =>
          { position := c.position, stamp := c.stamp, windowEnd := c.stamp + 13 - d }))
      ∧ (passed → r.claim = none ∧ ∀ c, a.claim = some c → r.holdings = addHolding (u.timing.frameNumber + d) false c listed)
      ∧ (∀ n, n ≠ m.number → findPeer t.peers n = findPeer u.peers n)
      ∧ t.loader.station = u.loader.station ∧ t.loader.config = u.loader.config ∧ t.show_ = u.show_ ∧ t.cues = u.cues
      ∧ t.clips = u.clips ∧ t.roster = u.roster
      ∧ (heard = u.timing.hearFollowed u.cfg.number t.peers (!u.pm.holdings.isEmpty) m.number
            (measure m u.line.heardFrame u.line.heardPhase).offset m.frame →
          t.timing = if (findPeer u.peers m.number).map (fun r => (r.timing, r.stale)) = some (m.timing, false) then heard
            else heard.review u.cfg.number t.peers (!u.pm.holdings.isEmpty))
      ∧ (∀ own, u.pm.claim = some own →
          (conflict → (∃ h ∈ a.holdings, h.position = own.position)
              ∨ (¬ passed ∧ ∃ c, a.claim = some c ∧ c.position = own.position
                  ∧ precedes c.stamp m.number own.stamp u.cfg.number = true) →
            t.pm.abandoned = bump u.pm.abandoned
              ∧ (¬ owed → t.pm.claim = none ∧ t.pm.claimRest = true
                  ∧ ∀ w ∈ t.line.queue, w.body ≠ .claim own.position own.stamp))
          ∧ (¬ conflict ∨ (∀ h ∈ a.holdings, h.position ≠ own.position)
                ∧ (passed ∨ ∀ c, a.claim = some c → c.position = own.position →
                    precedes c.stamp m.number own.stamp u.cfg.number = false) →
            t.pm.claim = some own ∧ t.pm.abandoned = u.pm.abandoned ∧ t.pm.claimRest = u.pm.claimRest))
      ∧ ((u.pm.holdings.map (·.position)).Nodup →
          lost = u.pm.holdings.filter (fun h =>
            r.holdings.any (fun k => k.position == h.position) && peerPrecedes u.cfg t.peers h) →
          t.pm.holdings = u.pm.holdings.filter (fun h => !lost.contains h)
            ∧ (u.pm.evictions ≤ 65535 → t.pm.evictions = bumpBy lost.length u.pm.evictions)
            ∧ (lost ≠ [] → t.link.has .evicted = true)
            ∧ (lost = [] → t.radio = u.radio ∧ t.plan = u.plan)
            ∧ (∀ h v, lost = [h] → v = State.cancelBurst h.position { u with pm := { u.pm with holdings := t.pm.holdings } } →
                t.radio = v.radio ∧ t.plan = v.plan)
            ∧ ∀ h ∈ lost, (∀ b ∈ t.plan.bursts, b.position = h.position → b.progress ≠ .planned)
                ∧ (u.joined = true → u.line.queue.length + u.pm.holdings.length ≤ 5 →
                    ∃ w ∈ t.line.queue, w.body = .release h.position .evicted)))
  ∧ (∀ (m : Sender) (ownFrame : FrameNo) (ownPhase : Nat) (raw : Int), raw = (m.phase : Int) - (ownPhase : Int) →
    (10000 ≤ raw → measure m ownFrame ownPhase = { offset := raw - 20000, frameDiff := m.frame - ownFrame + 1 })
    ∧ (-10000 ≤ raw → raw ≤ 9999 → measure m ownFrame ownPhase = { offset := raw, frameDiff := m.frame - ownFrame })
    ∧ (raw < -10000 → measure m ownFrame ownPhase = { offset := raw + 20000, frameDiff := m.frame - ownFrame - 1 }))
  ∧ dedupHoldings [] [] = []
  ∧ (∀ (hs kept : List Stamped) (h : Stamped), kept = dedupHoldings [] hs →
    dedupHoldings [] (hs ++ [h]) = (if kept.any (fun k => k.position == h.position) then
        kept.map (fun k => if k.position == h.position then { k with stamp := olderStamp k.stamp h.stamp } else k)
      else kept ++ [h]))
  ∧ (∀ a b : FrameNo, (older a b = true → olderStamp a b = a) ∧ (older b a = true → olderStamp a b = b)
    ∧ (olderStamp a b = a ∨ olderStamp a b = b))
  ∧ (∀ (offset : Int) (frame : FrameNo) (t anchored : Timing),
    anchored = { t with gate := some { offset := offset, frame := frame } } →
    (t.gate = none → t.feedGate offset frame = anchored)
    ∧ (∀ g, t.gate = some g → frame ≠ g.frame + 50 → t.feedGate offset frame = { anchored with lockCount := 0 })
    ∧ (∀ g, t.gate = some g → frame = g.frame + 50 → t.feedGate offset frame = { anchored with
        trim := max (-200) (min 200 (offset - g.offset + t.trim + Int.tdiv offset 4))
        lockCount := if -50 ≤ offset ∧ offset ≤ 50 then min 3 (t.lockCount + 1) else 0 }))
  ∧ (∀ (own n : Nat) (peers : List PeerRecord) (holds : Bool) (offset : Int) (frame : FrameNo) (t gated : Timing),
    gated = t.feedGate offset frame →
    (t.followed ≠ some n → t.hearFollowed own peers holds n offset frame = t)
    ∧ (t.followed = some n → t.state = .acquire → 3 ≤ gated.lockCount → -2000 ≤ offset → offset ≤ 2000 →
        t.hearFollowed own peers holds n offset frame = { gated with state := .locked }.chooseLocked own peers holds)
    ∧ (t.followed = some n → t.state = .acquire ∧ gated.lockCount < 3 ∨ t.state = .locked →
        (-2000 ≤ offset → offset ≤ 2000 → t.hearFollowed own peers holds n offset frame = gated)
        ∧ (offset < -2000 ∨ 2000 < offset → t.hearFollowed own peers holds n offset frame = gated.decide_ holds)))
  ∧ (∀ (own : Nat) (peers : List PeerRecord) (holds : Bool) (t : Timing) (taken : Nat → TimingState → Timing),
    taken = (fun n state => if t.followed = some n then { t with state := state }
      else { t with followed := some n, gate := none, lockCount := 0, state := state }) →
    (∀ n r, findPeer peers n = some r →
        (-2000 ≤ r.offset → r.offset ≤ 2000 → t.acquire_ peers holds n = taken n .acquire)
        ∧ (r.offset < -2000 ∨ 2000 < r.offset → t.acquire_ peers holds n = (taken n .acquire).decide_ holds))
    ∧ (t.followed ≠ none → t.enterPace = { t with followed := none, gate := none, lockCount := 0, state := .pace })
    ∧ (lowestEligibleBelow peers own = none → t.chooseLocked own peers holds = t.enterPace)
    ∧ (∀ n r, lowestEligibleBelow peers own = some n → findPeer peers n = some r →
        (t.followed = some n → t.chooseLocked own peers holds = t)
        ∧ (t.followed ≠ some n → -50 ≤ r.offset → r.offset ≤ 50 → t.chooseLocked own peers holds = taken n .locked)
        ∧ (t.followed ≠ some n → r.offset < -50 ∨ 50 < r.offset →
            t.chooseLocked own peers holds = t.acquire_ peers holds n)
        ∧ (t.state = .pace → -50 ≤ r.offset → r.offset ≤ 50 → t.review own peers holds = taken n .locked)
        ∧ (t.state = .pace → r.offset < -50 ∨ 50 < r.offset → t.review own peers holds = t.acquire_ peers holds n))
    ∧ (t.state = .pace → lowestEligibleBelow peers own = none → t.review own peers holds = t)
    ∧ (t.state = .listen → t.review own peers holds = t)
    ∧ (t.state = .locked → t.review own peers holds = t.chooseLocked own peers holds)
    ∧ (∀ f, t.state = .acquire → t.followed = some f →
        ((∀ r, findPeer peers f = some r → r.timing ≠ .pace ∧ r.timing ≠ .locked) →
          (lowestEligible peers = none → t.review own peers holds = t.enterPace)
          ∧ (∀ n, lowestEligible peers = some n → t.review own peers holds = t.acquire_ peers holds n))
        ∧ (∀ r, findPeer peers f = some r → r.timing = .pace ∨ r.timing = .locked →
          (∀ n, lowestEligible peers = some n → n < f → t.review own peers holds = t.acquire_ peers holds n)
          ∧ ((∀ n, lowestEligible peers = some n → f ≤ n) → t.review own peers holds = t)))
    ∧ (∀ n, lowestEligible peers = some n →
        (∃ r ∈ peers, r.number = n ∧ r.stale = false ∧ (r.timing = .pace ∨ r.timing = .locked))
          ∧ ∀ r ∈ peers, r.stale = false → r.timing = .pace ∨ r.timing = .locked → n ≤ r.number)
    ∧ (lowestEligible peers = none → ∀ r ∈ peers, r.stale = true ∨ (r.timing ≠ .pace ∧ r.timing ≠ .locked))
    ∧ lowestEligibleBelow peers own = lowestEligible (peers.filter (fun r => r.number < own)))
  ∧ (∀ (holds : Bool) (t : Timing),
    (t.change = .restepHeld ∨ t.change = .restep ∨ t.change = .restepSilent → t.decide_ holds = { t with state := .acquire })
    ∧ (t.change = .none ∨ t.change = .stepHeld ∨ t.change = .step → t.decide_ holds = { t with
        state := .acquire
        change := if holds then (if t.atBoundary then .restepHeld else .restep)
          else (if t.atBoundary then .stepHeld else .step) }))

/-- R130; what every message does to its sender's record (R127), and the timing unit's review of its choice where the record is
new or shows another timing state (R136). -/
def Obligations.ClaimSetsTheSendersPendingClaim : Prop :=
  ∀ (dt : Nat) (s u : State) (m : Sender) (p : Position) (stamp : FrameNo), u = advance dt s → u.line.hearing = true →
    m.number ≠ u.cfg.number → ∃ t r, exec (.claim dt m p stamp) s = .next t ∧ findPeer t.peers m.number = some r
      ∧ r.claim = some { position := p, stamp := stamp
                         windowEnd := stamp + 13 - (measure m u.line.heardFrame u.line.heardPhase).frameDiff }
      ∧ (∀ r₀, findPeer u.peers m.number = some r₀ → r.holdings = r₀.holdings ∧ r.neighbours = r₀.neighbours
          ∧ r.stale = r₀.stale)
      ∧ r.timing = m.timing ∧ r.offset = (measure m u.line.heardFrame u.line.heardPhase).offset
      ∧ r.frameDiff = (measure m u.line.heardFrame u.line.heardPhase).frameDiff ∧ r.lastHeard = u.line.heardFrame
      ∧ t.timing = (if (findPeer u.peers m.number).map (·.timing) = some m.timing then u.timing
          else u.timing.review u.cfg.number t.peers (!u.pm.holdings.isEmpty))
      ∧ (findPeer u.peers m.number = none → r.holdings = [] ∧ r.neighbours = 0 ∧ r.stale = false)
      ∧ (∀ n, n ≠ m.number → findPeer t.peers n = findPeer u.peers n)
      ∧ t.loader.station = u.loader.station ∧ t.loader.config = u.loader.config ∧ t.pm.holdings = u.pm.holdings
      ∧ t.show_ = u.show_ ∧ t.cues = u.cues ∧ t.clips = u.clips ∧ t.plan = u.plan ∧ t.radio = u.radio ∧ t.roster = u.roster

/-- OBJECT makes its sender a holder of the position under the holding stamp it carries, and takes the claimant's pending claim on
that position away, one on another position being kept (R131, R128), the sender's other holdings staying but for one that gives
way to a fifth. The station's own claim on it is abandoned where the OBJECT names the station or the objector conflicts, and any
other stands (R148); a holding of it over which a peer has precedence is evicted, and else stands (R149 to R151); the timing unit
reviews its choice where the sender's record is new or shows another timing state (R136), with the holdings as they stand before
an eviction, the order of the blocks being log 16. Where a second tick's step 4 of R156 waits for the claim that ends, it follows
(log 6; stated with the CLAIM). The rest says how a position enters a record's holdings, and what the peer table answers: whom a
position is occupied by, and whether a peer has precedence, and which (R137, R138). -/
def Obligations.ObjectRecordsTheHolder : Prop :=
  (∀ (dt : Nat) (s u : State) (m : Sender) (p : Position) (stamp : FrameNo) (claimant : Nat) (conflict : Prop)
    (lost : List Stamped) (owed : Prop), u = advance dt s →
    (owed ↔ u.pm.tickOwed = true ∧ u.timing.boundaryOpen = true) → u.line.hearing = true → m.number ≠ u.cfg.number →
    (conflict ↔ inNeighbours u.cfg.neighbours m.number = true
      ∨ ∃ r, findPeer u.peers m.number = some r ∧ inNeighbours r.neighbours u.cfg.number = true) →
    ∃ t r, exec (.object dt m p stamp claimant) s = .next t ∧ findPeer t.peers m.number = some r
      ∧ { position := p, stamp := stamp } ∈ r.holdings
      ∧ (∀ r₀, findPeer u.peers m.number = some r₀ → r.neighbours = r₀.neighbours ∧ r.stale = r₀.stale
          ∧ r.holdings = addHolding (u.timing.frameNumber + r.frameDiff) true { position := p, stamp := stamp } r₀.holdings)
      ∧ (findPeer u.peers m.number = none → r.holdings = [{ position := p, stamp := stamp }] ∧ r.neighbours = 0
          ∧ r.stale = false ∧ r.claim = none)
      ∧ r.timing = m.timing ∧ r.offset = (measure m u.line.heardFrame u.line.heardPhase).offset
      ∧ r.frameDiff = (measure m u.line.heardFrame u.line.heardPhase).frameDiff ∧ r.lastHeard = u.line.heardFrame
      ∧ (∀ q, findPeer u.peers claimant = some q → ∃ q', findPeer t.peers claimant = some q'
          ∧ (claimant ≠ m.number → q'.holdings = q.holdings)
          ∧ q'.claim = (if q.claim.any (fun c => c.position == p) then none else q.claim))
      ∧ (claimant ≠ m.number → findPeer u.peers claimant = none → findPeer t.peers claimant = none)
      ∧ (∀ n, n ≠ m.number → n ≠ claimant → findPeer t.peers n = findPeer u.peers n)
      ∧ t.loader.station = u.loader.station ∧ t.loader.config = u.loader.config ∧ t.show_ = u.show_ ∧ t.cues = u.cues
      ∧ t.clips = u.clips ∧ t.roster = u.roster
      ∧ t.timing = (if (findPeer u.peers m.number).map (·.timing) = some m.timing then u.timing
          else u.timing.review u.cfg.number t.peers (!u.pm.holdings.isEmpty))
      ∧ (∀ own, u.pm.claim = some own →
          (own.position = p → claimant = u.cfg.number ∨ conflict →
            t.pm.abandoned = bump u.pm.abandoned
              ∧ (¬ owed → t.pm.claim = none ∧ t.pm.claimRest = true
                  ∧ ∀ w ∈ t.line.queue, w.body ≠ .claim own.position own.stamp))
          ∧ (own.position ≠ p ∨ claimant ≠ u.cfg.number ∧ ¬ conflict →
            t.pm.claim = some own ∧ t.pm.abandoned = u.pm.abandoned ∧ t.pm.claimRest = u.pm.claimRest))
      ∧ ((u.pm.holdings.map (·.position)).Nodup →
          lost = u.pm.holdings.filter (fun h => h.position == p && peerPrecedes u.cfg t.peers h) →
          t.pm.holdings = u.pm.holdings.filter (fun h => !lost.contains h)
            ∧ (lost = [] → t.pm.evictions = u.pm.evictions ∧ t.radio = u.radio ∧ t.plan = u.plan)
            ∧ (∀ v, lost ≠ [] → v = State.cancelBurst p { u with pm := { u.pm with holdings := t.pm.holdings } } →
                t.radio = v.radio ∧ t.plan = v.plan)
            ∧ ∀ h ∈ lost, t.pm.evictions = bump u.pm.evictions ∧ t.link.has .evicted = true
                ∧ (∀ b ∈ t.plan.bursts, b.position = p → b.progress ≠ .planned)
                ∧ (u.joined = true → u.line.queue.length ≤ 4 → ∃ w ∈ t.line.queue, w.body = .release p .evicted)))
  ∧ (∀ (now : FrameNo) (restamp : Bool) (new : Stamped) (held : List Stamped),
    ((∃ h ∈ held, h.position = new.position) → addHolding now restamp new held
      = if restamp then held.map (fun h => if h.position == new.position then { h with stamp := new.stamp } else h) else held)
    ∧ ((∀ h ∈ held, h.position ≠ new.position) →
      (held.length < 4 → addHolding now restamp new held = held ++ [new])
      ∧ (4 ≤ held.length → ∃ before v after, held = before ++ v :: after
          ∧ addHolding now restamp new held = before ++ after ++ [new]
          ∧ (∀ o ∈ before, (now - v.stamp).toNat ≤ (now - o.stamp).toNat)
          ∧ ∀ o ∈ after, (now - v.stamp).toNat < (now - o.stamp).toNat)))
  ∧ (∀ (cfg : ConfigImage) (peers : List PeerRecord) (p : Position) (n : Nat),
    (n ∈ (occupants cfg peers p).holders ↔
        ∃ r ∈ peers, r.number = n ∧ conflicts cfg r = true ∧ ∃ h ∈ r.holdings, h.position = p)
    ∧ (n ∈ (occupants cfg peers p).claimants ↔
        ∃ r ∈ peers, r.number = n ∧ conflicts cfg r = true ∧ ∃ c, r.claim = some c ∧ c.position = p)
    ∧ (occupied cfg peers p = true ↔ (occupants cfg peers p).holders ≠ [] ∨ (occupants cfg peers p).claimants ≠ []))
  ∧ (∀ (cfg : ConfigImage) (peers : List PeerRecord) (h : Stamped),
    (peerPrecedes cfg peers h = true ↔ ∃ r ∈ peers, conflicts cfg r = true ∧ r.stale = false
        ∧ ∃ k ∈ r.holdings, k.position = h.position ∧ precedes k.stamp r.number h.stamp cfg.number = true)
    ∧ (precedenceOver cfg peers h = none ↔ peerPrecedes cfg peers h = false)
    ∧ ∀ n, precedenceOver cfg peers h = some n → ∃ r ∈ peers, r.number = n ∧ conflicts cfg r = true ∧ r.stale = false
        ∧ ∃ k ∈ r.holdings, k.position = h.position ∧ precedes k.stamp r.number h.stamp cfg.number = true)

/-- R132; what every message does to its sender's record (R127), and the timing unit's review of its choice where the record is
new or shows another timing state (R136). Where it is neither, nothing but the record and the line changes. -/
def Obligations.ReleaseRemovesTheHolding : Prop :=
  ∀ (dt : Nat) (s u : State) (m : Sender) (p : Position) (reason : ReleaseReason), u = advance dt s →
    u.line.hearing = true → m.number ≠ u.cfg.number →
    ∃ t r, exec (.release dt m p reason) s = .next t ∧ findPeer t.peers m.number = some r
      ∧ (∀ r₀, findPeer u.peers m.number = some r₀ →
          r.holdings = r₀.holdings.filter (fun h => h.position != p)
            ∧ ((∀ h ∈ r₀.holdings, h.position ≠ p) → r.holdings = r₀.holdings) ∧ r.claim = r₀.claim
            ∧ r.neighbours = r₀.neighbours ∧ r.stale = r₀.stale)
      ∧ r.timing = m.timing ∧ r.offset = (measure m u.line.heardFrame u.line.heardPhase).offset
      ∧ r.frameDiff = (measure m u.line.heardFrame u.line.heardPhase).frameDiff ∧ r.lastHeard = u.line.heardFrame
      ∧ t.timing = (if (findPeer u.peers m.number).map (·.timing) = some m.timing then u.timing
          else u.timing.review u.cfg.number t.peers (!u.pm.holdings.isEmpty))
      ∧ ((findPeer u.peers m.number).map (·.timing) = some m.timing → t = finish { u with
          peers := t.peers, line := { u.line with busy := false, quietMicros := 0, ownConflict := false } })
      ∧ (findPeer u.peers m.number = none → r.holdings = [] ∧ r.claim = none ∧ r.neighbours = 0 ∧ r.stale = false)
      ∧ (∀ n, n ≠ m.number → findPeer t.peers n = findPeer u.peers n)
      ∧ t.loader.station = u.loader.station ∧ t.loader.config = u.loader.config ∧ t.pm.holdings = u.pm.holdings
      ∧ t.show_ = u.show_ ∧ t.cues = u.cues ∧ t.clips = u.clips ∧ t.plan = u.plan ∧ t.radio = u.radio ∧ t.roster = u.roster

/-- A CLAIM of a conflicting peer on a position the station holds draws an OBJECT with the station's holding stamp, the claimant,
and the window end the peer table holds; a holding beats a claim whatever the stamps (R146). A CLAIM of another peer, on another
position, or outside JOINED draws none. One on the position of the station's own pending claim withdraws that claim where the peer
has precedence, and else leaves it (R147). The rest is about a claim that ends at the instant of a second tick whose step 4 waits
for it (R156): the model takes the message before step 3, and step 4 follows it: what the message leaves otherwise, then the
starvation count a tick on, the claim rest cleared, and a claim attempt (log 6). -/
def Obligations.ClaimOnAHoldingDrawsAnObject : Prop :=
  (∀ (dt : Nat) (s u : State) (m : Sender) (p : Position) (stamp : FrameNo) (conflict : Prop), u = advance dt s →
    u.line.hearing = true → m.number ≠ u.cfg.number →
    (conflict ↔ inNeighbours u.cfg.neighbours m.number = true
      ∨ ∃ r, findPeer u.peers m.number = some r ∧ inNeighbours r.neighbours u.cfg.number = true) →
    ∃ t, exec (.claim dt m p stamp) s = .next t ∧ t.pm.holdings = u.pm.holdings
      ∧ (∀ h, conflict → u.joined = true → u.pm.holdings.find? (fun o => o.position == p) = some h → u.line.queue.length ≤ 4 →
          ∃ w ∈ t.line.queue, w.conflicts = 0 ∧ w.body = .object p h.stamp m.number
            (stamp + 13 - (measure m u.line.heardFrame u.line.heardPhase).frameDiff))
      ∧ (¬ conflict ∨ u.joined = false ∨ (∀ o ∈ u.pm.holdings, o.position ≠ p) →
          t.line.queue.filter (fun w => w.body.class_ == 1) = u.line.queue.filter (fun w => w.body.class_ == 1)))
  ∧ (∀ (dt : Nat) (s u : State) (m : Sender) (own : Stamped) (p : Position) (stamp : FrameNo)
      (conflict owed : Prop),
    u = advance dt s → u.line.hearing = true → m.number ≠ u.cfg.number → u.pm.claim = some own →
    (conflict ↔ inNeighbours u.cfg.neighbours m.number = true
      ∨ ∃ r, findPeer u.peers m.number = some r ∧ inNeighbours r.neighbours u.cfg.number = true) →
    (owed ↔ u.pm.tickOwed = true ∧ u.timing.boundaryOpen = true) →
    ∃ t, exec (.claim dt m p stamp) s = .next t ∧ t.pm.holdings = u.pm.holdings
      ∧ (conflict → p = own.position → precedes stamp m.number own.stamp u.cfg.number = true →
          t.pm.abandoned = bump u.pm.abandoned
            ∧ (¬ owed → t.pm.claim = none ∧ t.pm.claimRest = true
                ∧ ∀ w ∈ t.line.queue, w.body ≠ .claim own.position own.stamp))
      ∧ (¬ conflict ∨ p ≠ own.position ∨ precedes stamp m.number own.stamp u.cfg.number = false →
          t.pm.claim = some own ∧ t.pm.abandoned = u.pm.abandoned ∧ t.pm.claimRest = u.pm.claimRest))
  ∧ ∀ (dt : Nat) (s u s₀ : State) (m : Sender) (c : Instr), u = advance dt s →
    (∃ a, c = .announce dt m a) ∨ (∃ p f, c = .claim dt m p f) ∨ (∃ p f k, c = .object dt m p f k) →
    u.line.hearing = true → m.number ≠ u.cfg.number → u.pm.tickOwed = true → u.timing.boundaryOpen = true →
    u.pm.claim ≠ none → s₀ = { s with pm := { s.pm with tickOwed := false } } →
    ∃ t t₀, exec c s = .next t ∧ exec c s₀ = .next t₀
      ∧ (t₀.pm.claim ≠ none → t = { t₀ with pm := { t₀.pm with tickOwed := true } })
      ∧ (t₀.pm.claim = none → ∀ v, v = State.claimAttempt { t₀ with pm := { t₀.pm with
          starvation := if u.joined ∧ 0 < t₀.pm.demand ∧ t₀.pm.holdings = [] then min 10 (t₀.pm.starvation + 1)
            else t₀.pm.starvation
          claimRest := false } } →
        t.pm = v.pm ∧ t.line = v.line ∧ t.peers = t₀.peers ∧ t.timing = t₀.timing ∧ t.plan = t₀.plan ∧ t.radio = t₀.radio
          ∧ t.link.events = t₀.link.events)

/-- A message with the station's own number stops the station: DUPLICATE FAULT from LISTEN and from JOINED, with the DUPLICATE
event, the fault line, nothing held or claimed and nothing waiting on the house line; the peer table does not take the message,
the timing unit, on leaving LISTEN, follows the lowest-numbered eligible peer in ACQUIRE and decides a step, or paces (R104; log 12),
and in DUPLICATE FAULT it changes nothing but the line (R123, R174, R120, R157). -/
def Obligations.OwnNumberHeardStopsTheStation : Prop :=
  ∀ (dt : Nat) (s u : State) (m : Sender) (c : Instr), u = advance dt s → u.line.hearing = true → m.number = u.cfg.number →
    ((∃ a, c = .announce dt m a) ∨ (∃ p f, c = .claim dt m p f) ∨ (∃ p f k, c = .object dt m p f k)
      ∨ (∃ p reason, c = .release dt m p reason)) →
    (u.loader.station = .listen ∨ u.loader.station = .joined → ∃ t, exec c s = .next t
      ∧ t.loader.station = .duplicateFault ∧ t.loader.faultLine = true ∧ t.link.has .duplicate = true
      ∧ t.peers = u.peers ∧ t.show_ = u.show_ ∧ t.cues = u.cues ∧ t.clips = u.clips ∧ t.roster = u.roster
      ∧ (u.loader.station = .joined → t.timing = u.timing)
      ∧ (u.loader.station = .listen → u.timing.followed = none →
          (∀ n, lowestEligible u.peers = some n → ∃ change,
            t.timing = { u.timing with
              followed := some n, gate := none, lockCount := 0, state := .acquire, change := change }
            ∧ (u.timing.change = .none → u.pm.holdings = [] →
                change = (if u.timing.atBoundary then .stepHeld else .step)))
          ∧ (lowestEligible u.peers = none → t.timing = { u.timing with state := .pace }))
      ∧ (u.loader.station = .joined → t.pm.holdings = [] ∧ t.pm.claim = none ∧ t.line.queue = [] ∧ t.line.sending = none
          ∧ t.pm.starved = false ∧ ∀ b ∈ t.plan.bursts, b.progress ≠ .planned ∧ b.progress ≠ .sending))
    ∧ (u.loader.station = .duplicateFault → exec c s = .next (finish { u with line := u.line.endMessage }))

/-- MESSAGE_START: when the quiet count reaches class base, station number and 32 bit times for each conflict, the first waiting
message becomes the message in transmission, its common part read then; an OBJECT takes the holding's stamp as it then stands,
or is removed if the position is no longer held; an ANNOUNCE is read whole then (R113, R114, R117, R118). -/
def Obligations.MessagesStartAfterTheirQuietInterval : Prop :=
  ∀ (dt : Nat) (s u : State) (w : Waiting) (rest : List Waiting) (start : MessageContent → State), u = advance dt s →
    u.joined = true → u.line.receiving = true → u.line.busy = false → u.line.sending = none →
    u.line.queue = w :: rest →
    (match w.body with
      | .object _ _ _ _ => 2
      | .release _ _ => 36
      | .claim _ _ => 70
      | .announce => 104) + u.cfg.number + 32 * w.conflicts ≤ u.line.quietMicros / 2 →
    start = (fun content => { u with line := { u.line with
      busy := true, quietMicros := 0, heardFrame := u.timing.frameNumber, heardPhase := u.timing.phase, queue := rest
      sending := some
        { waiting := w, content := content
          sender := { number := u.cfg.number, frame := u.timing.frameNumber, phase := u.timing.phase
                      timing := u.timing.state } } } }) →
    (∀ p f k e h, w.body = .object p f k e → u.pm.holdings.find? (fun h => h.position == p) = some h →
      exec (.messageStart dt) s = .next (finish (start (.object p h.stamp k))))
    ∧ (∀ p f k e, w.body = .object p f k e → (∀ h ∈ u.pm.holdings, h.position ≠ p) →
      exec (.messageStart dt) s = .next (finish { u with line := { u.line with queue := rest } }))
    ∧ (∀ p reason, w.body = .release p reason → exec (.messageStart dt) s = .next (finish (start (.release p reason))))
    ∧ (∀ p f, w.body = .claim p f → exec (.messageStart dt) s = .next (finish (start (.claim p f))))
    ∧ (w.body = .announce → exec (.messageStart dt) s = .next (finish (start (.announce
        { neighbours := withoutStation u.cfg.neighbours u.cfg.number, demand := u.pm.demand, holdings := u.pm.holdings
          claim := u.pm.claim }))))

/-- MESSAGE_COMPLETE: the message leaves the controller and the line is quiet. LINE_CONFLICT: the conflict is counted; the message
returns to the queue with its count raised, or is dropped and counted when that makes 4 (R119). The rest says how a message joins
the queue (R115, R116): an ANNOUNCE that meets a waiting one leaves the queue as it is, neither having content before its start
mark; one message lands in queue order among fewer than 6; of 6 the last gives way to a higher class, counted, and else the new
one is dropped and counted. Messages are handed over in JOINED alone (R120). -/
def Obligations.MessagesCompleteOrMeetConflicts : Prop :=
  (∀ (dt : Nat) (s u : State) (m : Sending), u = advance dt s → u.line.sending = some m →
    exec (.messageComplete dt) s = .next (finish { u with line := { u.line with
      sending := none, busy := false, quietMicros := 0, ownConflict := false } })
    ∧ (m.waiting.conflicts = 3 → exec (.lineConflict dt) s = .next (finish { u with line := { u.line with
        sending := none, ownConflict := true, lineConflict := bump u.line.lineConflict, dropped := bump u.line.dropped } }))
    ∧ (m.waiting.conflicts < 3 → u.line.queue.length < 6 →
        (m.waiting.body = .announce → ∀ w ∈ u.line.queue, w.body ≠ .announce) → ∃ queue,
        exec (.lineConflict dt) s = .next (finish { u with line := { u.line with
            sending := none, ownConflict := true, lineConflict := bump u.line.lineConflict, queue := queue } })
          ∧ queue.length = u.line.queue.length + 1
          ∧ { m.waiting with conflicts := m.waiting.conflicts + 1 } ∈ queue ∧ ∀ w ∈ u.line.queue, w ∈ queue)
    ∧ (m.waiting.conflicts < 3 → ∀ line, line = HouseLine.join { m.waiting with conflicts := m.waiting.conflicts + 1 }
          { u.line with sending := none, ownConflict := true, lineConflict := bump u.line.lineConflict } →
        exec (.lineConflict dt) s = .next (finish { u with line := line })))
  ∧ (∀ (l : HouseLine) (m : Waiting) (rank : WaitingBody → Nat) (before : Waiting → Waiting → Prop)
      (lands : List Waiting → List Waiting → Prop),
    rank = (fun body => match body with
      | .object _ _ _ _ => 1
      | .release _ _ => 2
      | .claim _ _ => 3
      | .announce => 4) →
    (∀ a b, before a b ↔ rank a.body < rank b.body ∨ rank a.body = rank b.body ∧ a.arrival < b.arrival) →
    (∀ q q', lands q q' ↔ ∃ front back, q = front ++ back ∧ q' = front ++ m :: back ∧ (∀ w ∈ front, before w m)
      ∧ ∀ w, back.head? = some w → ¬ before w m) →
    (m.body = .announce → (∃ w ∈ l.queue, w.body = .announce) → l.join m = l)
    ∧ ((m.body = .announce → ∀ w ∈ l.queue, w.body ≠ .announce) →
      (l.queue.length < 6 → ∃ q, l.join m = { l with queue := q } ∧ lands l.queue q)
      ∧ ∀ kept last, 6 ≤ l.queue.length → l.queue = kept ++ [last] →
          (rank last.body ≤ rank m.body → l.join m = { l with dropped := bump l.dropped })
          ∧ (rank m.body < rank last.body → ∃ q, l.join m = { l with queue := q, dropped := bump l.dropped } ∧ lands kept q)))
  ∧ ∀ (s : State) (body : WaitingBody) (line : HouseLine),
    line = HouseLine.join { body := body, conflicts := 0, arrival := s.line.nextArrival } s.line →
    s.line.hand body = { line with nextArrival := s.line.nextArrival + 1 }
      ∧ (s.loader.station = .joined → s.handOver body = { s with line := s.line.hand body })
      ∧ (s.loader.station ≠ .joined → s.handOver body = s)

/-! ## The show link (10) -/

/-- IDLE_WAIT_BYTE starts the wait again, IDLE_WAIT_END enters HUNT after 2 ms without a byte, and RECORD_START_MARK enters IN RECORD
(R159). RECORD_GAP and RECORD_BROKEN: a broken record is discarded and refused with BAD CHECK after more than 2 ms without a byte,
which the model holds possible once 2 ms and the time of the bytes gathered have passed since the start mark (log 21), or a framing
error, and with BAD LENGTH when its length is above 261, and the receiver hunts again (R158 to R160). -/
def Obligations.ReceiverFindsAndBreaksRecords : Prop :=
  (∀ (dt : Nat) (s u : State), u = advance dt s →
    (u.link.framing = .idleWait →
      exec (.idleWaitByte dt) s = .next (finish { u with link := { u.link with idleMicros := 0 } }))
    ∧ (u.link.framing = .idleWait → 2000 ≤ u.link.idleMicros →
      exec (.idleWaitEnd dt) s = .next (finish { u with link := { u.link with framing := .hunt } }))
    ∧ (u.link.framing = .idleWait → u.link.idleMicros < 2000 → exec (.idleWaitEnd dt) s = .next (finish u))
    ∧ (u.link.framing = .hunt →
      exec (.recordStartMark dt) s = .next (finish { u with link := { u.link with framing := .inRecord, idleMicros := 0 } })))
  ∧ ∀ (dt : Nat) (s u : State) (bs : List Byte) (refused : Reason → State), u = advance dt s → u.link.framing = .inRecord →
    refused = (fun reason => { u with
      link := ShowLink.handRefusal { kind := bs.head?, reason := reason, cue := none, clip := none }
        { u.link with framing := .hunt } }) →
    (gathering bs = .open_ → exec (.recordBroken dt bs true) s = .next (finish (refused .badCheck))
      ∧ (2000 + bs.length * 100000 / 9216 < u.link.idleMicros →
          exec (.recordGap dt bs) s = .next (finish (refused .badCheck))))
    ∧ (u.link.idleMicros ≤ 2000 + bs.length * 100000 / 9216 → exec (.recordGap dt bs) s = .next (finish u))
    ∧ (bs.length = 3 → 261 < fieldAt bs 1 2 → exec (.recordBroken dt bs false) s = .next (finish (refused .badLength)))

/-- RECORD_COMPLETE: a record that fails a check is refused with the reason of the first that fails, of check, kind and length for
its kind and count (R179), and takes no place; a well-formed one joins the receive queue, or at 8 occupied entries is discarded,
counted, and sets LINK OVERRUN (R160, R161). -/
def Obligations.CompletedRecordsAreJudged : Prop :=
  ∀ (dt : Nat) (s u : State) (bs : List Byte), u = advance dt s → u.link.framing = .inRecord → wholeRecord bs = true →
    (checkOk bs = false → judgeRecord bs = .error .badCheck)
    ∧ (checkOk bs = true → fieldAt bs 0 1 < 1 ∨ 11 < fieldAt bs 0 1 → judgeRecord bs = .error .unknownKind)
    ∧ (∀ length, checkOk bs = true → 1 ≤ fieldAt bs 0 1 → fieldAt bs 0 1 ≤ 11 →
        length = (match fieldAt bs 0 1 with
          | 1 => 9 + 8 * fieldAt bs 11 1
          | 4 => 5
          | 5 => 3 + fieldAt bs 5 1
          | 6 => 12 + fieldAt bs 14 1
          | 7 => 5
          | 8 => 9
          | 9 => 5 + 32 * fieldAt bs 7 1
          | 10 => 2
          | 11 => 2
          | _ => 0) →
        (fieldAt bs 1 2 ≠ length → judgeRecord bs = .error .badLength)
        ∧ (fieldAt bs 1 2 = length → ∃ r, judgeRecord bs = .ok r ∧ r.kindCode = fieldAt bs 0 1))
    ∧ (∀ reason, judgeRecord bs = .error reason → exec (.recordComplete dt bs) s = .next (finish { u with
        link := ShowLink.handRefusal { kind := bs.head?, reason := reason, cue := none, clip := none }
          { u.link with framing := .hunt } }))
    ∧ (∀ r, judgeRecord bs = .ok r → u.link.rxQueue.length < 8 →
        exec (.recordComplete dt bs) s = .next (finish { u with
          link := { u.link with framing := .hunt, rxQueue := u.link.rxQueue ++ [r] } }))
    ∧ (∀ r, judgeRecord bs = .ok r → 8 ≤ u.link.rxQueue.length → ∃ t, exec (.recordComplete dt bs) s = .next t
        ∧ t = finish { u with
            link := ShowLink.raise .linkOverrun { u.link with framing := .hunt, overrun := bump u.link.overrun } }
        ∧ t.link.rxQueue = u.link.rxQueue ∧ t.link.has .linkOverrun = true)

/-- OUTBOUND_RECORD_SENT: the oldest waiting record becomes the record in transmission, a STATUS with the station's values as they
then stand (R164, R165). -/
def Obligations.TheOldestWaitingRecordStarts : Prop :=
  ∀ (dt : Nat) (s u : State), u = advance dt s →
    (u.link.outQueue = [] → ∃ t, exec (.outboundRecordSent dt) s = .next t ∧ t.link.sending = none ∧ t.link.outQueue = [])
    ∧ (∀ rest, u.link.outQueue = .status :: rest → ∃ t report, exec (.outboundRecordSent dt) s = .next t
        ∧ t.link.sending = some (.status report) ∧ t.link.outQueue = rest
        ∧ report.station = t.loader.station ∧ report.timing = t.timing.state ∧ report.show_ = t.show_.state
        ∧ report.showTime = t.show_.clock ∧ report.holdings = t.pm.holdings ∧ report.demand = t.pm.demand
        ∧ report.listeners = t.roster.counts ∧ report.events = t.link.events
        ∧ report.counters = t.statusReport.counters
        ∧ report.counters = [t.line.lineConflict, t.line.dropped, t.line.bad, t.pm.evictions, t.pm.abandoned, t.link.overrun,
            t.link.refusalsDropped, t.show_.jumps, t.show_.rateRejects, t.cues.lateCue, t.cues.skippedCue, t.clips.skipped,
            t.clips.overlap, t.clips.slip, t.plan.underrun, t.radio.lockSkip, t.radio.garbled, t.roster.ackLost,
            t.roster.joinRefusals]
        ∧ t.show_ = u.show_ ∧ t.cues = u.cues ∧ t.clips = u.clips ∧ t.pm = u.pm ∧ t.roster = u.roster)
    ∧ (∀ r rest, u.link.outQueue = .refusal r :: rest → ∃ t, exec (.outboundRecordSent dt) s = .next t
        ∧ t.link.sending = some (.refusal r) ∧ t.link.outQueue = rest)

/-- EVENT_ACK: each named event becomes clear, no other changes, and no STATUS is handed over (R166). -/
def Obligations.EventAckClearsTheNamedEvents : Prop :=
  ∀ (dt : Nat) (s u : State) (named : BitVec 16) (rest : List Record), u = advance dt s →
    u.link.rxQueue = .eventAck named :: rest → ∃ t, exec (.eventAck dt) s = .next t
      ∧ t = finish { u with link := { u.link with rxQueue := rest, events := u.link.events &&& ~~~named } }
      ∧ ∀ e, t.link.has e = (u.link.has e && (named &&& e.bit == 0))

/-! ## Show control (01) -/

/-- SHOW_LOAD: refused with BAD FIELD for a zero session, a time above the largest, or a list that is not valid; else the show is
READY at the initial time and rate 1, table and binding are the record's, and cues, clips, roster and acknowledgements are gone,
their counters and the translation tables kept (R4, R19, R40, R61, R94). Position manager and house line are what a new show
leaves: every count 0, demand worked out with them, and a claim attempt at a rise (R141). A list is valid by R2; the table holds
it in ascending track number, and the description tracks are bound to engines 0 to 3 in that order (R2, R3). -/
def Obligations.ShowLoadBeginsAShow : Prop :=
  (∀ (dt : Nat) (s u : State) (session : BitVec 32) (time : Nat) (tracks : List TrackEntry) (rest : List Record),
    u = advance dt s → u.link.rxQueue = .showLoad session time tracks :: rest →
    (session = 0 ∨ 2147483647 < time ∨ validTracks tracks = false →
      exec (.showLoad dt) s = .next (finish { u with
        link := ShowLink.handRefusal
          { kind := some 1, reason := .badField, cue := none, clip := none } { u.link with rxQueue := rest } }))
    ∧ (session ≠ 0 → time ≤ 2147483647 → validTracks tracks = true → ∀ loaded v,
      loaded = { u with show_ := { u.show_ with
        state := .ready, session := some session, tracks := trackTable tracks
        binding := bindEngines (trackTable tracks), clock := time, fraction := 0, rate := { num := 1, den := 1 }
        gate := none, markLoss := none, endedTimer := none } } →
      v = loaded.demandNewShow →
      exec (.showLoad dt) s = .next (finish { loaded with
          link := { u.link with rxQueue := rest }
          cues := { u.cues with entries := [], clears := [], generation := u.cues.generation + 1 }
          clips := { u.clips with clips := [], engines := .all { current := none, next := none } }
          roster := { u.roster with entries := [], acks := [] }, pm := v.pm, line := v.line })
        ∧ ({ u.clips with clips := [] } : ClipStore).freePages = List.range 128
        ∧ v.pm.counts = .zero ∧ v.pm.demand = demandFor .ready .zero (trackTable tracks) u.cfg.maxHoldings
        ∧ v.pm.holdings = u.pm.holdings))
  ∧ (∀ tracks : List TrackEntry,
    (validTracks tracks = true ↔ 1 ≤ tracks.length ∧ tracks.length ≤ 8 ∧ (tracks.map (·.number)).Nodup
      ∧ (tracks.filter (fun e => e.kind == 2)).length ≤ 4
      ∧ ∀ e ∈ tracks, 1 ≤ e.number ∧ e.number ≤ 8 ∧ (e.kind = 1 ∨ e.kind = 2) ∧ e.language.length = 3
          ∧ (∀ b ∈ e.language, 65 ≤ b.toNat ∧ b.toNat ≤ 90 ∨ 97 ≤ b.toNat ∧ b.toNat ≤ 122)
          ∧ e.requiredClass ≤ 3 ∧ (e.kind = 1 → e.table ≤ 3))
    ∧ (validTracks tracks = true → (trackTable tracks).Pairwise (fun a b => a.number < b.number)
      ∧ ∀ k, k ∈ trackTable tracks ↔ ∃ e ∈ tracks, k = {
          number := e.number, kind := if e.kind = 1 then .caption else .description, language := e.language
          requiredClass := e.requiredClass, table := e.table, carryAlways := e.carryAlways }))
  ∧ ∀ (table : List Track) (i : Nat), i < 4 →
    (bindEngines table).get i = ((table.filter (fun k => k.kind == .description)).map (·.number))[i]?

/-- SHOW_END: the show is ENDED with its clock stopped where it stands and 120 s to run, demand is 1; SHOWING cues become SPENT, a
clear being owed for each that was on air, and PLAYING and LATE clips become SPENT, no counter changed, every other cue and clip
being kept as it is; in NO SHOW and ENDED it is refused with WRONG STATE (R5, R39, R60, R140). Position manager and house line are
what demand worked out afresh leaves (R141). -/
def Obligations.ShowEndEndsTheShow : Prop :=
  ∀ (dt : Nat) (s u : State) (rest : List Record), u = advance dt s → u.link.rxQueue = .showEnd :: rest →
    (u.show_.state = .noShow ∨ u.show_.state = .ended →
      exec (.showEnd dt) s = .next (finish { u with
        link := ShowLink.handRefusal
          { kind := some 2, reason := .wrongState, cue := none, clip := none } { u.link with rxQueue := rest } }))
    ∧ (u.show_.state ≠ .noShow → u.show_.state ≠ .ended → ∃ cues clips pm line,
      exec (.showEnd dt) s = .next (finish { u with
          show_ := { u.show_ with state := .ended, gate := none, markLoss := none, endedTimer := some 120000000 }
          link := { u.link with rxQueue := rest }, cues := cues, clips := clips, pm := pm, line := line })
        ∧ cues.entries = u.cues.entries.map (fun e =>
            if e.state = .showing then
              { e with state := .spent, startedFrame := none, refreshDue := none, lateNoted := false }
            else e)
        ∧ cues.clears = (u.cues.oweClears (u.cues.entries.filter (fun e =>
            e.state == .showing && e.refreshDue.isSome))).clears
        ∧ (u.cues.clears.length + u.cues.entries.length ≤ 32 → ∀ e ∈ u.cues.entries, e.state = .showing →
            e.refreshDue ≠ none → ∃ c ∈ cues.clears, c.track = e.track ∧ c.start = e.start)
        ∧ cues.lateCue = u.cues.lateCue ∧ cues.skippedCue = u.cues.skippedCue
        ∧ clips = { u.clips with
            clips := u.clips.clips.map (fun c => if c.state = .playing ∨ c.state = .late then { c with state := .spent } else c)
            engines := .all { current := none, next := none } }
        ∧ (∀ v, v = State.recomputeDemand { u with show_ := { u.show_ with
              state := .ended, gate := none, markLoss := none, endedTimer := some 120000000 } } → pm = v.pm ∧ line = v.line)
        ∧ pm.demand = 1 ∧ pm.counts = u.pm.counts ∧ pm.holdings = u.pm.holdings)

/-- SHOW_CLEAR, and the ENDED timer at 120 s: NO SHOW, no session, no tracks, no binding; cues, clips, roster and acknowledgements
gone, their counters, the clock and the translation tables kept; every count 0 and demand 0 (R6, R7, R40, R61, R94, R140, R141). -/
def Obligations.TheShowIsCleared : Prop :=
  ∀ (dt : Nat) (s u : State) (c : Instr) (rx : List Record), u = advance dt s →
    ((c = .showClear dt ∧ u.link.rxQueue = .showClear :: rx)
      ∨ (c = .endedTimerExpiry dt ∧ u.show_.endedTimer = some 0 ∧ u.link.rxQueue = rx)) →
    ∀ cleared v,
      cleared = { u with show_ := { u.show_ with
        state := .noShow, session := none, tracks := [], binding := .all none, gate := none, markLoss := none
        endedTimer := none } } →
      v = cleared.demandNewShow →
      exec c s = .next (finish { cleared with
          link := { u.link with rxQueue := rx }
          cues := { u.cues with entries := [], clears := [], generation := u.cues.generation + 1 }
          clips := { u.clips with clips := [], engines := .all { current := none, next := none } }
          roster := { u.roster with entries := [], acks := [] }, pm := v.pm })
        ∧ v.pm.counts = .zero ∧ v.pm.demand = 0 ∧ v.pm.holdings = u.pm.holdings ∧ v.pm.claim = u.pm.claim

/-- MARK: refused with WRONG STATE in NO SHOW and ENDED, then with BAD FIELD above the largest show time. Taken, it restarts the
mark-loss timer and sets the clock; in READY it places the show, an error beyond 200 ms or FROZEN makes it a jump with its event
and count, and its flag makes the show RUNNING or PAUSED (R9 to R13). A running mark is offered to the rate gate, which a jump has
emptied first (R14). The first mark and a jump re-evaluate every cue and every clip
at the mark's time, in place: clears are owed for what was on air and is so no longer, what a jump skips is counted, the chosen
clip of each track plays at its expected index or is LATE, and next clips are chosen afresh (R36, R57, R58). A correction moves no
cue and no clip. -/
def Obligations.MarksPlaceCorrectOrJump : Prop :=
  ∀ (dt : Nat) (s u : State) (time : Nat) (running : Bool) (rest : List Record), u = advance dt s →
    u.link.rxQueue = .mark time running :: rest →
    (u.show_.state = .noShow ∨ u.show_.state = .ended →
      exec (.mark dt) s = .next (finish { u with
        link := ShowLink.handRefusal
          { kind := some 4, reason := .wrongState, cue := none, clip := none } { u.link with rxQueue := rest } }))
    ∧ (u.show_.state ≠ .noShow → u.show_.state ≠ .ended → 2147483647 < time →
      exec (.mark dt) s = .next (finish { u with
        link := ShowLink.handRefusal
          { kind := some 4, reason := .badField, cue := none, clip := none } { u.link with rxQueue := rest } }))
    ∧ (u.show_.state ≠ .noShow → u.show_.state ≠ .ended → time ≤ 2147483647 → ∃ t, exec (.mark dt) s = .next t
      ∧ t.show_.clock = time ∧ t.show_.markLoss = some 0 ∧ t.show_.state = (if running then .running else .paused)
      ∧ (running = false → t.show_.gate = none ∧ t.show_.rate = u.show_.rate ∧ t.show_.rateRejects = u.show_.rateRejects)
      ∧ (∀ (jumped : Bool) (offered : ShowControl), running = true →
          (jumped = true ↔ u.show_.state ≠ .ready
            ∧ (u.show_.state = .frozen ∨ u.show_.clock + 200 < time ∨ time + 200 < u.show_.clock)) →
          offered = { u.show_ with gate := if jumped then none else u.show_.gate }.offerGate time u.timing.localTime →
          t.show_.gate = offered.gate ∧ t.show_.rate = offered.rate ∧ t.show_.rateRejects = offered.rateRejects)
      ∧ t.show_.fraction = 0 ∧ t.show_.endedTimer = u.show_.endedTimer ∧ t.show_.binding = u.show_.binding
      ∧ t.show_.tables = u.show_.tables
      ∧ t.show_.tracks = u.show_.tracks ∧ t.show_.session = u.show_.session ∧ t.link.rxQueue = rest
      ∧ t.roster = u.roster ∧ t.pm.holdings = u.pm.holdings ∧ t.timing = u.timing ∧ t.peers = u.peers
      ∧ (u.show_.state = .ready → t.show_.jumps = u.show_.jumps ∧ t.link.has .jump = u.link.has .jump)
      ∧ (u.show_.state = .frozen → t.show_.jumps = bump u.show_.jumps ∧ t.link.has .jump = true)
      ∧ (u.show_.state ≠ .ready → u.show_.state ≠ .frozen → time ≤ u.show_.clock + 200 → u.show_.clock ≤ time + 200 →
          t.show_.jumps = u.show_.jumps ∧ t.link.has .jump = u.link.has .jump ∧ t.cues = u.cues
            ∧ t.clips.clips = u.clips.clips ∧ t.clips.skipped = u.clips.skipped)
      ∧ (u.show_.state ≠ .ready → u.show_.state ≠ .frozen → u.show_.clock + 200 < time ∨ time + 200 < u.show_.clock →
          t.show_.jumps = bump u.show_.jumps ∧ t.link.has .jump = true)
      ∧ (u.show_.state = .ready ∨ u.show_.state = .frozen ∨ u.show_.clock + 200 < time ∨ time + 200 < u.show_.clock →
          u.cues.entries.Forall₂ (cueSettled time u.timing.frameNumber u.cues.entries) t.cues.entries
            ∧ t.cues.clears = (u.cues.oweClears (u.cues.entries.filter (fun e => e.state == .showing && e.refreshDue.isSome
                && !(e.start ≤ time && time < e.stop && (laterCues time u.cues.entries e).length < 3)))).clears
            ∧ t.cues.skippedCue = bumpBy (if u.show_.state = .ready then 0
                else (u.cues.entries.filter (fun e => e.state == .waiting && e.stop ≤ time && !e.everShown)).length)
                  u.cues.skippedCue
            ∧ u.clips.clips.Forall₂ (clipSettled time u.clips.clips) t.clips.clips
            ∧ t.clips.skipped = bumpBy (if u.show_.state = .ready then 0
                else (u.clips.clips.filter (fun c =>
                  if c.start + c.length * 20 ≤ time then
                    c.state == .loading || c.state == .late || (c.state == .ready && !c.everPlayed)
                  else c.start ≤ time && !(laterClips time u.clips.clips c).isEmpty && !c.everPlayed)).length) u.clips.skipped
            ∧ t.clips.overlap = u.clips.overlap ∧ t.clips.slip = u.clips.slip ∧ t.clips.memory = u.clips.memory
            ∧ ((u.clips.clips.map (fun c => (c.track, c.start))).Nodup → ∀ i < 4, ∀ c ∈ u.clips.clips,
                u.show_.binding.get i = some c.track → c.start ≤ time → time < c.start + c.length * 20 →
                laterClips time u.clips.clips c = [] → c.complete = true →
                (t.clips.engines.get i).current = some { clip := c.id, index := (time - c.start) / 20 })
            ∧ (∀ i < 4, (∀ c ∈ u.clips.clips, u.show_.binding.get i = some c.track → c.start ≤ time →
                time < c.start + c.length * 20 → laterClips time u.clips.clips c = [] → c.complete = false) →
                (t.clips.engines.get i).current = none)
            ∧ (∀ i < 4, (t.clips.engines.get i).next =
                (ClipStore.chooseNext t.show_ t.clips (u.show_.binding.get i) (t.clips.engines.get i)).map (·.id))
            ∧ t.link.has .lateClip = (u.link.has .lateClip || u.clips.clips.any (fun c =>
                c.start ≤ time && time < c.start + c.length * 20 && (laterClips time u.clips.clips c).isEmpty
                  && !c.complete))))

/-- The rate gate (R14): an empty gate takes the mark as its anchor; an anchor less than 0.5 s old is kept; a completed gate sets the
rate to film time over local time if that lies within 0.95 to 1.05, and else to 1.0 with a reject counted. -/
def Obligations.TheRateGateMeasuresTheFilm : Prop :=
  ∀ (t now : Nat) (c : ShowControl),
    (c.gate = none → c.offerGate t now = { c with gate := some { showTime := t, localTime := now } })
    ∧ (∀ a, c.gate = some a → now < a.localTime + 500000 → c.offerGate t now = c)
    ∧ (∀ a, c.gate = some a → a.localTime + 500000 ≤ now → ∃ r,
        (c.offerGate t now).gate = some { showTime := t, localTime := now } ∧ (c.offerGate t now).rate = r
        ∧ (a.showTime ≤ t → 95 * (now - a.localTime) ≤ 100000 * (t - a.showTime) →
            100000 * (t - a.showTime) ≤ 105 * (now - a.localTime) →
            r.num * (now - a.localTime) = 1000 * (t - a.showTime) * r.den ∧ 0 < r.den
              ∧ (c.offerGate t now).rateRejects = c.rateRejects)
        ∧ (t < a.showTime ∨ 100000 * (t - a.showTime) < 95 * (now - a.localTime)
              ∨ 105 * (now - a.localTime) < 100000 * (t - a.showTime) →
            r = { num := 1, den := 1 } ∧ (c.offerGate t now).rateRejects = bump c.rateRejects))

/-- MARKS_LOST at 3 s in RUNNING: COASTING, the clock going on. FROZEN at 10 s in RUNNING, PAUSED and COASTING: the clock stops,
the gate is emptied, and the fault line is held; every SHOWING cue waits again, a clear being owed for each that was on air,
PLAYING clips are READY, LATE ones LOADING, every other cue and clip being kept as it is and no counter changed, no engine has a
current clip, and next clips are chosen afresh (R15, R16, R38, R59). In COASTING each engine keeps its current part and no clip
changes (R56). Position manager and house line are what demand worked out afresh leaves (R141). -/
def Obligations.LostMarksCoastThenFreeze : Prop :=
  ∀ (dt m : Nat) (s u : State), u = advance dt s → u.show_.markLoss = some m →
    (u.show_.state = .running → 3000000 ≤ m → ∃ clips pm line t, exec (.marksLost dt) s = .next t
      ∧ t = finish { u with show_ := { u.show_ with state := .coasting }, link := u.link.raise .marksLost, clips := clips
                            pm := pm, line := line }
      ∧ t.link.has .marksLost = true ∧ pm.holdings = u.pm.holdings
      ∧ clips = { u.clips with engines := clips.engines }
      ∧ (∀ i < 4, ∀ next, next = ClipStore.chooseNext { u.show_ with state := .coasting } u.clips (u.show_.binding.get i)
            (u.clips.engines.get i) →
          clips.engines.get i = { u.clips.engines.get i with next := next.map (·.id) })
      ∧ ∀ v, v = State.recomputeDemand { u with show_ := { u.show_ with state := .coasting } } → pm = v.pm ∧ line = v.line)
    ∧ (u.show_.state = .running ∨ u.show_.state = .paused ∨ u.show_.state = .coasting → 10000000 ≤ m → ∃ t,
      exec (.frozen dt) s = .next t
        ∧ t.show_ = { u.show_ with state := .frozen, gate := none, markLoss := none }
        ∧ t.link.has .frozen = true ∧ t.loader.faultLine = true
        ∧ t.cues.entries = u.cues.entries.map (fun e =>
            if e.state = .showing then
              { e with state := .waiting, startedFrame := none, refreshDue := none, lateNoted := false }
            else e)
        ∧ t.cues.clears = (u.cues.oweClears (u.cues.entries.filter (fun e =>
            e.state == .showing && e.refreshDue.isSome))).clears
        ∧ (u.cues.clears.length + u.cues.entries.length ≤ 32 → ∀ e ∈ u.cues.entries, e.state = .showing →
            e.refreshDue ≠ none → ∃ c ∈ t.cues.clears, c.track = e.track ∧ c.start = e.start)
        ∧ t.cues.lateCue = u.cues.lateCue ∧ t.cues.skippedCue = u.cues.skippedCue
        ∧ t.clips.clips = u.clips.clips.map (fun c =>
            if c.state = .playing then { c with state := .ready }
            else if c.state = .late then { c with state := .loading } else c)
        ∧ (∀ i < 4, t.clips.engines.get i = { current := none, next :=
            (ClipStore.chooseNext t.show_ t.clips (u.show_.binding.get i) (t.clips.engines.get i)).map (·.id) })
        ∧ t.clips.memory = u.clips.memory ∧ t.clips.skipped = u.clips.skipped ∧ t.clips.overlap = u.clips.overlap
        ∧ t.clips.slip = u.clips.slip
        ∧ (∀ e ∈ t.cues.entries, e.state ≠ .showing) ∧ t.cues.entries.length = u.cues.entries.length
        ∧ (∀ c ∈ t.clips.clips, c.state ≠ .playing ∧ c.state ≠ .late)
        ∧ (∀ v, v = State.recomputeDemand { u with show_ := { u.show_ with state := .frozen, gate := none, markLoss := none } } →
            t.pm = v.pm ∧ t.line = v.line)
        ∧ t.pm.holdings = u.pm.holdings ∧ t.roster = u.roster ∧ t.plan = u.plan)

/-- R17: the identity at cold start; a TABLE LOAD writes its run of entries and no other, or is refused with BAD FIELD; SHOW LOAD and
SHOW CLEAR leave the tables alone. The store is in its canonical form, as every step keeps it. -/
def Obligations.TableLoadWritesItsEntries : Prop :=
  (∀ table entry, table < 4 → entry < 256 →
    Memory.read tableDefault State.reset.show_.tables (table * 256 + entry) = BitVec.ofNat 8 entry)
  ∧ (∀ (dt : Nat) (s u : State) (table first : Nat) (values : List Byte) (rest : List Record), u = advance dt s →
      u.link.rxQueue = .tableLoad table first values :: rest → Memory.wf tableDefault u.show_.tables = true →
      (3 < table ∨ values.length < 1 ∨ 64 < values.length ∨ 255 < first + values.length - 1 →
        exec (.tableLoad dt) s = .next (finish { u with
          link := ShowLink.handRefusal
            { kind := some 5, reason := .badField, cue := none, clip := none } { u.link with rxQueue := rest } }))
      ∧ (table ≤ 3 → 1 ≤ values.length → values.length ≤ 64 → first + values.length - 1 ≤ 255 → ∃ tables,
        exec (.tableLoad dt) s = .next (finish { u with
            show_ := { u.show_ with tables := tables }, link := { u.link with rxQueue := rest } })
          ∧ (∀ i, i < values.length →
              Memory.read tableDefault tables (table * 256 + (first + i)) = values.getD i 0)
          ∧ (∀ a, a < table * 256 + first ∨ table * 256 + first + values.length ≤ a →
              Memory.read tableDefault tables a = Memory.read tableDefault u.show_.tables a)))
  ∧ (∀ (dt : Nat) (s t : State), exec (.showLoad dt) s = .next t ∨ exec (.showClear dt) s = .next t →
      t.show_.tables = s.show_.tables)

/-! ## Cues and clips (02, 03) -/

/-- CUE: the four checks of R23 in order, the first that fails deciding the refusal, which names track and start. A cue that passes
them enters WAITING in its place in queue order while fewer than 256 are held; with 256 held the SPENT entry with the earliest end,
of equal ends the first, gives way to it, its clear staying on the list; one that matches an entry replaces it in place; with 256
held and none SPENT it is refused with QUEUE FULL and the event set (R23 to R25), the REFUSAL being handed over before the event's
STATUS (log 41). -/
def Obligations.CuesAreTakenOrRefused : Prop :=
  ∀ (dt : Nat) (s u : State) (track start stop region : Nat) (italic speaker : Bool) (text : List Byte) (rest : List Record)
    (refused : Reason → ShowLink) (entry : Cue) (caption bad over_ : Prop), u = advance dt s →
    u.link.rxQueue = .cue track start stop region italic speaker text :: rest →
    refused = (fun reason => ShowLink.handRefusal { kind := some 6, reason := reason, cue := some (track, start), clip := none }
      { u.link with rxQueue := rest }) →
    entry = { track := track, start := start, stop := stop, region := region, italic := italic, speakerChange := speaker
              text := text, state := .waiting, everShown := false, startedFrame := none, refreshDue := none
              lateNoted := false, changed := false } →
    (caption ↔ ∃ k ∈ u.show_.tracks, k.number = track ∧ k.kind = .caption) →
    (bad ↔ 2147483647 < start ∨ stop ≤ start ∨ 30000 < stop - start ∨ 2147483647 < stop ∨ 3 < region ∨ text.length = 0
      ∨ 120 < text.length) →
    (over_ ↔ (u.show_.state = .running ∨ u.show_.state = .coasting) ∧ stop ≤ u.show_.clock) →
    (u.show_.state = .noShow ∨ u.show_.state = .ended →
      exec (.cue dt) s = .next (finish { u with link := refused .wrongState }))
    ∧ (u.show_.state ≠ .noShow → u.show_.state ≠ .ended →
      (¬ caption → exec (.cue dt) s = .next (finish { u with link := refused .noTrack }))
      ∧ (caption → bad → exec (.cue dt) s = .next (finish { u with link := refused .badField }))
      ∧ (caption → ¬ bad → over_ → exec (.cue dt) s = .next (finish { u with link := refused .tooLate }))
      ∧ (caption → ¬ bad → ¬ over_ →
        (u.cues.find track start = none → u.cues.entries.length < 256 →
          exec (.cue dt) s = .next (finish { u with
            link := { u.link with rxQueue := rest }
            cues := { u.cues with entries := insertBy cueBefore entry u.cues.entries } }))
        ∧ (∀ before v after, u.cues.find track start = none → 256 ≤ u.cues.entries.length → u.cuesLegal →
          u.cues.entries = before ++ v :: after → v.state = .spent → (∀ e ∈ before, e.state = .spent → v.stop < e.stop) →
          (∀ e ∈ after, e.state = .spent → v.stop ≤ e.stop) →
          exec (.cue dt) s = .next (finish { u with
            link := { u.link with rxQueue := rest }
            cues := { u.cues with entries := insertBy cueBefore entry (before ++ after) } }))
        ∧ (u.cues.find track start = none → 256 ≤ u.cues.entries.length → (∀ e ∈ u.cues.entries, e.state ≠ .spent) →
          exec (.cue dt) s = .next (finish { u with link := (refused .queueFull).raise .queueFull }))
        ∧ (∀ e, u.cues.find track start = some e → ∃ e' cues,
          exec (.cue dt) s = .next (finish { u with link := { u.link with rxQueue := rest }, cues := cues })
            ∧ cues.find track start = some e' ∧ e'.stop = stop ∧ e'.region = region ∧ e'.text = text ∧ e'.changed = true
            ∧ e'.italic = italic ∧ e'.speakerChange = speaker
            ∧ e'.everShown = e.everShown ∧ e'.startedFrame = e.startedFrame
            ∧ e'.state = (if e.state = .spent then .waiting else e.state)
            ∧ e'.refreshDue =
                (if e.state = .showing ∧ e.refreshDue ≠ none then some u.timing.frameNumber else e.refreshDue)
            ∧ cues.entries.length = u.cues.entries.length ∧ cues.clears = u.cues.clears
            ∧ ∀ o ∈ u.cues.entries, ¬ (o.track = track ∧ o.start = start) → o ∈ cues.entries)))

/-- R26; how a clear joins the list is stated with the reports (R22). -/
def Obligations.CueCancelRemovesTheCue : Prop :=
  ∀ (dt : Nat) (s u : State) (track start : Nat) (rest : List Record), u = advance dt s →
    u.link.rxQueue = .cueCancel track start :: rest →
    (2147483647 < start ∨ track < 1 ∨ 8 < track →
      exec (.cueCancel dt) s = .next (finish { u with
        link := ShowLink.handRefusal
          { kind := some 7, reason := .badField, cue := some (track, start), clip := none }
            { u.link with rxQueue := rest } }))
    ∧ (start ≤ 2147483647 → 1 ≤ track → track ≤ 8 →
      (u.cues.find track start = none →
        exec (.cueCancel dt) s = .next (finish { u with link := { u.link with rxQueue := rest } }))
      ∧ (∀ e removed, u.cues.find track start = some e →
        removed = { u.cues with entries := u.cues.entries.filter (fun o => !(o.track == track && o.start == start)) } →
        (e.state = .showing → e.refreshDue ≠ none → exec (.cueCancel dt) s = .next (finish { u with
          link := { u.link with rxQueue := rest }, cues := removed.oweClear track start e.region }))
        ∧ (e.state ≠ .showing ∨ e.refreshDue = none → exec (.cueCancel dt) s = .next (finish { u with
          link := { u.link with rxQueue := rest }, cues := removed }))))

/-- CLIP_HEAD: the checks of R46 in order, the first that fails deciding the refusal, which names the clip id. A clip that passes
them takes the lowest free pages as a LOADING entry, evicting nothing while an entry and its pages are free; else the first SPENT
clips in order of end and id, as few as make room, are removed for it; and where no number of them does, it is refused with NO
ROOM, the event set, and none removed (R46 to R48), the REFUSAL being handed over before the event's STATUS (log 41). -/
def Obligations.ClipHeadsTakePages : Prop :=
  ∀ (dt : Nat) (s u : State) (id track start length : Nat) (rest : List Record) (refused : Reason → ShowLink)
    (description bad same over_ : Prop) (order : List Clip) (left : Nat → ClipStore) (room : Nat → Prop),
    u = advance dt s → u.link.rxQueue = .clipHead id track start length :: rest →
    refused = (fun reason => ShowLink.handRefusal { kind := some 8, reason := reason, cue := none, clip := some id }
      { u.link with rxQueue := rest }) →
    (description ↔ ∃ k ∈ u.show_.tracks, k.number = track ∧ k.kind = .description) →
    (bad ↔ id = 0 ∨ length = 0 ∨ 3000 < length ∨ 2147483647 < start ∨ 2147483647 < start + length * 20) →
    (same ↔ ∃ c ∈ u.clips.clips, c.id = id ∨ c.track = track ∧ c.start = start) →
    (over_ ↔ (u.show_.state = .running ∨ u.show_.state = .coasting) ∧ start + length * 20 ≤ u.show_.clock) →
    order = sortBy (fun a b => a.start + a.length * 20 < b.start + b.length * 20
      || (a.start + a.length * 20 == b.start + b.length * 20 && a.id < b.id))
      (u.clips.clips.filter (fun c => c.state == .spent)) →
    left = (fun k => { u.clips with clips := u.clips.clips.filter (fun c => !(order.take k).any (fun v => v.id == c.id)) }) →
    (∀ k, room k ↔ (left k).clips.length < 64 ∧ (length + 63) / 64 ≤ (left k).freePages.length) →
    (u.show_.state = .noShow ∨ u.show_.state = .ended →
      exec (.clipHead dt) s = .next (finish { u with link := refused .wrongState }))
    ∧ (u.show_.state ≠ .noShow → u.show_.state ≠ .ended →
      (¬ description → exec (.clipHead dt) s = .next (finish { u with link := refused .noTrack }))
      ∧ (description → bad → exec (.clipHead dt) s = .next (finish { u with link := refused .badField }))
      ∧ (description → ¬ bad → same → exec (.clipHead dt) s = .next (finish { u with link := refused .duplicate }))
      ∧ (description → ¬ bad → ¬ same → over_ → exec (.clipHead dt) s = .next (finish { u with link := refused .tooLate }))
      ∧ (description → ¬ bad → ¬ same → ¬ over_ →
        (∀ k, room k → (∀ j, j < k → ¬ room j) → ∃ clips,
          exec (.clipHead dt) s = .next (finish { u with link := { u.link with rxQueue := rest }, clips := clips })
            ∧ clips.clips = (left k).clips ++ [{
                id := id, track := track, start := start, length := length
                pages := (left k).freePages.take ((length + 63) / 64), loaded := List.replicate length false
                state := .loading, everPlayed := false }]
            ∧ (k = 0 → (left k).clips = u.clips.clips)
            ∧ clips.memory = u.clips.memory ∧ clips.skipped = u.clips.skipped ∧ clips.overlap = u.clips.overlap
            ∧ clips.slip = u.clips.slip
            ∧ ∀ i < 4, (clips.engines.get i).current = (u.clips.engines.get i).current
                ∧ (clips.engines.get i).next =
                    (ClipStore.chooseNext u.show_ clips (u.show_.binding.get i) (clips.engines.get i)).map (·.id))
        ∧ ((∀ k, ¬ room k) →
          exec (.clipHead dt) s = .next (finish { u with link := (refused .noRoom).raise .clipNoRoom }))))

/-- CLIP_DATA: the checks of R49 in order, the first that fails deciding the refusal, which names the clip id; else the blocks are
written in order into the clip's pages and their flags set; the clip's blocks then read as written, and no other clip's changes. A
clip that this makes complete is READY if it was LOADING and stays SPENT; a LATE one plays from its expected index on, or with
fewer than 10 blocks left is SPENT and counted (R49, R50). That a clip current on its engine then is cut is log 34. -/
def Obligations.ClipDataWritesItsBlocks : Prop :=
  ∀ (dt : Nat) (s u : State) (id first : Nat) (blocks : List (List Byte)) (rest : List Record) (refused : Reason → State),
    u = advance dt s → u.link.rxQueue = .clipData id first blocks :: rest →
    refused = (fun reason => { u with
      link := ShowLink.handRefusal
        { kind := some 9, reason := reason, cue := none, clip := some id } { u.link with rxQueue := rest } }) →
    (u.show_.state = .noShow ∨ u.show_.state = .ended → exec (.clipData dt) s = .next (finish (refused .wrongState)))
    ∧ (u.show_.state ≠ .noShow → u.show_.state ≠ .ended →
      (blocks.length < 1 ∨ 8 < blocks.length → exec (.clipData dt) s = .next (finish (refused .badField)))
      ∧ (1 ≤ blocks.length → blocks.length ≤ 8 →
        (u.clips.find id = none → exec (.clipData dt) s = .next (finish (refused .unknownClip)))
        ∧ (∀ c, u.clips.find id = some c → c.length ≤ first + blocks.length - 1 →
          exec (.clipData dt) s = .next (finish (refused .badField)))
        ∧ (∀ c, u.clips.find id = some c → first + blocks.length - 1 < c.length → u.clipsLegal →
          u.storesCanonical → (∀ b ∈ blocks, b.length = 32) → ∃ clips c',
          exec (.clipData dt) s = .next (finish { u with link := { u.link with rxQueue := rest }, clips := clips })
            ∧ clips.find id = some c' ∧ c'.pages = c.pages ∧ c'.start = c.start ∧ c'.length = c.length
            ∧ c'.loaded = setLoaded c.loaded first blocks.length
            ∧ (∀ i, i < blocks.length → clips.block c' (first + i) = blocks.getD i [])
            ∧ (∀ d ∈ u.clips.clips, d.id ≠ id → ∀ i, i < d.length → clips.block d i = u.clips.block d i)
            ∧ (c.complete = true ∨ c'.complete = false → c'.state = c.state)
            ∧ (c.complete = false → c'.complete = true → c.state = .loading → c'.state = .ready)
            ∧ (c.complete = false → c'.complete = true → c.state = .spent → c'.state = .spent)
            ∧ (c.complete = true ∨ c'.complete = false ∨ c.state ≠ .late →
                (∀ d ∈ u.clips.clips, d.id ≠ id → d ∈ clips.clips) ∧ clips.skipped = u.clips.skipped
                  ∧ clips.overlap = u.clips.overlap ∧ c'.everPlayed = c.everPlayed
                  ∧ ∀ i < 4, (clips.engines.get i).current = (u.clips.engines.get i).current)
            ∧ (c.complete = false → c'.complete = true → c.state = .late → c.start ≤ u.show_.clock →
                c.length < (u.show_.clock - c.start) / 20 + 10 →
                c'.state = .spent ∧ clips.skipped = bump u.clips.skipped)
            ∧ (∀ i < 4, c.complete = false → c'.complete = true → c.state = .late → c.start ≤ u.show_.clock →
                (u.show_.clock - c.start) / 20 + 10 ≤ c.length → u.show_.binding.get i = some c.track →
                (∀ j < 4, u.show_.binding.get j = some c.track → j = i) →
                c'.state = .playing ∧ c'.everPlayed = true ∧ clips.skipped = u.clips.skipped
                  ∧ (clips.engines.get i).current = some { clip := id, index := (u.show_.clock - c.start) / 20 }
                  ∧ ((u.clips.engines.get i).current = none → clips.overlap = u.clips.overlap
                      ∧ ∀ d ∈ u.clips.clips, d.id ≠ id → d ∈ clips.clips)
                  ∧ (∀ cur, (u.clips.engines.get i).current = some cur → clips.overlap = bump u.clips.overlap
                      ∧ ∀ d ∈ clips.clips, d.id = cur.clip → cur.clip ≠ id → d.state = .spent))
            ∧ ∀ i < 4, (clips.engines.get i).next =
                (ClipStore.chooseNext u.show_ clips (u.show_.binding.get i) (clips.engines.get i)).map (·.id))))

/-- R51. -/
def Obligations.ClipCancelFreesTheClip : Prop :=
  ∀ (dt : Nat) (s u : State) (id : Nat) (rest : List Record) (refused : Reason → ShowLink), u = advance dt s →
    u.link.rxQueue = .clipCancel id :: rest →
    refused = (fun reason => ShowLink.handRefusal { kind := some 10, reason := reason, cue := none, clip := some id }
      { u.link with rxQueue := rest }) →
    (id = 0 → exec (.clipCancel dt) s = .next (finish { u with link := refused .badField }))
    ∧ (id ≠ 0 → u.clips.find id = none → exec (.clipCancel dt) s = .next (finish { u with link := refused .unknownClip }))
    ∧ (id ≠ 0 → u.clips.find id ≠ none → ∃ clips,
      exec (.clipCancel dt) s = .next (finish { u with link := { u.link with rxQueue := rest }, clips := clips })
        ∧ clips.clips = u.clips.clips.filter (fun c => c.id != id)
        ∧ (∀ i < 4, ∀ cur, (u.clips.engines.get i).current = some cur → cur.clip = id → (clips.engines.get i).current = none)
        ∧ (∀ e ∈ clips.engines.toList, ∀ cur, e.current = some cur → cur.clip ≠ id)
        ∧ (∀ e ∈ clips.engines.toList, e.next ≠ some id)
        ∧ (∀ i, (clips.engines.get i).next =
            (ClipStore.chooseNext u.show_ clips (u.show_.binding.get i) (clips.engines.get i)).map (·.id))
        ∧ (∀ i, (∀ cur, (u.clips.engines.get i).current = some cur → cur.clip ≠ id) →
            (clips.engines.get i).current = (u.clips.engines.get i).current)
        ∧ clips.memory = u.clips.memory ∧ clips.skipped = u.clips.skipped ∧ clips.overlap = u.clips.overlap
        ∧ clips.slip = u.clips.slip)

/-- Demand by show state (R140): 0 in NO SHOW, 1 in ENDED, else the cells wanted divided by 6 and rounded up, limited to the
maximum holdings; 1 cell, 1 for each active DESCRIPTION track and 3 for each active CAPTION track. The rest says what a count
report, a new show or cleared signal and a state change make of it (R141): a rise starts the hold-down count again and makes a
claim attempt; and a count whose conditions no longer hold is 0, and starved then clear (R152, R154). -/
def Obligations.DemandFollowsTheShow : Prop :=
  (∀ (state : ShowState) (counts : PerTrack) (tracks : List Track) (most cells : Nat) (active : TrackKind → Nat),
    active = (fun kind =>
      (tracks.filter (fun t => (0 < counts.get t.number || t.carryAlways) && t.kind == kind)).length) →
    cells = 1 + active .description + 3 * active .caption →
    demandFor .noShow counts tracks most = 0 ∧ demandFor .ended counts tracks most = 1
      ∧ (state ≠ .noShow → state ≠ .ended → 1 ≤ most → ∃ slots, 6 * slots < cells + 6 ∧ cells ≤ 6 * slots
          ∧ demandFor state counts tracks most = min slots most ∧ 1 ≤ demandFor state counts tracks most))
  ∧ ∀ (s after : State) (counts : PerTrack) (demand : Nat) (settled : PositionManager → PositionManager),
    demand = demandFor s.show_.state counts s.show_.tracks s.cfg.maxHoldings →
    settled = (fun p => { p with
      holdDown := if s.joined ∧ 0 < p.demand ∧ p.demand < p.holdings.length ∧ p.claim = none then p.holdDown else 0
      starvation := if s.joined ∧ 0 < p.demand ∧ p.holdings = [] then p.starvation else 0
      starved := p.starved && s.joined && 0 < p.demand && p.holdings.isEmpty }) →
    after = (if s.pm.demand < demand then
        State.claimAttempt { s with pm := settled { s.pm with counts := counts, demand := demand, holdDown := 0 } }
      else { s with pm := settled { s.pm with counts := counts, demand := demand } }) →
    (counts = s.roster.counts → s.countReport = after) ∧ (counts = .zero → s.demandNewShow = after)
      ∧ (counts = s.pm.counts → s.recomputeDemand = after)

end
end

