-- ==== Sys2Proof/Laws/State.lean ====
section
/-! SUPPORT. What each update of one block leaves alone: one lemma per block, true by rfl, so that no proof unfolds a record
update. -/

namespace Sys2Proof.Machine

/-! withPending -/

@[simp] theorem State.withPending_loader (q : List Instr) (s : State) : (s.withPending q).loader = s.loader := rfl
@[simp] theorem State.withPending_timing (q : List Instr) (s : State) : (s.withPending q).timing = s.timing := rfl
@[simp] theorem State.withPending_line (q : List Instr) (s : State) : (s.withPending q).line = s.line := rfl
@[simp] theorem State.withPending_peers (q : List Instr) (s : State) : (s.withPending q).peers = s.peers := rfl
@[simp] theorem State.withPending_pm (q : List Instr) (s : State) : (s.withPending q).pm = s.pm := rfl
@[simp] theorem State.withPending_link (q : List Instr) (s : State) : (s.withPending q).link = s.link := rfl
@[simp] theorem State.withPending_show (q : List Instr) (s : State) : (s.withPending q).show_ = s.show_ := rfl
@[simp] theorem State.withPending_cues (q : List Instr) (s : State) : (s.withPending q).cues = s.cues := rfl
@[simp] theorem State.withPending_clips (q : List Instr) (s : State) : (s.withPending q).clips = s.clips := rfl
@[simp] theorem State.withPending_plan (q : List Instr) (s : State) : (s.withPending q).plan = s.plan := rfl
@[simp] theorem State.withPending_radio (q : List Instr) (s : State) : (s.withPending q).radio = s.radio := rfl
@[simp] theorem State.withPending_roster (q : List Instr) (s : State) : (s.withPending q).roster = s.roster := rfl

/-! setSupply -/

@[simp] theorem State.setSupply_pending (up : Bool) (s : State) : (s.setSupply up).pending = s.pending := rfl
@[simp] theorem State.setSupply_timing (up : Bool) (s : State) : (s.setSupply up).timing = s.timing := rfl
@[simp] theorem State.setSupply_line (up : Bool) (s : State) : (s.setSupply up).line = s.line := rfl
@[simp] theorem State.setSupply_peers (up : Bool) (s : State) : (s.setSupply up).peers = s.peers := rfl
@[simp] theorem State.setSupply_pm (up : Bool) (s : State) : (s.setSupply up).pm = s.pm := rfl
@[simp] theorem State.setSupply_link (up : Bool) (s : State) : (s.setSupply up).link = s.link := rfl
@[simp] theorem State.setSupply_show (up : Bool) (s : State) : (s.setSupply up).show_ = s.show_ := rfl
@[simp] theorem State.setSupply_cues (up : Bool) (s : State) : (s.setSupply up).cues = s.cues := rfl
@[simp] theorem State.setSupply_clips (up : Bool) (s : State) : (s.setSupply up).clips = s.clips := rfl
@[simp] theorem State.setSupply_plan (up : Bool) (s : State) : (s.setSupply up).plan = s.plan := rfl
@[simp] theorem State.setSupply_radio (up : Bool) (s : State) : (s.setSupply up).radio = s.radio := rfl
@[simp] theorem State.setSupply_roster (up : Bool) (s : State) : (s.setSupply up).roster = s.roster := rfl

/-! setRestart -/

@[simp] theorem State.setRestart_pending (a : Bool) (s : State) : (s.setRestart a).pending = s.pending := rfl
@[simp] theorem State.setRestart_timing (a : Bool) (s : State) : (s.setRestart a).timing = s.timing := rfl
@[simp] theorem State.setRestart_line (a : Bool) (s : State) : (s.setRestart a).line = s.line := rfl
@[simp] theorem State.setRestart_peers (a : Bool) (s : State) : (s.setRestart a).peers = s.peers := rfl
@[simp] theorem State.setRestart_pm (a : Bool) (s : State) : (s.setRestart a).pm = s.pm := rfl
@[simp] theorem State.setRestart_link (a : Bool) (s : State) : (s.setRestart a).link = s.link := rfl
@[simp] theorem State.setRestart_show (a : Bool) (s : State) : (s.setRestart a).show_ = s.show_ := rfl
@[simp] theorem State.setRestart_cues (a : Bool) (s : State) : (s.setRestart a).cues = s.cues := rfl
@[simp] theorem State.setRestart_clips (a : Bool) (s : State) : (s.setRestart a).clips = s.clips := rfl
@[simp] theorem State.setRestart_plan (a : Bool) (s : State) : (s.setRestart a).plan = s.plan := rfl
@[simp] theorem State.setRestart_radio (a : Bool) (s : State) : (s.setRestart a).radio = s.radio := rfl
@[simp] theorem State.setRestart_roster (a : Bool) (s : State) : (s.setRestart a).roster = s.roster := rfl

/-! driveLines -/

@[simp] theorem State.driveLines_pending (s : State) : (s.driveLines).pending = s.pending := rfl
@[simp] theorem State.driveLines_timing (s : State) : (s.driveLines).timing = s.timing := rfl
@[simp] theorem State.driveLines_line (s : State) : (s.driveLines).line = s.line := rfl
@[simp] theorem State.driveLines_peers (s : State) : (s.driveLines).peers = s.peers := rfl
@[simp] theorem State.driveLines_pm (s : State) : (s.driveLines).pm = s.pm := rfl
@[simp] theorem State.driveLines_show (s : State) : (s.driveLines).show_ = s.show_ := rfl
@[simp] theorem State.driveLines_cues (s : State) : (s.driveLines).cues = s.cues := rfl
@[simp] theorem State.driveLines_clips (s : State) : (s.driveLines).clips = s.clips := rfl
@[simp] theorem State.driveLines_plan (s : State) : (s.driveLines).plan = s.plan := rfl
@[simp] theorem State.driveLines_radio (s : State) : (s.driveLines).radio = s.radio := rfl
@[simp] theorem State.driveLines_roster (s : State) : (s.driveLines).roster = s.roster := rfl

/-! raise -/

@[simp] theorem State.raise_pending (e : Event) (s : State) : (s.raise e).pending = s.pending := rfl
@[simp] theorem State.raise_loader (e : Event) (s : State) : (s.raise e).loader = s.loader := rfl
@[simp] theorem State.raise_timing (e : Event) (s : State) : (s.raise e).timing = s.timing := rfl
@[simp] theorem State.raise_line (e : Event) (s : State) : (s.raise e).line = s.line := rfl
@[simp] theorem State.raise_peers (e : Event) (s : State) : (s.raise e).peers = s.peers := rfl
@[simp] theorem State.raise_pm (e : Event) (s : State) : (s.raise e).pm = s.pm := rfl
@[simp] theorem State.raise_show (e : Event) (s : State) : (s.raise e).show_ = s.show_ := rfl
@[simp] theorem State.raise_cues (e : Event) (s : State) : (s.raise e).cues = s.cues := rfl
@[simp] theorem State.raise_clips (e : Event) (s : State) : (s.raise e).clips = s.clips := rfl
@[simp] theorem State.raise_plan (e : Event) (s : State) : (s.raise e).plan = s.plan := rfl
@[simp] theorem State.raise_radio (e : Event) (s : State) : (s.raise e).radio = s.radio := rfl
@[simp] theorem State.raise_roster (e : Event) (s : State) : (s.raise e).roster = s.roster := rfl

/-! refuse -/

@[simp] theorem State.refuse_pending (r : RefusalRecord) (s : State) : (s.refuse r).pending = s.pending := rfl
@[simp] theorem State.refuse_loader (r : RefusalRecord) (s : State) : (s.refuse r).loader = s.loader := rfl
@[simp] theorem State.refuse_timing (r : RefusalRecord) (s : State) : (s.refuse r).timing = s.timing := rfl
@[simp] theorem State.refuse_line (r : RefusalRecord) (s : State) : (s.refuse r).line = s.line := rfl
@[simp] theorem State.refuse_peers (r : RefusalRecord) (s : State) : (s.refuse r).peers = s.peers := rfl
@[simp] theorem State.refuse_pm (r : RefusalRecord) (s : State) : (s.refuse r).pm = s.pm := rfl
@[simp] theorem State.refuse_show (r : RefusalRecord) (s : State) : (s.refuse r).show_ = s.show_ := rfl
@[simp] theorem State.refuse_cues (r : RefusalRecord) (s : State) : (s.refuse r).cues = s.cues := rfl
@[simp] theorem State.refuse_clips (r : RefusalRecord) (s : State) : (s.refuse r).clips = s.clips := rfl
@[simp] theorem State.refuse_plan (r : RefusalRecord) (s : State) : (s.refuse r).plan = s.plan := rfl
@[simp] theorem State.refuse_radio (r : RefusalRecord) (s : State) : (s.refuse r).radio = s.radio := rfl
@[simp] theorem State.refuse_roster (r : RefusalRecord) (s : State) : (s.refuse r).roster = s.roster := rfl

/-! refusePlain -/

@[simp] theorem State.refusePlain_pending (k : Nat) (r : Reason) (s : State) : (s.refusePlain k r).pending = s.pending := rfl
@[simp] theorem State.refusePlain_loader (k : Nat) (r : Reason) (s : State) : (s.refusePlain k r).loader = s.loader := rfl
@[simp] theorem State.refusePlain_timing (k : Nat) (r : Reason) (s : State) : (s.refusePlain k r).timing = s.timing := rfl
@[simp] theorem State.refusePlain_line (k : Nat) (r : Reason) (s : State) : (s.refusePlain k r).line = s.line := rfl
@[simp] theorem State.refusePlain_peers (k : Nat) (r : Reason) (s : State) : (s.refusePlain k r).peers = s.peers := rfl
@[simp] theorem State.refusePlain_pm (k : Nat) (r : Reason) (s : State) : (s.refusePlain k r).pm = s.pm := rfl
@[simp] theorem State.refusePlain_show (k : Nat) (r : Reason) (s : State) : (s.refusePlain k r).show_ = s.show_ := rfl
@[simp] theorem State.refusePlain_cues (k : Nat) (r : Reason) (s : State) : (s.refusePlain k r).cues = s.cues := rfl
@[simp] theorem State.refusePlain_clips (k : Nat) (r : Reason) (s : State) : (s.refusePlain k r).clips = s.clips := rfl
@[simp] theorem State.refusePlain_plan (k : Nat) (r : Reason) (s : State) : (s.refusePlain k r).plan = s.plan := rfl
@[simp] theorem State.refusePlain_radio (k : Nat) (r : Reason) (s : State) : (s.refusePlain k r).radio = s.radio := rfl
@[simp] theorem State.refusePlain_roster (k : Nat) (r : Reason) (s : State) : (s.refusePlain k r).roster = s.roster := rfl

/-! refuseCue -/

@[simp] theorem State.refuseCue_pending (k t a : Nat) (r : Reason) (s : State) : (s.refuseCue k t a r).pending = s.pending := rfl
@[simp] theorem State.refuseCue_loader (k t a : Nat) (r : Reason) (s : State) : (s.refuseCue k t a r).loader = s.loader := rfl
@[simp] theorem State.refuseCue_timing (k t a : Nat) (r : Reason) (s : State) : (s.refuseCue k t a r).timing = s.timing := rfl
@[simp] theorem State.refuseCue_line (k t a : Nat) (r : Reason) (s : State) : (s.refuseCue k t a r).line = s.line := rfl
@[simp] theorem State.refuseCue_peers (k t a : Nat) (r : Reason) (s : State) : (s.refuseCue k t a r).peers = s.peers := rfl
@[simp] theorem State.refuseCue_pm (k t a : Nat) (r : Reason) (s : State) : (s.refuseCue k t a r).pm = s.pm := rfl
@[simp] theorem State.refuseCue_show (k t a : Nat) (r : Reason) (s : State) : (s.refuseCue k t a r).show_ = s.show_ := rfl
@[simp] theorem State.refuseCue_cues (k t a : Nat) (r : Reason) (s : State) : (s.refuseCue k t a r).cues = s.cues := rfl
@[simp] theorem State.refuseCue_clips (k t a : Nat) (r : Reason) (s : State) : (s.refuseCue k t a r).clips = s.clips := rfl
@[simp] theorem State.refuseCue_plan (k t a : Nat) (r : Reason) (s : State) : (s.refuseCue k t a r).plan = s.plan := rfl
@[simp] theorem State.refuseCue_radio (k t a : Nat) (r : Reason) (s : State) : (s.refuseCue k t a r).radio = s.radio := rfl
@[simp] theorem State.refuseCue_roster (k t a : Nat) (r : Reason) (s : State) : (s.refuseCue k t a r).roster = s.roster := rfl

/-! refuseClip -/

@[simp] theorem State.refuseClip_pending (k i : Nat) (r : Reason) (s : State) : (s.refuseClip k i r).pending = s.pending := rfl
@[simp] theorem State.refuseClip_loader (k i : Nat) (r : Reason) (s : State) : (s.refuseClip k i r).loader = s.loader := rfl
@[simp] theorem State.refuseClip_timing (k i : Nat) (r : Reason) (s : State) : (s.refuseClip k i r).timing = s.timing := rfl
@[simp] theorem State.refuseClip_line (k i : Nat) (r : Reason) (s : State) : (s.refuseClip k i r).line = s.line := rfl
@[simp] theorem State.refuseClip_peers (k i : Nat) (r : Reason) (s : State) : (s.refuseClip k i r).peers = s.peers := rfl
@[simp] theorem State.refuseClip_pm (k i : Nat) (r : Reason) (s : State) : (s.refuseClip k i r).pm = s.pm := rfl
@[simp] theorem State.refuseClip_show (k i : Nat) (r : Reason) (s : State) : (s.refuseClip k i r).show_ = s.show_ := rfl
@[simp] theorem State.refuseClip_cues (k i : Nat) (r : Reason) (s : State) : (s.refuseClip k i r).cues = s.cues := rfl
@[simp] theorem State.refuseClip_clips (k i : Nat) (r : Reason) (s : State) : (s.refuseClip k i r).clips = s.clips := rfl
@[simp] theorem State.refuseClip_plan (k i : Nat) (r : Reason) (s : State) : (s.refuseClip k i r).plan = s.plan := rfl
@[simp] theorem State.refuseClip_radio (k i : Nat) (r : Reason) (s : State) : (s.refuseClip k i r).radio = s.radio := rfl
@[simp] theorem State.refuseClip_roster (k i : Nat) (r : Reason) (s : State) : (s.refuseClip k i r).roster = s.roster := rfl

/-! setPm -/

@[simp] theorem State.setPm_pending (p : PositionManager) (s : State) : (s.setPm p).pending = s.pending := rfl
@[simp] theorem State.setPm_loader (p : PositionManager) (s : State) : (s.setPm p).loader = s.loader := rfl
@[simp] theorem State.setPm_timing (p : PositionManager) (s : State) : (s.setPm p).timing = s.timing := rfl
@[simp] theorem State.setPm_line (p : PositionManager) (s : State) : (s.setPm p).line = s.line := rfl
@[simp] theorem State.setPm_peers (p : PositionManager) (s : State) : (s.setPm p).peers = s.peers := rfl
@[simp] theorem State.setPm_link (p : PositionManager) (s : State) : (s.setPm p).link = s.link := rfl
@[simp] theorem State.setPm_show (p : PositionManager) (s : State) : (s.setPm p).show_ = s.show_ := rfl
@[simp] theorem State.setPm_cues (p : PositionManager) (s : State) : (s.setPm p).cues = s.cues := rfl
@[simp] theorem State.setPm_clips (p : PositionManager) (s : State) : (s.setPm p).clips = s.clips := rfl
@[simp] theorem State.setPm_plan (p : PositionManager) (s : State) : (s.setPm p).plan = s.plan := rfl
@[simp] theorem State.setPm_radio (p : PositionManager) (s : State) : (s.setPm p).radio = s.radio := rfl
@[simp] theorem State.setPm_roster (p : PositionManager) (s : State) : (s.setPm p).roster = s.roster := rfl

/-! setProgress -/

@[simp] theorem State.setProgress_pending (p : Position) (g : Progress) (s : State) : (s.setProgress p g).pending = s.pending := rfl
@[simp] theorem State.setProgress_loader (p : Position) (g : Progress) (s : State) : (s.setProgress p g).loader = s.loader := rfl
@[simp] theorem State.setProgress_timing (p : Position) (g : Progress) (s : State) : (s.setProgress p g).timing = s.timing := rfl
@[simp] theorem State.setProgress_line (p : Position) (g : Progress) (s : State) : (s.setProgress p g).line = s.line := rfl
@[simp] theorem State.setProgress_peers (p : Position) (g : Progress) (s : State) : (s.setProgress p g).peers = s.peers := rfl
@[simp] theorem State.setProgress_pm (p : Position) (g : Progress) (s : State) : (s.setProgress p g).pm = s.pm := rfl
@[simp] theorem State.setProgress_link (p : Position) (g : Progress) (s : State) : (s.setProgress p g).link = s.link := rfl
@[simp] theorem State.setProgress_show (p : Position) (g : Progress) (s : State) : (s.setProgress p g).show_ = s.show_ := rfl
@[simp] theorem State.setProgress_cues (p : Position) (g : Progress) (s : State) : (s.setProgress p g).cues = s.cues := rfl
@[simp] theorem State.setProgress_clips (p : Position) (g : Progress) (s : State) : (s.setProgress p g).clips = s.clips := rfl
@[simp] theorem State.setProgress_radio (p : Position) (g : Progress) (s : State) : (s.setProgress p g).radio = s.radio := rfl
@[simp] theorem State.setProgress_roster (p : Position) (g : Progress) (s : State) : (s.setProgress p g).roster = s.roster := rfl

/-! reportUnsent -/

@[simp] theorem State.reportUnsent_pending (p : Position) (s : State) : (s.reportUnsent p).pending = s.pending := rfl
@[simp] theorem State.reportUnsent_loader (p : Position) (s : State) : (s.reportUnsent p).loader = s.loader := rfl
@[simp] theorem State.reportUnsent_timing (p : Position) (s : State) : (s.reportUnsent p).timing = s.timing := rfl
@[simp] theorem State.reportUnsent_line (p : Position) (s : State) : (s.reportUnsent p).line = s.line := rfl
@[simp] theorem State.reportUnsent_peers (p : Position) (s : State) : (s.reportUnsent p).peers = s.peers := rfl
@[simp] theorem State.reportUnsent_pm (p : Position) (s : State) : (s.reportUnsent p).pm = s.pm := rfl
@[simp] theorem State.reportUnsent_link (p : Position) (s : State) : (s.reportUnsent p).link = s.link := rfl
@[simp] theorem State.reportUnsent_show (p : Position) (s : State) : (s.reportUnsent p).show_ = s.show_ := rfl
@[simp] theorem State.reportUnsent_cues (p : Position) (s : State) : (s.reportUnsent p).cues = s.cues := rfl
@[simp] theorem State.reportUnsent_clips (p : Position) (s : State) : (s.reportUnsent p).clips = s.clips := rfl
@[simp] theorem State.reportUnsent_radio (p : Position) (s : State) : (s.reportUnsent p).radio = s.radio := rfl
@[simp] theorem State.reportUnsent_roster (p : Position) (s : State) : (s.reportUnsent p).roster = s.roster := rfl

/-! reportSent -/

@[simp] theorem State.reportSent_pending (p : Position) (s : State) : (s.reportSent p).pending = s.pending := rfl
@[simp] theorem State.reportSent_loader (p : Position) (s : State) : (s.reportSent p).loader = s.loader := rfl
@[simp] theorem State.reportSent_timing (p : Position) (s : State) : (s.reportSent p).timing = s.timing := rfl
@[simp] theorem State.reportSent_line (p : Position) (s : State) : (s.reportSent p).line = s.line := rfl
@[simp] theorem State.reportSent_peers (p : Position) (s : State) : (s.reportSent p).peers = s.peers := rfl
@[simp] theorem State.reportSent_pm (p : Position) (s : State) : (s.reportSent p).pm = s.pm := rfl
@[simp] theorem State.reportSent_link (p : Position) (s : State) : (s.reportSent p).link = s.link := rfl
@[simp] theorem State.reportSent_show (p : Position) (s : State) : (s.reportSent p).show_ = s.show_ := rfl
@[simp] theorem State.reportSent_clips (p : Position) (s : State) : (s.reportSent p).clips = s.clips := rfl
@[simp] theorem State.reportSent_radio (p : Position) (s : State) : (s.reportSent p).radio = s.radio := rfl
@[simp] theorem State.reportSent_roster (p : Position) (s : State) : (s.reportSent p).roster = s.roster := rfl

/-! silence -/

@[simp] theorem State.silence_pending (s : State) : (s.silence).pending = s.pending := rfl
@[simp] theorem State.silence_loader (s : State) : (s.silence).loader = s.loader := rfl
@[simp] theorem State.silence_timing (s : State) : (s.silence).timing = s.timing := rfl
@[simp] theorem State.silence_line (s : State) : (s.silence).line = s.line := rfl
@[simp] theorem State.silence_peers (s : State) : (s.silence).peers = s.peers := rfl
@[simp] theorem State.silence_pm (s : State) : (s.silence).pm = s.pm := rfl
@[simp] theorem State.silence_link (s : State) : (s.silence).link = s.link := rfl
@[simp] theorem State.silence_show (s : State) : (s.silence).show_ = s.show_ := rfl
@[simp] theorem State.silence_cues (s : State) : (s.silence).cues = s.cues := rfl
@[simp] theorem State.silence_clips (s : State) : (s.silence).clips = s.clips := rfl
@[simp] theorem State.silence_radio (s : State) : (s.silence).radio = s.radio := rfl
@[simp] theorem State.silence_roster (s : State) : (s.silence).roster = s.roster := rfl

/-! secondTick -/

@[simp] theorem State.secondTick_pending (s : State) : (s.secondTick).pending = s.pending := rfl
@[simp] theorem State.secondTick_loader (s : State) : (s.secondTick).loader = s.loader := rfl
@[simp] theorem State.secondTick_timing (s : State) : (s.secondTick).timing = s.timing := rfl
@[simp] theorem State.secondTick_line (s : State) : (s.secondTick).line = s.line := rfl
@[simp] theorem State.secondTick_peers (s : State) : (s.secondTick).peers = s.peers := rfl
@[simp] theorem State.secondTick_pm (s : State) : (s.secondTick).pm = s.pm := rfl
@[simp] theorem State.secondTick_show (s : State) : (s.secondTick).show_ = s.show_ := rfl
@[simp] theorem State.secondTick_cues (s : State) : (s.secondTick).cues = s.cues := rfl
@[simp] theorem State.secondTick_clips (s : State) : (s.secondTick).clips = s.clips := rfl
@[simp] theorem State.secondTick_plan (s : State) : (s.secondTick).plan = s.plan := rfl
@[simp] theorem State.secondTick_radio (s : State) : (s.secondTick).radio = s.radio := rfl

/-! setFraming -/

@[simp] theorem State.setFraming_pending (f : Framing) (s : State) : (s.setFraming f).pending = s.pending := rfl
@[simp] theorem State.setFraming_loader (f : Framing) (s : State) : (s.setFraming f).loader = s.loader := rfl
@[simp] theorem State.setFraming_timing (f : Framing) (s : State) : (s.setFraming f).timing = s.timing := rfl
@[simp] theorem State.setFraming_line (f : Framing) (s : State) : (s.setFraming f).line = s.line := rfl
@[simp] theorem State.setFraming_peers (f : Framing) (s : State) : (s.setFraming f).peers = s.peers := rfl
@[simp] theorem State.setFraming_pm (f : Framing) (s : State) : (s.setFraming f).pm = s.pm := rfl
@[simp] theorem State.setFraming_show (f : Framing) (s : State) : (s.setFraming f).show_ = s.show_ := rfl
@[simp] theorem State.setFraming_cues (f : Framing) (s : State) : (s.setFraming f).cues = s.cues := rfl
@[simp] theorem State.setFraming_clips (f : Framing) (s : State) : (s.setFraming f).clips = s.clips := rfl
@[simp] theorem State.setFraming_plan (f : Framing) (s : State) : (s.setFraming f).plan = s.plan := rfl
@[simp] theorem State.setFraming_radio (f : Framing) (s : State) : (s.setFraming f).radio = s.radio := rfl
@[simp] theorem State.setFraming_roster (f : Framing) (s : State) : (s.setFraming f).roster = s.roster := rfl

/-! dropHead -/

@[simp] theorem State.dropHead_pending (s : State) : (s.dropHead).pending = s.pending := rfl
@[simp] theorem State.dropHead_loader (s : State) : (s.dropHead).loader = s.loader := rfl
@[simp] theorem State.dropHead_timing (s : State) : (s.dropHead).timing = s.timing := rfl
@[simp] theorem State.dropHead_line (s : State) : (s.dropHead).line = s.line := rfl
@[simp] theorem State.dropHead_peers (s : State) : (s.dropHead).peers = s.peers := rfl
@[simp] theorem State.dropHead_pm (s : State) : (s.dropHead).pm = s.pm := rfl
@[simp] theorem State.dropHead_show (s : State) : (s.dropHead).show_ = s.show_ := rfl
@[simp] theorem State.dropHead_cues (s : State) : (s.dropHead).cues = s.cues := rfl
@[simp] theorem State.dropHead_clips (s : State) : (s.dropHead).clips = s.clips := rfl
@[simp] theorem State.dropHead_plan (s : State) : (s.dropHead).plan = s.plan := rfl
@[simp] theorem State.dropHead_radio (s : State) : (s.dropHead).radio = s.radio := rfl
@[simp] theorem State.dropHead_roster (s : State) : (s.dropHead).roster = s.roster := rfl

/-! ackEvents -/

@[simp] theorem State.ackEvents_pending (n : BitVec 16) (s : State) : (s.ackEvents n).pending = s.pending := rfl
@[simp] theorem State.ackEvents_loader (n : BitVec 16) (s : State) : (s.ackEvents n).loader = s.loader := rfl
@[simp] theorem State.ackEvents_timing (n : BitVec 16) (s : State) : (s.ackEvents n).timing = s.timing := rfl
@[simp] theorem State.ackEvents_line (n : BitVec 16) (s : State) : (s.ackEvents n).line = s.line := rfl
@[simp] theorem State.ackEvents_peers (n : BitVec 16) (s : State) : (s.ackEvents n).peers = s.peers := rfl
@[simp] theorem State.ackEvents_pm (n : BitVec 16) (s : State) : (s.ackEvents n).pm = s.pm := rfl
@[simp] theorem State.ackEvents_show (n : BitVec 16) (s : State) : (s.ackEvents n).show_ = s.show_ := rfl
@[simp] theorem State.ackEvents_cues (n : BitVec 16) (s : State) : (s.ackEvents n).cues = s.cues := rfl
@[simp] theorem State.ackEvents_clips (n : BitVec 16) (s : State) : (s.ackEvents n).clips = s.clips := rfl
@[simp] theorem State.ackEvents_plan (n : BitVec 16) (s : State) : (s.ackEvents n).plan = s.plan := rfl
@[simp] theorem State.ackEvents_radio (n : BitVec 16) (s : State) : (s.ackEvents n).radio = s.radio := rfl
@[simp] theorem State.ackEvents_roster (n : BitVec 16) (s : State) : (s.ackEvents n).roster = s.roster := rfl

/-! gapUsed -/

@[simp] theorem State.gapUsed_pending (s : State) : (s.gapUsed).pending = s.pending := rfl
@[simp] theorem State.gapUsed_loader (s : State) : (s.gapUsed).loader = s.loader := rfl
@[simp] theorem State.gapUsed_timing (s : State) : (s.gapUsed).timing = s.timing := rfl
@[simp] theorem State.gapUsed_line (s : State) : (s.gapUsed).line = s.line := rfl
@[simp] theorem State.gapUsed_peers (s : State) : (s.gapUsed).peers = s.peers := rfl
@[simp] theorem State.gapUsed_pm (s : State) : (s.gapUsed).pm = s.pm := rfl
@[simp] theorem State.gapUsed_link (s : State) : (s.gapUsed).link = s.link := rfl
@[simp] theorem State.gapUsed_show (s : State) : (s.gapUsed).show_ = s.show_ := rfl
@[simp] theorem State.gapUsed_cues (s : State) : (s.gapUsed).cues = s.cues := rfl
@[simp] theorem State.gapUsed_clips (s : State) : (s.gapUsed).clips = s.clips := rfl
@[simp] theorem State.gapUsed_plan (s : State) : (s.gapUsed).plan = s.plan := rfl
@[simp] theorem State.gapUsed_roster (s : State) : (s.gapUsed).roster = s.roster := rfl

/-! markSteps -/

@[simp] theorem State.markSteps_pending (s : State) : (s.markSteps).pending = s.pending := rfl
@[simp] theorem State.markSteps_loader (s : State) : (s.markSteps).loader = s.loader := rfl
@[simp] theorem State.markSteps_timing (s : State) : (s.markSteps).timing = s.timing := rfl
@[simp] theorem State.markSteps_line (s : State) : (s.markSteps).line = s.line := rfl
@[simp] theorem State.markSteps_peers (s : State) : (s.markSteps).peers = s.peers := rfl
@[simp] theorem State.markSteps_link (s : State) : (s.markSteps).link = s.link := rfl
@[simp] theorem State.markSteps_show (s : State) : (s.markSteps).show_ = s.show_ := rfl
@[simp] theorem State.markSteps_cues (s : State) : (s.markSteps).cues = s.cues := rfl
@[simp] theorem State.markSteps_clips (s : State) : (s.markSteps).clips = s.clips := rfl
@[simp] theorem State.markSteps_plan (s : State) : (s.markSteps).plan = s.plan := rfl
@[simp] theorem State.markSteps_radio (s : State) : (s.markSteps).radio = s.radio := rfl
@[simp] theorem State.markSteps_roster (s : State) : (s.markSteps).roster = s.roster := rfl

/-! outboundSent -/

@[simp] theorem State.outboundSent_pending (s : State) : (s.outboundSent).pending = s.pending := rfl
@[simp] theorem State.outboundSent_loader (s : State) : (s.outboundSent).loader = s.loader := rfl
@[simp] theorem State.outboundSent_timing (s : State) : (s.outboundSent).timing = s.timing := rfl
@[simp] theorem State.outboundSent_line (s : State) : (s.outboundSent).line = s.line := rfl
@[simp] theorem State.outboundSent_peers (s : State) : (s.outboundSent).peers = s.peers := rfl
@[simp] theorem State.outboundSent_pm (s : State) : (s.outboundSent).pm = s.pm := rfl
@[simp] theorem State.outboundSent_show (s : State) : (s.outboundSent).show_ = s.show_ := rfl
@[simp] theorem State.outboundSent_cues (s : State) : (s.outboundSent).cues = s.cues := rfl
@[simp] theorem State.outboundSent_clips (s : State) : (s.outboundSent).clips = s.clips := rfl
@[simp] theorem State.outboundSent_plan (s : State) : (s.outboundSent).plan = s.plan := rfl
@[simp] theorem State.outboundSent_radio (s : State) : (s.outboundSent).radio = s.radio := rfl
@[simp] theorem State.outboundSent_roster (s : State) : (s.outboundSent).roster = s.roster := rfl

/-! signalFreeze -/

@[simp] theorem State.signalFreeze_pending (s : State) : (s.signalFreeze).pending = s.pending := rfl
@[simp] theorem State.signalFreeze_loader (s : State) : (s.signalFreeze).loader = s.loader := rfl
@[simp] theorem State.signalFreeze_timing (s : State) : (s.signalFreeze).timing = s.timing := rfl
@[simp] theorem State.signalFreeze_line (s : State) : (s.signalFreeze).line = s.line := rfl
@[simp] theorem State.signalFreeze_peers (s : State) : (s.signalFreeze).peers = s.peers := rfl
@[simp] theorem State.signalFreeze_pm (s : State) : (s.signalFreeze).pm = s.pm := rfl
@[simp] theorem State.signalFreeze_link (s : State) : (s.signalFreeze).link = s.link := rfl
@[simp] theorem State.signalFreeze_show (s : State) : (s.signalFreeze).show_ = s.show_ := rfl
@[simp] theorem State.signalFreeze_plan (s : State) : (s.signalFreeze).plan = s.plan := rfl
@[simp] theorem State.signalFreeze_radio (s : State) : (s.signalFreeze).radio = s.radio := rfl
@[simp] theorem State.signalFreeze_roster (s : State) : (s.signalFreeze).roster = s.roster := rfl

/-! coldStart -/

@[simp] theorem State.coldStart_pending (s : State) : (s.coldStart).pending = s.pending := rfl

/-! The blocks that these updates set. -/

@[simp] theorem State.withPending_pending (q : List Instr) (s : State) : (s.withPending q).pending = q := rfl
@[simp] theorem State.setPm_pm (p : PositionManager) (s : State) : (s.setPm p).pm = settle s.joined p := rfl
@[simp] theorem State.raise_link (e : Event) (s : State) : (s.raise e).link = s.link.raise e := rfl
@[simp] theorem State.refuse_link (r : RefusalRecord) (s : State) : (s.refuse r).link = s.link.handRefusal r := rfl
@[simp] theorem State.setProgress_plan (p : Position) (g : Progress) (s : State) :
    (s.setProgress p g).plan = s.plan.setProgress p g := rfl
@[simp] theorem State.dropHead_rxQueue (s : State) : s.dropHead.link.rxQueue = s.link.rxQueue.tail := rfl
@[simp] theorem State.setFraming_framing (f : Framing) (s : State) : (s.setFraming f).link.framing = f := rfl
@[simp] theorem State.driveLines_faultLine (s : State) :
    s.driveLines.loader.faultLine = faultLineAt s.loader.station s.pm.starved s.show_.state := rfl
@[simp] theorem State.driveLines_holdLine (s : State) :
    s.driveLines.link.holdLine = holdLineAt s.loader.station s.link.rxQueue.length := rfl
@[simp] theorem State.driveLines_station (s : State) : s.driveLines.loader.station = s.loader.station := rfl
@[simp] theorem State.driveLines_config (s : State) : s.driveLines.loader.config = s.loader.config := rfl

end Sys2Proof.Machine
end

