-- ==== Sys2Proof/Laws/Frames.lean ====
section
/-! SUPPORT. What each shared operation and each command's effect leaves alone: one lemma per block that it does not
touch. -/

namespace Sys2Proof.Machine

/-- What a step of a fold leaves alone, the fold leaves alone. -/
theorem foldl_keeps {α β γ : Type} (f : β → γ) (op : β → α → β) (h : ∀ b a, f (op b a) = f b) (l : List α) (b : β) :
    f (l.foldl op b) = f b := by
  induction l generalizing b with
  | nil => rfl
  | cons a l ih => simp only [List.foldl_cons, ih, h]

/-! startOutbound -/

@[simp] theorem State.startOutbound_pending (s : State) : (s.startOutbound).pending = s.pending := by unfold State.startOutbound; split <;> rfl
@[simp] theorem State.startOutbound_loader (s : State) : (s.startOutbound).loader = s.loader := by unfold State.startOutbound; split <;> rfl
@[simp] theorem State.startOutbound_timing (s : State) : (s.startOutbound).timing = s.timing := by unfold State.startOutbound; split <;> rfl
@[simp] theorem State.startOutbound_line (s : State) : (s.startOutbound).line = s.line := by unfold State.startOutbound; split <;> rfl
@[simp] theorem State.startOutbound_peers (s : State) : (s.startOutbound).peers = s.peers := by unfold State.startOutbound; split <;> rfl
@[simp] theorem State.startOutbound_pm (s : State) : (s.startOutbound).pm = s.pm := by unfold State.startOutbound; split <;> rfl
@[simp] theorem State.startOutbound_show (s : State) : (s.startOutbound).show_ = s.show_ := by unfold State.startOutbound; split <;> rfl
@[simp] theorem State.startOutbound_cues (s : State) : (s.startOutbound).cues = s.cues := by unfold State.startOutbound; split <;> rfl
@[simp] theorem State.startOutbound_clips (s : State) : (s.startOutbound).clips = s.clips := by unfold State.startOutbound; split <;> rfl
@[simp] theorem State.startOutbound_plan (s : State) : (s.startOutbound).plan = s.plan := by unfold State.startOutbound; split <;> rfl
@[simp] theorem State.startOutbound_radio (s : State) : (s.startOutbound).radio = s.radio := by unfold State.startOutbound; split <;> rfl
@[simp] theorem State.startOutbound_roster (s : State) : (s.startOutbound).roster = s.roster := by unfold State.startOutbound; split <;> rfl

/-! finish -/

@[simp] theorem finish_pending (s : State) : (finish s).pending = s.pending := by simp [finish]
@[simp] theorem finish_timing (s : State) : (finish s).timing = s.timing := by simp [finish]
@[simp] theorem finish_line (s : State) : (finish s).line = s.line := by simp [finish]
@[simp] theorem finish_peers (s : State) : (finish s).peers = s.peers := by simp [finish]
@[simp] theorem finish_pm (s : State) : (finish s).pm = s.pm := by simp [finish]
@[simp] theorem finish_show (s : State) : (finish s).show_ = s.show_ := by simp [finish]
@[simp] theorem finish_cues (s : State) : (finish s).cues = s.cues := by simp [finish]
@[simp] theorem finish_clips (s : State) : (finish s).clips = s.clips := by simp [finish]
@[simp] theorem finish_plan (s : State) : (finish s).plan = s.plan := by simp [finish]
@[simp] theorem finish_radio (s : State) : (finish s).radio = s.radio := by simp [finish]
@[simp] theorem finish_roster (s : State) : (finish s).roster = s.roster := by simp [finish]

/-! advance -/

@[simp] theorem advance_pending (dt : Nat) (s : State) : (advance dt s).pending = s.pending := by unfold advance; split <;> rfl
@[simp] theorem advance_loader (dt : Nat) (s : State) : (advance dt s).loader = s.loader := by unfold advance; split <;> rfl
@[simp] theorem advance_peers (dt : Nat) (s : State) : (advance dt s).peers = s.peers := by unfold advance; split <;> rfl
@[simp] theorem advance_pm (dt : Nat) (s : State) : (advance dt s).pm = s.pm := by unfold advance; split <;> rfl
@[simp] theorem advance_cues (dt : Nat) (s : State) : (advance dt s).cues = s.cues := by unfold advance; split <;> rfl
@[simp] theorem advance_clips (dt : Nat) (s : State) : (advance dt s).clips = s.clips := by unfold advance; split <;> rfl
@[simp] theorem advance_plan (dt : Nat) (s : State) : (advance dt s).plan = s.plan := by unfold advance; split <;> rfl
@[simp] theorem advance_radio (dt : Nat) (s : State) : (advance dt s).radio = s.radio := by unfold advance; split <;> rfl
@[simp] theorem advance_roster (dt : Nat) (s : State) : (advance dt s).roster = s.roster := by unfold advance; split <;> rfl

/-! handOver -/

@[simp] theorem State.handOver_pending (b : WaitingBody) (s : State) : (s.handOver b).pending = s.pending := by unfold State.handOver; split <;> rfl
@[simp] theorem State.handOver_loader (b : WaitingBody) (s : State) : (s.handOver b).loader = s.loader := by unfold State.handOver; split <;> rfl
@[simp] theorem State.handOver_timing (b : WaitingBody) (s : State) : (s.handOver b).timing = s.timing := by unfold State.handOver; split <;> rfl
@[simp] theorem State.handOver_peers (b : WaitingBody) (s : State) : (s.handOver b).peers = s.peers := by unfold State.handOver; split <;> rfl
@[simp] theorem State.handOver_pm (b : WaitingBody) (s : State) : (s.handOver b).pm = s.pm := by unfold State.handOver; split <;> rfl
@[simp] theorem State.handOver_link (b : WaitingBody) (s : State) : (s.handOver b).link = s.link := by unfold State.handOver; split <;> rfl
@[simp] theorem State.handOver_show (b : WaitingBody) (s : State) : (s.handOver b).show_ = s.show_ := by unfold State.handOver; split <;> rfl
@[simp] theorem State.handOver_cues (b : WaitingBody) (s : State) : (s.handOver b).cues = s.cues := by unfold State.handOver; split <;> rfl
@[simp] theorem State.handOver_clips (b : WaitingBody) (s : State) : (s.handOver b).clips = s.clips := by unfold State.handOver; split <;> rfl
@[simp] theorem State.handOver_plan (b : WaitingBody) (s : State) : (s.handOver b).plan = s.plan := by unfold State.handOver; split <;> rfl
@[simp] theorem State.handOver_radio (b : WaitingBody) (s : State) : (s.handOver b).radio = s.radio := by unfold State.handOver; split <;> rfl
@[simp] theorem State.handOver_roster (b : WaitingBody) (s : State) : (s.handOver b).roster = s.roster := by unfold State.handOver; split <;> rfl

/-! issueClaim -/

@[simp] theorem State.issueClaim_pending (p : Position) (s : State) : (s.issueClaim p).pending = s.pending := by simp [State.issueClaim]
@[simp] theorem State.issueClaim_loader (p : Position) (s : State) : (s.issueClaim p).loader = s.loader := by simp [State.issueClaim]
@[simp] theorem State.issueClaim_timing (p : Position) (s : State) : (s.issueClaim p).timing = s.timing := by simp [State.issueClaim]
@[simp] theorem State.issueClaim_peers (p : Position) (s : State) : (s.issueClaim p).peers = s.peers := by simp [State.issueClaim]
@[simp] theorem State.issueClaim_link (p : Position) (s : State) : (s.issueClaim p).link = s.link := by simp [State.issueClaim]
@[simp] theorem State.issueClaim_show (p : Position) (s : State) : (s.issueClaim p).show_ = s.show_ := by simp [State.issueClaim]
@[simp] theorem State.issueClaim_cues (p : Position) (s : State) : (s.issueClaim p).cues = s.cues := by simp [State.issueClaim]
@[simp] theorem State.issueClaim_clips (p : Position) (s : State) : (s.issueClaim p).clips = s.clips := by simp [State.issueClaim]
@[simp] theorem State.issueClaim_plan (p : Position) (s : State) : (s.issueClaim p).plan = s.plan := by simp [State.issueClaim]
@[simp] theorem State.issueClaim_radio (p : Position) (s : State) : (s.issueClaim p).radio = s.radio := by simp [State.issueClaim]
@[simp] theorem State.issueClaim_roster (p : Position) (s : State) : (s.issueClaim p).roster = s.roster := by simp [State.issueClaim]

/-! claimAttempt -/

@[simp] theorem State.claimAttempt_pending (s : State) : (s.claimAttempt).pending = s.pending := by unfold State.claimAttempt; split <;> (try split) <;> simp
@[simp] theorem State.claimAttempt_loader (s : State) : (s.claimAttempt).loader = s.loader := by unfold State.claimAttempt; split <;> (try split) <;> simp
@[simp] theorem State.claimAttempt_timing (s : State) : (s.claimAttempt).timing = s.timing := by unfold State.claimAttempt; split <;> (try split) <;> simp
@[simp] theorem State.claimAttempt_peers (s : State) : (s.claimAttempt).peers = s.peers := by unfold State.claimAttempt; split <;> (try split) <;> simp
@[simp] theorem State.claimAttempt_link (s : State) : (s.claimAttempt).link = s.link := by unfold State.claimAttempt; split <;> (try split) <;> simp
@[simp] theorem State.claimAttempt_show (s : State) : (s.claimAttempt).show_ = s.show_ := by unfold State.claimAttempt; split <;> (try split) <;> simp
@[simp] theorem State.claimAttempt_cues (s : State) : (s.claimAttempt).cues = s.cues := by unfold State.claimAttempt; split <;> (try split) <;> simp
@[simp] theorem State.claimAttempt_clips (s : State) : (s.claimAttempt).clips = s.clips := by unfold State.claimAttempt; split <;> (try split) <;> simp
@[simp] theorem State.claimAttempt_plan (s : State) : (s.claimAttempt).plan = s.plan := by unfold State.claimAttempt; split <;> (try split) <;> simp
@[simp] theorem State.claimAttempt_radio (s : State) : (s.claimAttempt).radio = s.radio := by unfold State.claimAttempt; split <;> (try split) <;> simp
@[simp] theorem State.claimAttempt_roster (s : State) : (s.claimAttempt).roster = s.roster := by unfold State.claimAttempt; split <;> (try split) <;> simp

/-! abandonClaim -/

@[simp] theorem State.abandonClaim_pending (s : State) : (s.abandonClaim).pending = s.pending := by unfold State.abandonClaim; split <;> simp
@[simp] theorem State.abandonClaim_loader (s : State) : (s.abandonClaim).loader = s.loader := by unfold State.abandonClaim; split <;> simp
@[simp] theorem State.abandonClaim_timing (s : State) : (s.abandonClaim).timing = s.timing := by unfold State.abandonClaim; split <;> simp
@[simp] theorem State.abandonClaim_peers (s : State) : (s.abandonClaim).peers = s.peers := by unfold State.abandonClaim; split <;> simp
@[simp] theorem State.abandonClaim_link (s : State) : (s.abandonClaim).link = s.link := by unfold State.abandonClaim; split <;> simp
@[simp] theorem State.abandonClaim_show (s : State) : (s.abandonClaim).show_ = s.show_ := by unfold State.abandonClaim; split <;> simp
@[simp] theorem State.abandonClaim_cues (s : State) : (s.abandonClaim).cues = s.cues := by unfold State.abandonClaim; split <;> simp
@[simp] theorem State.abandonClaim_clips (s : State) : (s.abandonClaim).clips = s.clips := by unfold State.abandonClaim; split <;> simp
@[simp] theorem State.abandonClaim_plan (s : State) : (s.abandonClaim).plan = s.plan := by unfold State.abandonClaim; split <;> simp
@[simp] theorem State.abandonClaim_radio (s : State) : (s.abandonClaim).radio = s.radio := by unfold State.abandonClaim; split <;> simp
@[simp] theorem State.abandonClaim_roster (s : State) : (s.abandonClaim).roster = s.roster := by unfold State.abandonClaim; split <;> simp

/-! recomputeDemand -/

@[simp] theorem State.recomputeDemand_pending (s : State) : (s.recomputeDemand).pending = s.pending := by unfold State.recomputeDemand; simp only []; split <;> simp
@[simp] theorem State.recomputeDemand_loader (s : State) : (s.recomputeDemand).loader = s.loader := by unfold State.recomputeDemand; simp only []; split <;> simp
@[simp] theorem State.recomputeDemand_timing (s : State) : (s.recomputeDemand).timing = s.timing := by unfold State.recomputeDemand; simp only []; split <;> simp
@[simp] theorem State.recomputeDemand_peers (s : State) : (s.recomputeDemand).peers = s.peers := by unfold State.recomputeDemand; simp only []; split <;> simp
@[simp] theorem State.recomputeDemand_link (s : State) : (s.recomputeDemand).link = s.link := by unfold State.recomputeDemand; simp only []; split <;> simp
@[simp] theorem State.recomputeDemand_show (s : State) : (s.recomputeDemand).show_ = s.show_ := by unfold State.recomputeDemand; simp only []; split <;> simp
@[simp] theorem State.recomputeDemand_cues (s : State) : (s.recomputeDemand).cues = s.cues := by unfold State.recomputeDemand; simp only []; split <;> simp
@[simp] theorem State.recomputeDemand_clips (s : State) : (s.recomputeDemand).clips = s.clips := by unfold State.recomputeDemand; simp only []; split <;> simp
@[simp] theorem State.recomputeDemand_plan (s : State) : (s.recomputeDemand).plan = s.plan := by unfold State.recomputeDemand; simp only []; split <;> simp
@[simp] theorem State.recomputeDemand_radio (s : State) : (s.recomputeDemand).radio = s.radio := by unfold State.recomputeDemand; simp only []; split <;> simp
@[simp] theorem State.recomputeDemand_roster (s : State) : (s.recomputeDemand).roster = s.roster := by unfold State.recomputeDemand; simp only []; split <;> simp

/-! countReport -/

@[simp] theorem State.countReport_pending (s : State) : (s.countReport).pending = s.pending := by simp [State.countReport]
@[simp] theorem State.countReport_loader (s : State) : (s.countReport).loader = s.loader := by simp [State.countReport]
@[simp] theorem State.countReport_timing (s : State) : (s.countReport).timing = s.timing := by simp [State.countReport]
@[simp] theorem State.countReport_peers (s : State) : (s.countReport).peers = s.peers := by simp [State.countReport]
@[simp] theorem State.countReport_link (s : State) : (s.countReport).link = s.link := by simp [State.countReport]
@[simp] theorem State.countReport_show (s : State) : (s.countReport).show_ = s.show_ := by simp [State.countReport]
@[simp] theorem State.countReport_cues (s : State) : (s.countReport).cues = s.cues := by simp [State.countReport]
@[simp] theorem State.countReport_clips (s : State) : (s.countReport).clips = s.clips := by simp [State.countReport]
@[simp] theorem State.countReport_plan (s : State) : (s.countReport).plan = s.plan := by simp [State.countReport]
@[simp] theorem State.countReport_radio (s : State) : (s.countReport).radio = s.radio := by simp [State.countReport]
@[simp] theorem State.countReport_roster (s : State) : (s.countReport).roster = s.roster := by simp [State.countReport]

/-! demandNewShow -/

@[simp] theorem State.demandNewShow_pending (s : State) : (s.demandNewShow).pending = s.pending := by simp [State.demandNewShow]
@[simp] theorem State.demandNewShow_loader (s : State) : (s.demandNewShow).loader = s.loader := by simp [State.demandNewShow]
@[simp] theorem State.demandNewShow_timing (s : State) : (s.demandNewShow).timing = s.timing := by simp [State.demandNewShow]
@[simp] theorem State.demandNewShow_peers (s : State) : (s.demandNewShow).peers = s.peers := by simp [State.demandNewShow]
@[simp] theorem State.demandNewShow_link (s : State) : (s.demandNewShow).link = s.link := by simp [State.demandNewShow]
@[simp] theorem State.demandNewShow_show (s : State) : (s.demandNewShow).show_ = s.show_ := by simp [State.demandNewShow]
@[simp] theorem State.demandNewShow_cues (s : State) : (s.demandNewShow).cues = s.cues := by simp [State.demandNewShow]
@[simp] theorem State.demandNewShow_clips (s : State) : (s.demandNewShow).clips = s.clips := by simp [State.demandNewShow]
@[simp] theorem State.demandNewShow_plan (s : State) : (s.demandNewShow).plan = s.plan := by simp [State.demandNewShow]
@[simp] theorem State.demandNewShow_radio (s : State) : (s.demandNewShow).radio = s.radio := by simp [State.demandNewShow]
@[simp] theorem State.demandNewShow_roster (s : State) : (s.demandNewShow).roster = s.roster := by simp [State.demandNewShow]

/-! need -/

@[simp] theorem State.need_pending (c : Option (Fin 8)) (s : State) : (s.need c).pending = s.pending := by unfold State.need; split <;> (try split) <;> rfl
@[simp] theorem State.need_loader (c : Option (Fin 8)) (s : State) : (s.need c).loader = s.loader := by unfold State.need; split <;> (try split) <;> rfl
@[simp] theorem State.need_timing (c : Option (Fin 8)) (s : State) : (s.need c).timing = s.timing := by unfold State.need; split <;> (try split) <;> rfl
@[simp] theorem State.need_line (c : Option (Fin 8)) (s : State) : (s.need c).line = s.line := by unfold State.need; split <;> (try split) <;> rfl
@[simp] theorem State.need_peers (c : Option (Fin 8)) (s : State) : (s.need c).peers = s.peers := by unfold State.need; split <;> (try split) <;> rfl
@[simp] theorem State.need_pm (c : Option (Fin 8)) (s : State) : (s.need c).pm = s.pm := by unfold State.need; split <;> (try split) <;> rfl
@[simp] theorem State.need_link (c : Option (Fin 8)) (s : State) : (s.need c).link = s.link := by unfold State.need; split <;> (try split) <;> rfl
@[simp] theorem State.need_show (c : Option (Fin 8)) (s : State) : (s.need c).show_ = s.show_ := by unfold State.need; split <;> (try split) <;> rfl
@[simp] theorem State.need_cues (c : Option (Fin 8)) (s : State) : (s.need c).cues = s.cues := by unfold State.need; split <;> (try split) <;> rfl
@[simp] theorem State.need_clips (c : Option (Fin 8)) (s : State) : (s.need c).clips = s.clips := by unfold State.need; split <;> (try split) <;> rfl
@[simp] theorem State.need_plan (c : Option (Fin 8)) (s : State) : (s.need c).plan = s.plan := by unfold State.need; split <;> (try split) <;> rfl
@[simp] theorem State.need_roster (c : Option (Fin 8)) (s : State) : (s.need c).roster = s.roster := by unfold State.need; split <;> (try split) <;> rfl

/-! retune -/

@[simp] theorem State.retune_pending (s : State) : (s.retune).pending = s.pending := by unfold State.retune; split <;> simp
@[simp] theorem State.retune_loader (s : State) : (s.retune).loader = s.loader := by unfold State.retune; split <;> simp
@[simp] theorem State.retune_timing (s : State) : (s.retune).timing = s.timing := by unfold State.retune; split <;> simp
@[simp] theorem State.retune_line (s : State) : (s.retune).line = s.line := by unfold State.retune; split <;> simp
@[simp] theorem State.retune_peers (s : State) : (s.retune).peers = s.peers := by unfold State.retune; split <;> simp
@[simp] theorem State.retune_pm (s : State) : (s.retune).pm = s.pm := by unfold State.retune; split <;> simp
@[simp] theorem State.retune_link (s : State) : (s.retune).link = s.link := by unfold State.retune; split <;> simp
@[simp] theorem State.retune_show (s : State) : (s.retune).show_ = s.show_ := by unfold State.retune; split <;> simp
@[simp] theorem State.retune_cues (s : State) : (s.retune).cues = s.cues := by unfold State.retune; split <;> simp
@[simp] theorem State.retune_clips (s : State) : (s.retune).clips = s.clips := by unfold State.retune; split <;> simp
@[simp] theorem State.retune_plan (s : State) : (s.retune).plan = s.plan := by unfold State.retune; split <;> simp
@[simp] theorem State.retune_roster (s : State) : (s.retune).roster = s.roster := by unfold State.retune; split <;> simp

/-! cancelBurst -/

@[simp] theorem State.cancelBurst_pending (p : Position) (s : State) : (s.cancelBurst p).pending = s.pending := by unfold State.cancelBurst; split <;> simp only [] <;> (try split) <;> simp
@[simp] theorem State.cancelBurst_loader (p : Position) (s : State) : (s.cancelBurst p).loader = s.loader := by unfold State.cancelBurst; split <;> simp only [] <;> (try split) <;> simp
@[simp] theorem State.cancelBurst_timing (p : Position) (s : State) : (s.cancelBurst p).timing = s.timing := by unfold State.cancelBurst; split <;> simp only [] <;> (try split) <;> simp
@[simp] theorem State.cancelBurst_line (p : Position) (s : State) : (s.cancelBurst p).line = s.line := by unfold State.cancelBurst; split <;> simp only [] <;> (try split) <;> simp
@[simp] theorem State.cancelBurst_peers (p : Position) (s : State) : (s.cancelBurst p).peers = s.peers := by unfold State.cancelBurst; split <;> simp only [] <;> (try split) <;> simp
@[simp] theorem State.cancelBurst_pm (p : Position) (s : State) : (s.cancelBurst p).pm = s.pm := by unfold State.cancelBurst; split <;> simp only [] <;> (try split) <;> simp
@[simp] theorem State.cancelBurst_link (p : Position) (s : State) : (s.cancelBurst p).link = s.link := by unfold State.cancelBurst; split <;> simp only [] <;> (try split) <;> simp
@[simp] theorem State.cancelBurst_show (p : Position) (s : State) : (s.cancelBurst p).show_ = s.show_ := by unfold State.cancelBurst; split <;> simp only [] <;> (try split) <;> simp
@[simp] theorem State.cancelBurst_cues (p : Position) (s : State) : (s.cancelBurst p).cues = s.cues := by unfold State.cancelBurst; split <;> simp only [] <;> (try split) <;> simp
@[simp] theorem State.cancelBurst_clips (p : Position) (s : State) : (s.cancelBurst p).clips = s.clips := by unfold State.cancelBurst; split <;> simp only [] <;> (try split) <;> simp
@[simp] theorem State.cancelBurst_roster (p : Position) (s : State) : (s.cancelBurst p).roster = s.roster := by unfold State.cancelBurst; split <;> simp only [] <;> (try split) <;> simp

/-! stopRadio -/

@[simp] theorem State.stopRadio_pending (s : State) : (s.stopRadio).pending = s.pending := by
  simp only [State.stopRadio]
  exact foldl_keeps State.pending _ (fun _ _ => by simp) _ _
@[simp] theorem State.stopRadio_loader (s : State) : (s.stopRadio).loader = s.loader := by
  simp only [State.stopRadio]
  exact foldl_keeps State.loader _ (fun _ _ => by simp) _ _
@[simp] theorem State.stopRadio_timing (s : State) : (s.stopRadio).timing = s.timing := by
  simp only [State.stopRadio]
  exact foldl_keeps State.timing _ (fun _ _ => by simp) _ _
@[simp] theorem State.stopRadio_line (s : State) : (s.stopRadio).line = s.line := by
  simp only [State.stopRadio]
  exact foldl_keeps State.line _ (fun _ _ => by simp) _ _
@[simp] theorem State.stopRadio_peers (s : State) : (s.stopRadio).peers = s.peers := by
  simp only [State.stopRadio]
  exact foldl_keeps State.peers _ (fun _ _ => by simp) _ _
@[simp] theorem State.stopRadio_pm (s : State) : (s.stopRadio).pm = s.pm := by
  simp only [State.stopRadio]
  exact foldl_keeps State.pm _ (fun _ _ => by simp) _ _
@[simp] theorem State.stopRadio_link (s : State) : (s.stopRadio).link = s.link := by
  simp only [State.stopRadio]
  exact foldl_keeps State.link _ (fun _ _ => by simp) _ _
@[simp] theorem State.stopRadio_show (s : State) : (s.stopRadio).show_ = s.show_ := by
  simp only [State.stopRadio]
  exact foldl_keeps State.show_ _ (fun _ _ => by simp) _ _
@[simp] theorem State.stopRadio_cues (s : State) : (s.stopRadio).cues = s.cues := by
  simp only [State.stopRadio]
  exact foldl_keeps State.cues _ (fun _ _ => by simp) _ _
@[simp] theorem State.stopRadio_clips (s : State) : (s.stopRadio).clips = s.clips := by
  simp only [State.stopRadio]
  exact foldl_keeps State.clips _ (fun _ _ => by simp) _ _
@[simp] theorem State.stopRadio_roster (s : State) : (s.stopRadio).roster = s.roster := by
  simp only [State.stopRadio]
  exact foldl_keeps State.roster _ (fun _ _ => by simp) _ _

/-! compose -/

@[simp] theorem State.compose_pending (s : State) : (s.compose).pending = s.pending := by unfold State.compose; simp only []; split <;> simp
@[simp] theorem State.compose_loader (s : State) : (s.compose).loader = s.loader := by unfold State.compose; simp only []; split <;> simp
@[simp] theorem State.compose_timing (s : State) : (s.compose).timing = s.timing := by unfold State.compose; simp only []; split <;> simp
@[simp] theorem State.compose_line (s : State) : (s.compose).line = s.line := by unfold State.compose; simp only []; split <;> simp
@[simp] theorem State.compose_peers (s : State) : (s.compose).peers = s.peers := by unfold State.compose; simp only []; split <;> simp
@[simp] theorem State.compose_pm (s : State) : (s.compose).pm = s.pm := by unfold State.compose; simp only []; split <;> simp
@[simp] theorem State.compose_show (s : State) : (s.compose).show_ = s.show_ := by unfold State.compose; simp only []; split <;> simp

/-! evictOnly -/

@[simp] theorem State.evictOnly_pending (h : Stamped) (s : State) : (s.evictOnly h).pending = s.pending := by simp [State.evictOnly]
@[simp] theorem State.evictOnly_loader (h : Stamped) (s : State) : (s.evictOnly h).loader = s.loader := by simp [State.evictOnly]
@[simp] theorem State.evictOnly_timing (h : Stamped) (s : State) : (s.evictOnly h).timing = s.timing := by simp [State.evictOnly]
@[simp] theorem State.evictOnly_peers (h : Stamped) (s : State) : (s.evictOnly h).peers = s.peers := by simp [State.evictOnly]
@[simp] theorem State.evictOnly_show (h : Stamped) (s : State) : (s.evictOnly h).show_ = s.show_ := by simp [State.evictOnly]
@[simp] theorem State.evictOnly_cues (h : Stamped) (s : State) : (s.evictOnly h).cues = s.cues := by simp [State.evictOnly]
@[simp] theorem State.evictOnly_clips (h : Stamped) (s : State) : (s.evictOnly h).clips = s.clips := by simp [State.evictOnly]
@[simp] theorem State.evictOnly_roster (h : Stamped) (s : State) : (s.evictOnly h).roster = s.roster := by simp [State.evictOnly]

/-! evictWhere -/

@[simp] theorem State.evictWhere_pending (f : Stamped → Bool) (s : State) : (s.evictWhere f).pending = s.pending := by
  simp only [State.evictWhere]
  split
  · rfl
  · simp [foldl_keeps State.pending (fun s h => s.evictOnly h) (fun _ _ => by simp)]
@[simp] theorem State.evictWhere_loader (f : Stamped → Bool) (s : State) : (s.evictWhere f).loader = s.loader := by
  simp only [State.evictWhere]
  split
  · rfl
  · simp [foldl_keeps State.loader (fun s h => s.evictOnly h) (fun _ _ => by simp)]
@[simp] theorem State.evictWhere_timing (f : Stamped → Bool) (s : State) : (s.evictWhere f).timing = s.timing := by
  simp only [State.evictWhere]
  split
  · rfl
  · simp [foldl_keeps State.timing (fun s h => s.evictOnly h) (fun _ _ => by simp)]
@[simp] theorem State.evictWhere_peers (f : Stamped → Bool) (s : State) : (s.evictWhere f).peers = s.peers := by
  simp only [State.evictWhere]
  split
  · rfl
  · simp [foldl_keeps State.peers (fun s h => s.evictOnly h) (fun _ _ => by simp)]
@[simp] theorem State.evictWhere_show (f : Stamped → Bool) (s : State) : (s.evictWhere f).show_ = s.show_ := by
  simp only [State.evictWhere]
  split
  · rfl
  · simp [foldl_keeps State.show_ (fun s h => s.evictOnly h) (fun _ _ => by simp)]
@[simp] theorem State.evictWhere_cues (f : Stamped → Bool) (s : State) : (s.evictWhere f).cues = s.cues := by
  simp only [State.evictWhere]
  split
  · rfl
  · simp [foldl_keeps State.cues (fun s h => s.evictOnly h) (fun _ _ => by simp)]
@[simp] theorem State.evictWhere_clips (f : Stamped → Bool) (s : State) : (s.evictWhere f).clips = s.clips := by
  simp only [State.evictWhere]
  split
  · rfl
  · simp [foldl_keeps State.clips (fun s h => s.evictOnly h) (fun _ _ => by simp)]
@[simp] theorem State.evictWhere_roster (f : Stamped → Bool) (s : State) : (s.evictWhere f).roster = s.roster := by
  simp only [State.evictWhere]
  split
  · rfl
  · simp [foldl_keeps State.roster (fun s h => s.evictOnly h) (fun _ _ => by simp)]

/-! releaseHolding -/

@[simp] theorem State.releaseHolding_pending (h : Stamped) (s : State) : (s.releaseHolding h).pending = s.pending := by simp [State.releaseHolding]
@[simp] theorem State.releaseHolding_loader (h : Stamped) (s : State) : (s.releaseHolding h).loader = s.loader := by simp [State.releaseHolding]
@[simp] theorem State.releaseHolding_timing (h : Stamped) (s : State) : (s.releaseHolding h).timing = s.timing := by simp [State.releaseHolding]
@[simp] theorem State.releaseHolding_peers (h : Stamped) (s : State) : (s.releaseHolding h).peers = s.peers := by simp [State.releaseHolding]
@[simp] theorem State.releaseHolding_link (h : Stamped) (s : State) : (s.releaseHolding h).link = s.link := by simp [State.releaseHolding]
@[simp] theorem State.releaseHolding_show (h : Stamped) (s : State) : (s.releaseHolding h).show_ = s.show_ := by simp [State.releaseHolding]
@[simp] theorem State.releaseHolding_cues (h : Stamped) (s : State) : (s.releaseHolding h).cues = s.cues := by simp [State.releaseHolding]
@[simp] theorem State.releaseHolding_clips (h : Stamped) (s : State) : (s.releaseHolding h).clips = s.clips := by simp [State.releaseHolding]
@[simp] theorem State.releaseHolding_plan (h : Stamped) (s : State) : (s.releaseHolding h).plan = s.plan := by simp [State.releaseHolding]
@[simp] theorem State.releaseHolding_radio (h : Stamped) (s : State) : (s.releaseHolding h).radio = s.radio := by simp [State.releaseHolding]
@[simp] theorem State.releaseHolding_roster (h : Stamped) (s : State) : (s.releaseHolding h).roster = s.roster := by simp [State.releaseHolding]

/-! releaseAtZero -/

@[simp] theorem State.releaseAtZero_pending (s : State) : (s.releaseAtZero).pending = s.pending := by
  simp only [State.releaseAtZero]
  split
  · exact foldl_keeps State.pending (fun s h => s.releaseHolding h) (fun _ _ => by simp) _ _
  · rfl
@[simp] theorem State.releaseAtZero_loader (s : State) : (s.releaseAtZero).loader = s.loader := by
  simp only [State.releaseAtZero]
  split
  · exact foldl_keeps State.loader (fun s h => s.releaseHolding h) (fun _ _ => by simp) _ _
  · rfl
@[simp] theorem State.releaseAtZero_timing (s : State) : (s.releaseAtZero).timing = s.timing := by
  simp only [State.releaseAtZero]
  split
  · exact foldl_keeps State.timing (fun s h => s.releaseHolding h) (fun _ _ => by simp) _ _
  · rfl
@[simp] theorem State.releaseAtZero_peers (s : State) : (s.releaseAtZero).peers = s.peers := by
  simp only [State.releaseAtZero]
  split
  · exact foldl_keeps State.peers (fun s h => s.releaseHolding h) (fun _ _ => by simp) _ _
  · rfl
@[simp] theorem State.releaseAtZero_link (s : State) : (s.releaseAtZero).link = s.link := by
  simp only [State.releaseAtZero]
  split
  · exact foldl_keeps State.link (fun s h => s.releaseHolding h) (fun _ _ => by simp) _ _
  · rfl
@[simp] theorem State.releaseAtZero_show (s : State) : (s.releaseAtZero).show_ = s.show_ := by
  simp only [State.releaseAtZero]
  split
  · exact foldl_keeps State.show_ (fun s h => s.releaseHolding h) (fun _ _ => by simp) _ _
  · rfl
@[simp] theorem State.releaseAtZero_cues (s : State) : (s.releaseAtZero).cues = s.cues := by
  simp only [State.releaseAtZero]
  split
  · exact foldl_keeps State.cues (fun s h => s.releaseHolding h) (fun _ _ => by simp) _ _
  · rfl
@[simp] theorem State.releaseAtZero_clips (s : State) : (s.releaseAtZero).clips = s.clips := by
  simp only [State.releaseAtZero]
  split
  · exact foldl_keeps State.clips (fun s h => s.releaseHolding h) (fun _ _ => by simp) _ _
  · rfl
@[simp] theorem State.releaseAtZero_plan (s : State) : (s.releaseAtZero).plan = s.plan := by
  simp only [State.releaseAtZero]
  split
  · exact foldl_keeps State.plan (fun s h => s.releaseHolding h) (fun _ _ => by simp) _ _
  · rfl
@[simp] theorem State.releaseAtZero_radio (s : State) : (s.releaseAtZero).radio = s.radio := by
  simp only [State.releaseAtZero]
  split
  · exact foldl_keeps State.radio (fun s h => s.releaseHolding h) (fun _ _ => by simp) _ _
  · rfl
@[simp] theorem State.releaseAtZero_roster (s : State) : (s.releaseAtZero).roster = s.roster := by
  simp only [State.releaseAtZero]
  split
  · exact foldl_keeps State.roster (fun s h => s.releaseHolding h) (fun _ _ => by simp) _ _
  · rfl

/-! holdDownTick -/

@[simp] theorem State.holdDownTick_pending (f : FrameNo) (s : State) : (s.holdDownTick f).pending = s.pending := by unfold State.holdDownTick; split <;> rfl
@[simp] theorem State.holdDownTick_loader (f : FrameNo) (s : State) : (s.holdDownTick f).loader = s.loader := by unfold State.holdDownTick; split <;> rfl
@[simp] theorem State.holdDownTick_timing (f : FrameNo) (s : State) : (s.holdDownTick f).timing = s.timing := by unfold State.holdDownTick; split <;> rfl
@[simp] theorem State.holdDownTick_line (f : FrameNo) (s : State) : (s.holdDownTick f).line = s.line := by unfold State.holdDownTick; split <;> rfl
@[simp] theorem State.holdDownTick_peers (f : FrameNo) (s : State) : (s.holdDownTick f).peers = s.peers := by unfold State.holdDownTick; split <;> rfl
@[simp] theorem State.holdDownTick_link (f : FrameNo) (s : State) : (s.holdDownTick f).link = s.link := by unfold State.holdDownTick; split <;> rfl
@[simp] theorem State.holdDownTick_show (f : FrameNo) (s : State) : (s.holdDownTick f).show_ = s.show_ := by unfold State.holdDownTick; split <;> rfl
@[simp] theorem State.holdDownTick_cues (f : FrameNo) (s : State) : (s.holdDownTick f).cues = s.cues := by unfold State.holdDownTick; split <;> rfl
@[simp] theorem State.holdDownTick_clips (f : FrameNo) (s : State) : (s.holdDownTick f).clips = s.clips := by unfold State.holdDownTick; split <;> rfl
@[simp] theorem State.holdDownTick_plan (f : FrameNo) (s : State) : (s.holdDownTick f).plan = s.plan := by unfold State.holdDownTick; split <;> rfl
@[simp] theorem State.holdDownTick_radio (f : FrameNo) (s : State) : (s.holdDownTick f).radio = s.radio := by unfold State.holdDownTick; split <;> rfl
@[simp] theorem State.holdDownTick_roster (f : FrameNo) (s : State) : (s.holdDownTick f).roster = s.roster := by unfold State.holdDownTick; split <;> rfl

/-! tickAttempt -/

@[simp] theorem State.tickAttempt_pending (s : State) : (s.tickAttempt).pending = s.pending := by simp [State.tickAttempt]
@[simp] theorem State.tickAttempt_loader (s : State) : (s.tickAttempt).loader = s.loader := by simp [State.tickAttempt]
@[simp] theorem State.tickAttempt_timing (s : State) : (s.tickAttempt).timing = s.timing := by simp [State.tickAttempt]
@[simp] theorem State.tickAttempt_peers (s : State) : (s.tickAttempt).peers = s.peers := by simp [State.tickAttempt]
@[simp] theorem State.tickAttempt_link (s : State) : (s.tickAttempt).link = s.link := by simp [State.tickAttempt]
@[simp] theorem State.tickAttempt_show (s : State) : (s.tickAttempt).show_ = s.show_ := by simp [State.tickAttempt]
@[simp] theorem State.tickAttempt_cues (s : State) : (s.tickAttempt).cues = s.cues := by simp [State.tickAttempt]
@[simp] theorem State.tickAttempt_clips (s : State) : (s.tickAttempt).clips = s.clips := by simp [State.tickAttempt]
@[simp] theorem State.tickAttempt_plan (s : State) : (s.tickAttempt).plan = s.plan := by simp [State.tickAttempt]
@[simp] theorem State.tickAttempt_radio (s : State) : (s.tickAttempt).radio = s.radio := by simp [State.tickAttempt]
@[simp] theorem State.tickAttempt_roster (s : State) : (s.tickAttempt).roster = s.roster := by simp [State.tickAttempt]

/-! owedTick -/

@[simp] theorem State.owedTick_pending (s : State) : (s.owedTick).pending = s.pending := by unfold State.owedTick; split <;> simp
@[simp] theorem State.owedTick_loader (s : State) : (s.owedTick).loader = s.loader := by unfold State.owedTick; split <;> simp
@[simp] theorem State.owedTick_timing (s : State) : (s.owedTick).timing = s.timing := by unfold State.owedTick; split <;> simp
@[simp] theorem State.owedTick_peers (s : State) : (s.owedTick).peers = s.peers := by unfold State.owedTick; split <;> simp
@[simp] theorem State.owedTick_link (s : State) : (s.owedTick).link = s.link := by unfold State.owedTick; split <;> simp
@[simp] theorem State.owedTick_show (s : State) : (s.owedTick).show_ = s.show_ := by unfold State.owedTick; split <;> simp
@[simp] theorem State.owedTick_cues (s : State) : (s.owedTick).cues = s.cues := by unfold State.owedTick; split <;> simp
@[simp] theorem State.owedTick_clips (s : State) : (s.owedTick).clips = s.clips := by unfold State.owedTick; split <;> simp
@[simp] theorem State.owedTick_plan (s : State) : (s.owedTick).plan = s.plan := by unfold State.owedTick; split <;> simp
@[simp] theorem State.owedTick_radio (s : State) : (s.owedTick).radio = s.radio := by unfold State.owedTick; split <;> simp
@[simp] theorem State.owedTick_roster (s : State) : (s.owedTick).roster = s.roster := by unfold State.owedTick; split <;> simp

/-! managerBoundary -/

@[simp] theorem State.managerBoundary_pending (f : FrameNo) (s : State) : (s.managerBoundary f).pending = s.pending := by unfold State.managerBoundary; split <;> simp only [] <;> (try split) <;> (try split) <;> simp
@[simp] theorem State.managerBoundary_loader (f : FrameNo) (s : State) : (s.managerBoundary f).loader = s.loader := by unfold State.managerBoundary; split <;> simp only [] <;> (try split) <;> (try split) <;> simp
@[simp] theorem State.managerBoundary_timing (f : FrameNo) (s : State) : (s.managerBoundary f).timing = s.timing := by unfold State.managerBoundary; split <;> simp only [] <;> (try split) <;> (try split) <;> simp
@[simp] theorem State.managerBoundary_peers (f : FrameNo) (s : State) : (s.managerBoundary f).peers = s.peers := by unfold State.managerBoundary; split <;> simp only [] <;> (try split) <;> (try split) <;> simp
@[simp] theorem State.managerBoundary_link (f : FrameNo) (s : State) : (s.managerBoundary f).link = s.link := by unfold State.managerBoundary; split <;> simp only [] <;> (try split) <;> (try split) <;> simp
@[simp] theorem State.managerBoundary_show (f : FrameNo) (s : State) : (s.managerBoundary f).show_ = s.show_ := by unfold State.managerBoundary; split <;> simp only [] <;> (try split) <;> (try split) <;> simp
@[simp] theorem State.managerBoundary_cues (f : FrameNo) (s : State) : (s.managerBoundary f).cues = s.cues := by unfold State.managerBoundary; split <;> simp only [] <;> (try split) <;> (try split) <;> simp
@[simp] theorem State.managerBoundary_clips (f : FrameNo) (s : State) : (s.managerBoundary f).clips = s.clips := by unfold State.managerBoundary; split <;> simp only [] <;> (try split) <;> (try split) <;> simp
@[simp] theorem State.managerBoundary_plan (f : FrameNo) (s : State) : (s.managerBoundary f).plan = s.plan := by unfold State.managerBoundary; split <;> simp only [] <;> (try split) <;> (try split) <;> simp
@[simp] theorem State.managerBoundary_radio (f : FrameNo) (s : State) : (s.managerBoundary f).radio = s.radio := by unfold State.managerBoundary; split <;> simp only [] <;> (try split) <;> (try split) <;> simp
@[simp] theorem State.managerBoundary_roster (f : FrameNo) (s : State) : (s.managerBoundary f).roster = s.roster := by unfold State.managerBoundary; split <;> simp only [] <;> (try split) <;> (try split) <;> simp

/-! managerFirst -/

@[simp] theorem State.managerFirst_pending (f : FrameNo) (s : State) : (s.managerFirst f).pending = s.pending := by simp [State.managerFirst]
@[simp] theorem State.managerFirst_loader (f : FrameNo) (s : State) : (s.managerFirst f).loader = s.loader := by simp [State.managerFirst]
@[simp] theorem State.managerFirst_timing (f : FrameNo) (s : State) : (s.managerFirst f).timing = s.timing := by simp [State.managerFirst]
@[simp] theorem State.managerFirst_peers (f : FrameNo) (s : State) : (s.managerFirst f).peers = s.peers := by simp [State.managerFirst]
@[simp] theorem State.managerFirst_link (f : FrameNo) (s : State) : (s.managerFirst f).link = s.link := by simp [State.managerFirst]
@[simp] theorem State.managerFirst_show (f : FrameNo) (s : State) : (s.managerFirst f).show_ = s.show_ := by simp [State.managerFirst]
@[simp] theorem State.managerFirst_cues (f : FrameNo) (s : State) : (s.managerFirst f).cues = s.cues := by simp [State.managerFirst]
@[simp] theorem State.managerFirst_clips (f : FrameNo) (s : State) : (s.managerFirst f).clips = s.clips := by simp [State.managerFirst]
@[simp] theorem State.managerFirst_plan (f : FrameNo) (s : State) : (s.managerFirst f).plan = s.plan := by simp [State.managerFirst]
@[simp] theorem State.managerFirst_radio (f : FrameNo) (s : State) : (s.managerFirst f).radio = s.radio := by simp [State.managerFirst]
@[simp] theorem State.managerFirst_roster (f : FrameNo) (s : State) : (s.managerFirst f).roster = s.roster := by simp [State.managerFirst]

/-! enterClaim -/

@[simp] theorem State.enterClaim_pending (s : State) : (s.enterClaim).pending = s.pending := by unfold State.enterClaim; split <;> simp
@[simp] theorem State.enterClaim_loader (s : State) : (s.enterClaim).loader = s.loader := by unfold State.enterClaim; split <;> simp
@[simp] theorem State.enterClaim_timing (s : State) : (s.enterClaim).timing = s.timing := by unfold State.enterClaim; split <;> simp
@[simp] theorem State.enterClaim_peers (s : State) : (s.enterClaim).peers = s.peers := by unfold State.enterClaim; split <;> simp
@[simp] theorem State.enterClaim_show (s : State) : (s.enterClaim).show_ = s.show_ := by unfold State.enterClaim; split <;> simp
@[simp] theorem State.enterClaim_cues (s : State) : (s.enterClaim).cues = s.cues := by unfold State.enterClaim; split <;> simp
@[simp] theorem State.enterClaim_clips (s : State) : (s.enterClaim).clips = s.clips := by unfold State.enterClaim; split <;> simp
@[simp] theorem State.enterClaim_roster (s : State) : (s.enterClaim).roster = s.roster := by unfold State.enterClaim; split <;> simp

/-! managerAdopt -/

@[simp] theorem State.managerAdopt_pending (d : FrameNo) (s : State) : (s.managerAdopt d).pending = s.pending := by simp [State.managerAdopt]
@[simp] theorem State.managerAdopt_loader (d : FrameNo) (s : State) : (s.managerAdopt d).loader = s.loader := by simp [State.managerAdopt]
@[simp] theorem State.managerAdopt_timing (d : FrameNo) (s : State) : (s.managerAdopt d).timing = s.timing := by simp [State.managerAdopt]
@[simp] theorem State.managerAdopt_peers (d : FrameNo) (s : State) : (s.managerAdopt d).peers = s.peers := by simp [State.managerAdopt]
@[simp] theorem State.managerAdopt_link (d : FrameNo) (s : State) : (s.managerAdopt d).link = s.link := by simp [State.managerAdopt]
@[simp] theorem State.managerAdopt_show (d : FrameNo) (s : State) : (s.managerAdopt d).show_ = s.show_ := by simp [State.managerAdopt]
@[simp] theorem State.managerAdopt_cues (d : FrameNo) (s : State) : (s.managerAdopt d).cues = s.cues := by simp [State.managerAdopt]
@[simp] theorem State.managerAdopt_clips (d : FrameNo) (s : State) : (s.managerAdopt d).clips = s.clips := by simp [State.managerAdopt]
@[simp] theorem State.managerAdopt_plan (d : FrameNo) (s : State) : (s.managerAdopt d).plan = s.plan := by simp [State.managerAdopt]
@[simp] theorem State.managerAdopt_radio (d : FrameNo) (s : State) : (s.managerAdopt d).radio = s.radio := by simp [State.managerAdopt]
@[simp] theorem State.managerAdopt_roster (d : FrameNo) (s : State) : (s.managerAdopt d).roster = s.roster := by simp [State.managerAdopt]

/-! setTiming -/

@[simp] theorem State.setTiming_pending (t : Timing) (s : State) : (s.setTiming t).pending = s.pending := by unfold State.setTiming; simp only []; split <;> simp
@[simp] theorem State.setTiming_loader (t : Timing) (s : State) : (s.setTiming t).loader = s.loader := by unfold State.setTiming; simp only []; split <;> simp
@[simp] theorem State.setTiming_peers (t : Timing) (s : State) : (s.setTiming t).peers = s.peers := by unfold State.setTiming; simp only []; split <;> simp
@[simp] theorem State.setTiming_link (t : Timing) (s : State) : (s.setTiming t).link = s.link := by unfold State.setTiming; simp only []; split <;> simp
@[simp] theorem State.setTiming_show (t : Timing) (s : State) : (s.setTiming t).show_ = s.show_ := by unfold State.setTiming; simp only []; split <;> simp
@[simp] theorem State.setTiming_cues (t : Timing) (s : State) : (s.setTiming t).cues = s.cues := by unfold State.setTiming; simp only []; split <;> simp
@[simp] theorem State.setTiming_clips (t : Timing) (s : State) : (s.setTiming t).clips = s.clips := by unfold State.setTiming; simp only []; split <;> simp
@[simp] theorem State.setTiming_plan (t : Timing) (s : State) : (s.setTiming t).plan = s.plan := by unfold State.setTiming; simp only []; split <;> simp
@[simp] theorem State.setTiming_radio (t : Timing) (s : State) : (s.setTiming t).radio = s.radio := by unfold State.setTiming; simp only []; split <;> simp
@[simp] theorem State.setTiming_roster (t : Timing) (s : State) : (s.setTiming t).roster = s.roster := by unfold State.setTiming; simp only []; split <;> simp

/-! reviewTiming -/

@[simp] theorem State.reviewTiming_pending (s : State) : (s.reviewTiming).pending = s.pending := by simp [State.reviewTiming]
@[simp] theorem State.reviewTiming_loader (s : State) : (s.reviewTiming).loader = s.loader := by simp [State.reviewTiming]
@[simp] theorem State.reviewTiming_peers (s : State) : (s.reviewTiming).peers = s.peers := by simp [State.reviewTiming]
@[simp] theorem State.reviewTiming_link (s : State) : (s.reviewTiming).link = s.link := by simp [State.reviewTiming]
@[simp] theorem State.reviewTiming_show (s : State) : (s.reviewTiming).show_ = s.show_ := by simp [State.reviewTiming]
@[simp] theorem State.reviewTiming_cues (s : State) : (s.reviewTiming).cues = s.cues := by simp [State.reviewTiming]
@[simp] theorem State.reviewTiming_clips (s : State) : (s.reviewTiming).clips = s.clips := by simp [State.reviewTiming]
@[simp] theorem State.reviewTiming_plan (s : State) : (s.reviewTiming).plan = s.plan := by simp [State.reviewTiming]
@[simp] theorem State.reviewTiming_radio (s : State) : (s.reviewTiming).radio = s.radio := by simp [State.reviewTiming]
@[simp] theorem State.reviewTiming_roster (s : State) : (s.reviewTiming).roster = s.roster := by simp [State.reviewTiming]

/-! scheduleAnnounce -/

@[simp] theorem State.scheduleAnnounce_pending (s : State) : (s.scheduleAnnounce).pending = s.pending := by unfold State.scheduleAnnounce; split <;> simp
@[simp] theorem State.scheduleAnnounce_loader (s : State) : (s.scheduleAnnounce).loader = s.loader := by unfold State.scheduleAnnounce; split <;> simp
@[simp] theorem State.scheduleAnnounce_timing (s : State) : (s.scheduleAnnounce).timing = s.timing := by unfold State.scheduleAnnounce; split <;> simp
@[simp] theorem State.scheduleAnnounce_peers (s : State) : (s.scheduleAnnounce).peers = s.peers := by unfold State.scheduleAnnounce; split <;> simp
@[simp] theorem State.scheduleAnnounce_pm (s : State) : (s.scheduleAnnounce).pm = s.pm := by unfold State.scheduleAnnounce; split <;> simp
@[simp] theorem State.scheduleAnnounce_link (s : State) : (s.scheduleAnnounce).link = s.link := by unfold State.scheduleAnnounce; split <;> simp
@[simp] theorem State.scheduleAnnounce_show (s : State) : (s.scheduleAnnounce).show_ = s.show_ := by unfold State.scheduleAnnounce; split <;> simp
@[simp] theorem State.scheduleAnnounce_cues (s : State) : (s.scheduleAnnounce).cues = s.cues := by unfold State.scheduleAnnounce; split <;> simp
@[simp] theorem State.scheduleAnnounce_clips (s : State) : (s.scheduleAnnounce).clips = s.clips := by unfold State.scheduleAnnounce; split <;> simp
@[simp] theorem State.scheduleAnnounce_plan (s : State) : (s.scheduleAnnounce).plan = s.plan := by unfold State.scheduleAnnounce; split <;> simp
@[simp] theorem State.scheduleAnnounce_radio (s : State) : (s.scheduleAnnounce).radio = s.radio := by unfold State.scheduleAnnounce; split <;> simp
@[simp] theorem State.scheduleAnnounce_roster (s : State) : (s.scheduleAnnounce).roster = s.roster := by unfold State.scheduleAnnounce; split <;> simp

/-! boundaryWork -/

@[simp] theorem State.boundaryWork_pending (r q : Bool) (s : State) : (s.boundaryWork r q).pending = s.pending := by unfold State.boundaryWork; simp only []; (repeat' split) <;> simp
@[simp] theorem State.boundaryWork_loader (r q : Bool) (s : State) : (s.boundaryWork r q).loader = s.loader := by unfold State.boundaryWork; simp only []; (repeat' split) <;> simp
@[simp] theorem State.boundaryWork_timing (r q : Bool) (s : State) : (s.boundaryWork r q).timing = s.timing := by unfold State.boundaryWork; simp only []; (repeat' split) <;> simp
@[simp] theorem State.boundaryWork_peers (r q : Bool) (s : State) : (s.boundaryWork r q).peers = s.peers := by unfold State.boundaryWork; simp only []; (repeat' split) <;> simp
@[simp] theorem State.boundaryWork_show (r q : Bool) (s : State) : (s.boundaryWork r q).show_ = s.show_ := by unfold State.boundaryWork; simp only []; (repeat' split) <;> simp

/-! adopt -/

@[simp] theorem State.adopt_pending (r : Bool) (s : State) : (s.adopt r).pending = s.pending := by unfold State.adopt; simp only []; (repeat' split) <;> simp
@[simp] theorem State.adopt_loader (r : Bool) (s : State) : (s.adopt r).loader = s.loader := by unfold State.adopt; simp only []; (repeat' split) <;> simp
@[simp] theorem State.adopt_show (r : Bool) (s : State) : (s.adopt r).show_ = s.show_ := by unfold State.adopt; simp only []; (repeat' split) <;> simp

/-! enterListen -/

@[simp] theorem State.enterListen_pending (c : ConfigImage) (s : State) : (s.enterListen c).pending = s.pending := by simp [State.enterListen]
@[simp] theorem State.enterListen_line (c : ConfigImage) (s : State) : (s.enterListen c).line = s.line := by simp [State.enterListen]
@[simp] theorem State.enterListen_peers (c : ConfigImage) (s : State) : (s.enterListen c).peers = s.peers := by simp [State.enterListen]
@[simp] theorem State.enterListen_pm (c : ConfigImage) (s : State) : (s.enterListen c).pm = s.pm := by simp [State.enterListen]
@[simp] theorem State.enterListen_show (c : ConfigImage) (s : State) : (s.enterListen c).show_ = s.show_ := by simp [State.enterListen]
@[simp] theorem State.enterListen_cues (c : ConfigImage) (s : State) : (s.enterListen c).cues = s.cues := by simp [State.enterListen]
@[simp] theorem State.enterListen_clips (c : ConfigImage) (s : State) : (s.enterListen c).clips = s.clips := by simp [State.enterListen]
@[simp] theorem State.enterListen_plan (c : ConfigImage) (s : State) : (s.enterListen c).plan = s.plan := by simp [State.enterListen]
@[simp] theorem State.enterListen_radio (c : ConfigImage) (s : State) : (s.enterListen c).radio = s.radio := by simp [State.enterListen]

/-! leaveJoined -/

@[simp] theorem State.leaveJoined_pending (s : State) : (s.leaveJoined).pending = s.pending := by simp [State.leaveJoined]
@[simp] theorem State.leaveJoined_loader (s : State) : (s.leaveJoined).loader = s.loader := by simp [State.leaveJoined]
@[simp] theorem State.leaveJoined_timing (s : State) : (s.leaveJoined).timing = s.timing := by simp [State.leaveJoined]
@[simp] theorem State.leaveJoined_peers (s : State) : (s.leaveJoined).peers = s.peers := by simp [State.leaveJoined]
@[simp] theorem State.leaveJoined_link (s : State) : (s.leaveJoined).link = s.link := by simp [State.leaveJoined]
@[simp] theorem State.leaveJoined_show (s : State) : (s.leaveJoined).show_ = s.show_ := by simp [State.leaveJoined]
@[simp] theorem State.leaveJoined_cues (s : State) : (s.leaveJoined).cues = s.cues := by simp [State.leaveJoined]
@[simp] theorem State.leaveJoined_clips (s : State) : (s.leaveJoined).clips = s.clips := by simp [State.leaveJoined]
@[simp] theorem State.leaveJoined_roster (s : State) : (s.leaveJoined).roster = s.roster := by simp [State.leaveJoined]

/-! ownNumberHeard -/

@[simp] theorem State.ownNumberHeard_pending (s : State) : (s.ownNumberHeard).pending = s.pending := by unfold State.ownNumberHeard; split <;> simp
@[simp] theorem State.ownNumberHeard_peers (s : State) : (s.ownNumberHeard).peers = s.peers := by unfold State.ownNumberHeard; split <;> simp
@[simp] theorem State.ownNumberHeard_show (s : State) : (s.ownNumberHeard).show_ = s.show_ := by unfold State.ownNumberHeard; split <;> simp
@[simp] theorem State.ownNumberHeard_cues (s : State) : (s.ownNumberHeard).cues = s.cues := by unfold State.ownNumberHeard; split <;> simp
@[simp] theorem State.ownNumberHeard_clips (s : State) : (s.ownNumberHeard).clips = s.clips := by unfold State.ownNumberHeard; split <;> simp
@[simp] theorem State.ownNumberHeard_roster (s : State) : (s.ownNumberHeard).roster = s.roster := by unfold State.ownNumberHeard; split <;> simp

/-! frameBoundary -/

@[simp] theorem State.frameBoundary_pending (r : Bool) (s : State) : (s.frameBoundary r).pending = s.pending := by unfold State.frameBoundary; split <;> simp
@[simp] theorem State.frameBoundary_loader (r : Bool) (s : State) : (s.frameBoundary r).loader = s.loader := by unfold State.frameBoundary; split <;> simp
@[simp] theorem State.frameBoundary_peers (r : Bool) (s : State) : (s.frameBoundary r).peers = s.peers := by unfold State.frameBoundary; split <;> simp
@[simp] theorem State.frameBoundary_show (r : Bool) (s : State) : (s.frameBoundary r).show_ = s.show_ := by unfold State.frameBoundary; split <;> simp

/-! claimWindowEnd -/

@[simp] theorem State.claimWindowEnd_pending (s : State) : (s.claimWindowEnd).pending = s.pending := by unfold State.claimWindowEnd; simp only []; (repeat' split) <;> simp
@[simp] theorem State.claimWindowEnd_loader (s : State) : (s.claimWindowEnd).loader = s.loader := by unfold State.claimWindowEnd; simp only []; (repeat' split) <;> simp
@[simp] theorem State.claimWindowEnd_timing (s : State) : (s.claimWindowEnd).timing = s.timing := by unfold State.claimWindowEnd; simp only []; (repeat' split) <;> simp
@[simp] theorem State.claimWindowEnd_peers (s : State) : (s.claimWindowEnd).peers = s.peers := by unfold State.claimWindowEnd; simp only []; (repeat' split) <;> simp
@[simp] theorem State.claimWindowEnd_show (s : State) : (s.claimWindowEnd).show_ = s.show_ := by unfold State.claimWindowEnd; simp only []; (repeat' split) <;> simp
@[simp] theorem State.claimWindowEnd_cues (s : State) : (s.claimWindowEnd).cues = s.cues := by unfold State.claimWindowEnd; simp only []; (repeat' split) <;> simp
@[simp] theorem State.claimWindowEnd_clips (s : State) : (s.claimWindowEnd).clips = s.clips := by unfold State.claimWindowEnd; simp only []; (repeat' split) <;> simp
@[simp] theorem State.claimWindowEnd_roster (s : State) : (s.claimWindowEnd).roster = s.roster := by unfold State.claimWindowEnd; simp only []; (repeat' split) <;> simp

/-! releaseNewest -/

@[simp] theorem State.releaseNewest_pending (s : State) : (s.releaseNewest).pending = s.pending := by unfold State.releaseNewest; split <;> simp
@[simp] theorem State.releaseNewest_loader (s : State) : (s.releaseNewest).loader = s.loader := by unfold State.releaseNewest; split <;> simp
@[simp] theorem State.releaseNewest_timing (s : State) : (s.releaseNewest).timing = s.timing := by unfold State.releaseNewest; split <;> simp
@[simp] theorem State.releaseNewest_peers (s : State) : (s.releaseNewest).peers = s.peers := by unfold State.releaseNewest; split <;> simp
@[simp] theorem State.releaseNewest_link (s : State) : (s.releaseNewest).link = s.link := by unfold State.releaseNewest; split <;> simp
@[simp] theorem State.releaseNewest_show (s : State) : (s.releaseNewest).show_ = s.show_ := by unfold State.releaseNewest; split <;> simp
@[simp] theorem State.releaseNewest_cues (s : State) : (s.releaseNewest).cues = s.cues := by unfold State.releaseNewest; split <;> simp
@[simp] theorem State.releaseNewest_clips (s : State) : (s.releaseNewest).clips = s.clips := by unfold State.releaseNewest; split <;> simp
@[simp] theorem State.releaseNewest_plan (s : State) : (s.releaseNewest).plan = s.plan := by unfold State.releaseNewest; split <;> simp
@[simp] theorem State.releaseNewest_radio (s : State) : (s.releaseNewest).radio = s.radio := by unfold State.releaseNewest; split <;> simp
@[simp] theorem State.releaseNewest_roster (s : State) : (s.releaseNewest).roster = s.roster := by unfold State.releaseNewest; split <;> simp

/-! holdDownRelease -/

@[simp] theorem State.holdDownRelease_pending (s : State) : (s.holdDownRelease).pending = s.pending := by unfold State.holdDownRelease; simp only []; (repeat' split) <;> simp
@[simp] theorem State.holdDownRelease_loader (s : State) : (s.holdDownRelease).loader = s.loader := by unfold State.holdDownRelease; simp only []; (repeat' split) <;> simp
@[simp] theorem State.holdDownRelease_timing (s : State) : (s.holdDownRelease).timing = s.timing := by unfold State.holdDownRelease; simp only []; (repeat' split) <;> simp
@[simp] theorem State.holdDownRelease_peers (s : State) : (s.holdDownRelease).peers = s.peers := by unfold State.holdDownRelease; simp only []; (repeat' split) <;> simp
@[simp] theorem State.holdDownRelease_link (s : State) : (s.holdDownRelease).link = s.link := by unfold State.holdDownRelease; simp only []; (repeat' split) <;> simp
@[simp] theorem State.holdDownRelease_show (s : State) : (s.holdDownRelease).show_ = s.show_ := by unfold State.holdDownRelease; simp only []; (repeat' split) <;> simp
@[simp] theorem State.holdDownRelease_cues (s : State) : (s.holdDownRelease).cues = s.cues := by unfold State.holdDownRelease; simp only []; (repeat' split) <;> simp
@[simp] theorem State.holdDownRelease_clips (s : State) : (s.holdDownRelease).clips = s.clips := by unfold State.holdDownRelease; simp only []; (repeat' split) <;> simp
@[simp] theorem State.holdDownRelease_plan (s : State) : (s.holdDownRelease).plan = s.plan := by unfold State.holdDownRelease; simp only []; (repeat' split) <;> simp
@[simp] theorem State.holdDownRelease_radio (s : State) : (s.holdDownRelease).radio = s.radio := by unfold State.holdDownRelease; simp only []; (repeat' split) <;> simp
@[simp] theorem State.holdDownRelease_roster (s : State) : (s.holdDownRelease).roster = s.roster := by unfold State.holdDownRelease; simp only []; (repeat' split) <;> simp

/-! becomeStarved -/

@[simp] theorem State.becomeStarved_pending (s : State) : (s.becomeStarved).pending = s.pending := by unfold State.becomeStarved; split <;> simp
@[simp] theorem State.becomeStarved_loader (s : State) : (s.becomeStarved).loader = s.loader := by unfold State.becomeStarved; split <;> simp
@[simp] theorem State.becomeStarved_timing (s : State) : (s.becomeStarved).timing = s.timing := by unfold State.becomeStarved; split <;> simp
@[simp] theorem State.becomeStarved_line (s : State) : (s.becomeStarved).line = s.line := by unfold State.becomeStarved; split <;> simp
@[simp] theorem State.becomeStarved_peers (s : State) : (s.becomeStarved).peers = s.peers := by unfold State.becomeStarved; split <;> simp
@[simp] theorem State.becomeStarved_show (s : State) : (s.becomeStarved).show_ = s.show_ := by unfold State.becomeStarved; split <;> simp
@[simp] theorem State.becomeStarved_cues (s : State) : (s.becomeStarved).cues = s.cues := by unfold State.becomeStarved; split <;> simp
@[simp] theorem State.becomeStarved_clips (s : State) : (s.becomeStarved).clips = s.clips := by unfold State.becomeStarved; split <;> simp
@[simp] theorem State.becomeStarved_plan (s : State) : (s.becomeStarved).plan = s.plan := by unfold State.becomeStarved; split <;> simp
@[simp] theorem State.becomeStarved_radio (s : State) : (s.becomeStarved).radio = s.radio := by unfold State.becomeStarved; split <;> simp
@[simp] theorem State.becomeStarved_roster (s : State) : (s.becomeStarved).roster = s.roster := by unfold State.becomeStarved; split <;> simp

/-! rosterExpiry -/

@[simp] theorem State.rosterExpiry_pending (s : State) : (s.rosterExpiry).pending = s.pending := by unfold State.rosterExpiry; split <;> simp
@[simp] theorem State.rosterExpiry_loader (s : State) : (s.rosterExpiry).loader = s.loader := by unfold State.rosterExpiry; split <;> simp
@[simp] theorem State.rosterExpiry_timing (s : State) : (s.rosterExpiry).timing = s.timing := by unfold State.rosterExpiry; split <;> simp
@[simp] theorem State.rosterExpiry_peers (s : State) : (s.rosterExpiry).peers = s.peers := by unfold State.rosterExpiry; split <;> simp
@[simp] theorem State.rosterExpiry_link (s : State) : (s.rosterExpiry).link = s.link := by unfold State.rosterExpiry; split <;> simp
@[simp] theorem State.rosterExpiry_show (s : State) : (s.rosterExpiry).show_ = s.show_ := by unfold State.rosterExpiry; split <;> simp
@[simp] theorem State.rosterExpiry_cues (s : State) : (s.rosterExpiry).cues = s.cues := by unfold State.rosterExpiry; split <;> simp
@[simp] theorem State.rosterExpiry_clips (s : State) : (s.rosterExpiry).clips = s.clips := by unfold State.rosterExpiry; split <;> simp
@[simp] theorem State.rosterExpiry_plan (s : State) : (s.rosterExpiry).plan = s.plan := by unfold State.rosterExpiry; split <;> simp
@[simp] theorem State.rosterExpiry_radio (s : State) : (s.rosterExpiry).radio = s.radio := by unfold State.rosterExpiry; split <;> simp

/-! peerRecordExpiry -/

@[simp] theorem State.peerRecordExpiry_pending (n : Nat) (s : State) : (s.peerRecordExpiry n).pending = s.pending := by unfold State.peerRecordExpiry; split <;> simp
@[simp] theorem State.peerRecordExpiry_loader (n : Nat) (s : State) : (s.peerRecordExpiry n).loader = s.loader := by unfold State.peerRecordExpiry; split <;> simp
@[simp] theorem State.peerRecordExpiry_link (n : Nat) (s : State) : (s.peerRecordExpiry n).link = s.link := by unfold State.peerRecordExpiry; split <;> simp
@[simp] theorem State.peerRecordExpiry_show (n : Nat) (s : State) : (s.peerRecordExpiry n).show_ = s.show_ := by unfold State.peerRecordExpiry; split <;> simp
@[simp] theorem State.peerRecordExpiry_cues (n : Nat) (s : State) : (s.peerRecordExpiry n).cues = s.cues := by unfold State.peerRecordExpiry; split <;> simp
@[simp] theorem State.peerRecordExpiry_clips (n : Nat) (s : State) : (s.peerRecordExpiry n).clips = s.clips := by unfold State.peerRecordExpiry; split <;> simp
@[simp] theorem State.peerRecordExpiry_plan (n : Nat) (s : State) : (s.peerRecordExpiry n).plan = s.plan := by unfold State.peerRecordExpiry; split <;> simp
@[simp] theorem State.peerRecordExpiry_radio (n : Nat) (s : State) : (s.peerRecordExpiry n).radio = s.radio := by unfold State.peerRecordExpiry; split <;> simp
@[simp] theorem State.peerRecordExpiry_roster (n : Nat) (s : State) : (s.peerRecordExpiry n).roster = s.roster := by unfold State.peerRecordExpiry; split <;> simp

/-! peerClaimPassed -/

@[simp] theorem State.peerClaimPassed_pending (n : Nat) (s : State) : (s.peerClaimPassed n).pending = s.pending := by unfold State.peerClaimPassed; simp only []; (repeat' split) <;> simp
@[simp] theorem State.peerClaimPassed_loader (n : Nat) (s : State) : (s.peerClaimPassed n).loader = s.loader := by unfold State.peerClaimPassed; simp only []; (repeat' split) <;> simp
@[simp] theorem State.peerClaimPassed_timing (n : Nat) (s : State) : (s.peerClaimPassed n).timing = s.timing := by unfold State.peerClaimPassed; simp only []; (repeat' split) <;> simp
@[simp] theorem State.peerClaimPassed_show (n : Nat) (s : State) : (s.peerClaimPassed n).show_ = s.show_ := by unfold State.peerClaimPassed; simp only []; (repeat' split) <;> simp
@[simp] theorem State.peerClaimPassed_cues (n : Nat) (s : State) : (s.peerClaimPassed n).cues = s.cues := by unfold State.peerClaimPassed; simp only []; (repeat' split) <;> simp
@[simp] theorem State.peerClaimPassed_clips (n : Nat) (s : State) : (s.peerClaimPassed n).clips = s.clips := by unfold State.peerClaimPassed; simp only []; (repeat' split) <;> simp
@[simp] theorem State.peerClaimPassed_roster (n : Nat) (s : State) : (s.peerClaimPassed n).roster = s.roster := by unfold State.peerClaimPassed; simp only []; (repeat' split) <;> simp

/-! objectWindowPassed -/

@[simp] theorem State.objectWindowPassed_pending (s : State) : (s.objectWindowPassed).pending = s.pending := by unfold State.objectWindowPassed; split <;> rfl
@[simp] theorem State.objectWindowPassed_loader (s : State) : (s.objectWindowPassed).loader = s.loader := by unfold State.objectWindowPassed; split <;> rfl
@[simp] theorem State.objectWindowPassed_timing (s : State) : (s.objectWindowPassed).timing = s.timing := by unfold State.objectWindowPassed; split <;> rfl
@[simp] theorem State.objectWindowPassed_peers (s : State) : (s.objectWindowPassed).peers = s.peers := by unfold State.objectWindowPassed; split <;> rfl
@[simp] theorem State.objectWindowPassed_pm (s : State) : (s.objectWindowPassed).pm = s.pm := by unfold State.objectWindowPassed; split <;> rfl
@[simp] theorem State.objectWindowPassed_link (s : State) : (s.objectWindowPassed).link = s.link := by unfold State.objectWindowPassed; split <;> rfl
@[simp] theorem State.objectWindowPassed_show (s : State) : (s.objectWindowPassed).show_ = s.show_ := by unfold State.objectWindowPassed; split <;> rfl
@[simp] theorem State.objectWindowPassed_cues (s : State) : (s.objectWindowPassed).cues = s.cues := by unfold State.objectWindowPassed; split <;> rfl
@[simp] theorem State.objectWindowPassed_clips (s : State) : (s.objectWindowPassed).clips = s.clips := by unfold State.objectWindowPassed; split <;> rfl
@[simp] theorem State.objectWindowPassed_plan (s : State) : (s.objectWindowPassed).plan = s.plan := by unfold State.objectWindowPassed; split <;> rfl
@[simp] theorem State.objectWindowPassed_radio (s : State) : (s.objectWindowPassed).radio = s.radio := by unfold State.objectWindowPassed; split <;> rfl
@[simp] theorem State.objectWindowPassed_roster (s : State) : (s.objectWindowPassed).roster = s.roster := by unfold State.objectWindowPassed; split <;> rfl

/-! listenEnd -/

@[simp] theorem State.listenEnd_pending (s : State) : (s.listenEnd).pending = s.pending := by unfold State.listenEnd; split <;> simp
@[simp] theorem State.listenEnd_peers (s : State) : (s.listenEnd).peers = s.peers := by unfold State.listenEnd; split <;> simp
@[simp] theorem State.listenEnd_link (s : State) : (s.listenEnd).link = s.link := by unfold State.listenEnd; split <;> simp
@[simp] theorem State.listenEnd_show (s : State) : (s.listenEnd).show_ = s.show_ := by unfold State.listenEnd; split <;> simp
@[simp] theorem State.listenEnd_cues (s : State) : (s.listenEnd).cues = s.cues := by unfold State.listenEnd; split <;> simp
@[simp] theorem State.listenEnd_clips (s : State) : (s.listenEnd).clips = s.clips := by unfold State.listenEnd; split <;> simp
@[simp] theorem State.listenEnd_plan (s : State) : (s.listenEnd).plan = s.plan := by unfold State.listenEnd; split <;> simp
@[simp] theorem State.listenEnd_radio (s : State) : (s.listenEnd).radio = s.radio := by unfold State.listenEnd; split <;> simp
@[simp] theorem State.listenEnd_roster (s : State) : (s.listenEnd).roster = s.roster := by unfold State.listenEnd; split <;> simp

/-! applyAdoption -/

@[simp] theorem State.applyAdoption_pending (r : Bool) (s : State) : (s.applyAdoption r).pending = s.pending := by unfold State.applyAdoption; split <;> simp
@[simp] theorem State.applyAdoption_loader (r : Bool) (s : State) : (s.applyAdoption r).loader = s.loader := by unfold State.applyAdoption; split <;> simp
@[simp] theorem State.applyAdoption_show (r : Bool) (s : State) : (s.applyAdoption r).show_ = s.show_ := by unfold State.applyAdoption; split <;> simp

/-! burstStart -/

@[simp] theorem State.burstStart_pending (s : State) : (s.burstStart).pending = s.pending := by unfold State.burstStart; (repeat' split) <;> simp [State.sendBurst, State.skipBurst]
@[simp] theorem State.burstStart_loader (s : State) : (s.burstStart).loader = s.loader := by unfold State.burstStart; (repeat' split) <;> simp [State.sendBurst, State.skipBurst]
@[simp] theorem State.burstStart_timing (s : State) : (s.burstStart).timing = s.timing := by unfold State.burstStart; (repeat' split) <;> simp [State.sendBurst, State.skipBurst]
@[simp] theorem State.burstStart_line (s : State) : (s.burstStart).line = s.line := by unfold State.burstStart; (repeat' split) <;> simp [State.sendBurst, State.skipBurst]
@[simp] theorem State.burstStart_peers (s : State) : (s.burstStart).peers = s.peers := by unfold State.burstStart; (repeat' split) <;> simp [State.sendBurst, State.skipBurst]
@[simp] theorem State.burstStart_pm (s : State) : (s.burstStart).pm = s.pm := by unfold State.burstStart; (repeat' split) <;> simp [State.sendBurst, State.skipBurst]
@[simp] theorem State.burstStart_link (s : State) : (s.burstStart).link = s.link := by unfold State.burstStart; (repeat' split) <;> simp [State.sendBurst, State.skipBurst]
@[simp] theorem State.burstStart_show (s : State) : (s.burstStart).show_ = s.show_ := by unfold State.burstStart; (repeat' split) <;> simp [State.sendBurst, State.skipBurst]
@[simp] theorem State.burstStart_cues (s : State) : (s.burstStart).cues = s.cues := by unfold State.burstStart; (repeat' split) <;> simp [State.sendBurst, State.skipBurst]
@[simp] theorem State.burstStart_clips (s : State) : (s.burstStart).clips = s.clips := by unfold State.burstStart; (repeat' split) <;> simp [State.sendBurst, State.skipBurst]
@[simp] theorem State.burstStart_roster (s : State) : (s.burstStart).roster = s.roster := by unfold State.burstStart; (repeat' split) <;> simp [State.sendBurst, State.skipBurst]

/-! burstSent -/

@[simp] theorem State.burstSent_pending (s : State) : (s.burstSent).pending = s.pending := by unfold State.burstSent; split <;> simp
@[simp] theorem State.burstSent_loader (s : State) : (s.burstSent).loader = s.loader := by unfold State.burstSent; split <;> simp
@[simp] theorem State.burstSent_timing (s : State) : (s.burstSent).timing = s.timing := by unfold State.burstSent; split <;> simp
@[simp] theorem State.burstSent_line (s : State) : (s.burstSent).line = s.line := by unfold State.burstSent; split <;> simp
@[simp] theorem State.burstSent_peers (s : State) : (s.burstSent).peers = s.peers := by unfold State.burstSent; split <;> simp
@[simp] theorem State.burstSent_pm (s : State) : (s.burstSent).pm = s.pm := by unfold State.burstSent; split <;> simp
@[simp] theorem State.burstSent_link (s : State) : (s.burstSent).link = s.link := by unfold State.burstSent; split <;> simp
@[simp] theorem State.burstSent_show (s : State) : (s.burstSent).show_ = s.show_ := by unfold State.burstSent; split <;> simp
@[simp] theorem State.burstSent_clips (s : State) : (s.burstSent).clips = s.clips := by unfold State.burstSent; split <;> simp
@[simp] theorem State.burstSent_roster (s : State) : (s.burstSent).roster = s.roster := by unfold State.burstSent; split <;> simp

/-! slotEnd -/

@[simp] theorem State.slotEnd_pending (s : State) : (s.slotEnd).pending = s.pending := by unfold State.slotEnd; split <;> simp
@[simp] theorem State.slotEnd_loader (s : State) : (s.slotEnd).loader = s.loader := by unfold State.slotEnd; split <;> simp
@[simp] theorem State.slotEnd_timing (s : State) : (s.slotEnd).timing = s.timing := by unfold State.slotEnd; split <;> simp
@[simp] theorem State.slotEnd_line (s : State) : (s.slotEnd).line = s.line := by unfold State.slotEnd; split <;> simp
@[simp] theorem State.slotEnd_peers (s : State) : (s.slotEnd).peers = s.peers := by unfold State.slotEnd; split <;> simp
@[simp] theorem State.slotEnd_pm (s : State) : (s.slotEnd).pm = s.pm := by unfold State.slotEnd; split <;> simp
@[simp] theorem State.slotEnd_link (s : State) : (s.slotEnd).link = s.link := by unfold State.slotEnd; split <;> simp
@[simp] theorem State.slotEnd_show (s : State) : (s.slotEnd).show_ = s.show_ := by unfold State.slotEnd; split <;> simp
@[simp] theorem State.slotEnd_cues (s : State) : (s.slotEnd).cues = s.cues := by unfold State.slotEnd; split <;> simp
@[simp] theorem State.slotEnd_clips (s : State) : (s.slotEnd).clips = s.clips := by unfold State.slotEnd; split <;> simp
@[simp] theorem State.slotEnd_plan (s : State) : (s.slotEnd).plan = s.plan := by unfold State.slotEnd; split <;> simp
@[simp] theorem State.slotEnd_roster (s : State) : (s.slotEnd).roster = s.roster := by unfold State.slotEnd; split <;> simp

/-! lockAsserted -/

@[simp] theorem State.lockAsserted_pending (s : State) : (s.lockAsserted).pending = s.pending := rfl
@[simp] theorem State.lockAsserted_loader (s : State) : (s.lockAsserted).loader = s.loader := rfl
@[simp] theorem State.lockAsserted_timing (s : State) : (s.lockAsserted).timing = s.timing := rfl
@[simp] theorem State.lockAsserted_line (s : State) : (s.lockAsserted).line = s.line := rfl
@[simp] theorem State.lockAsserted_peers (s : State) : (s.lockAsserted).peers = s.peers := rfl
@[simp] theorem State.lockAsserted_pm (s : State) : (s.lockAsserted).pm = s.pm := rfl
@[simp] theorem State.lockAsserted_link (s : State) : (s.lockAsserted).link = s.link := rfl
@[simp] theorem State.lockAsserted_show (s : State) : (s.lockAsserted).show_ = s.show_ := rfl
@[simp] theorem State.lockAsserted_cues (s : State) : (s.lockAsserted).cues = s.cues := rfl
@[simp] theorem State.lockAsserted_clips (s : State) : (s.lockAsserted).clips = s.clips := rfl
@[simp] theorem State.lockAsserted_plan (s : State) : (s.lockAsserted).plan = s.plan := rfl
@[simp] theorem State.lockAsserted_roster (s : State) : (s.lockAsserted).roster = s.roster := rfl

/-! lockDropped -/

@[simp] theorem State.lockDropped_pending (s : State) : (s.lockDropped).pending = s.pending := rfl
@[simp] theorem State.lockDropped_loader (s : State) : (s.lockDropped).loader = s.loader := rfl
@[simp] theorem State.lockDropped_timing (s : State) : (s.lockDropped).timing = s.timing := rfl
@[simp] theorem State.lockDropped_line (s : State) : (s.lockDropped).line = s.line := rfl
@[simp] theorem State.lockDropped_peers (s : State) : (s.lockDropped).peers = s.peers := rfl
@[simp] theorem State.lockDropped_pm (s : State) : (s.lockDropped).pm = s.pm := rfl
@[simp] theorem State.lockDropped_link (s : State) : (s.lockDropped).link = s.link := rfl
@[simp] theorem State.lockDropped_show (s : State) : (s.lockDropped).show_ = s.show_ := rfl
@[simp] theorem State.lockDropped_cues (s : State) : (s.lockDropped).cues = s.cues := rfl
@[simp] theorem State.lockDropped_clips (s : State) : (s.lockDropped).clips = s.clips := rfl
@[simp] theorem State.lockDropped_plan (s : State) : (s.lockDropped).plan = s.plan := rfl
@[simp] theorem State.lockDropped_roster (s : State) : (s.lockDropped).roster = s.roster := rfl

/-! garbledReply -/

@[simp] theorem State.garbledReply_pending (b : List Byte) (g : Bool) (s : State) : (s.garbledReply b g).pending = s.pending := by unfold State.garbledReply; split <;> simp
@[simp] theorem State.garbledReply_loader (b : List Byte) (g : Bool) (s : State) : (s.garbledReply b g).loader = s.loader := by unfold State.garbledReply; split <;> simp
@[simp] theorem State.garbledReply_timing (b : List Byte) (g : Bool) (s : State) : (s.garbledReply b g).timing = s.timing := by unfold State.garbledReply; split <;> simp
@[simp] theorem State.garbledReply_line (b : List Byte) (g : Bool) (s : State) : (s.garbledReply b g).line = s.line := by unfold State.garbledReply; split <;> simp
@[simp] theorem State.garbledReply_peers (b : List Byte) (g : Bool) (s : State) : (s.garbledReply b g).peers = s.peers := by unfold State.garbledReply; split <;> simp
@[simp] theorem State.garbledReply_pm (b : List Byte) (g : Bool) (s : State) : (s.garbledReply b g).pm = s.pm := by unfold State.garbledReply; split <;> simp
@[simp] theorem State.garbledReply_link (b : List Byte) (g : Bool) (s : State) : (s.garbledReply b g).link = s.link := by unfold State.garbledReply; split <;> simp
@[simp] theorem State.garbledReply_show (b : List Byte) (g : Bool) (s : State) : (s.garbledReply b g).show_ = s.show_ := by unfold State.garbledReply; split <;> simp
@[simp] theorem State.garbledReply_cues (b : List Byte) (g : Bool) (s : State) : (s.garbledReply b g).cues = s.cues := by unfold State.garbledReply; split <;> simp
@[simp] theorem State.garbledReply_clips (b : List Byte) (g : Bool) (s : State) : (s.garbledReply b g).clips = s.clips := by unfold State.garbledReply; split <;> simp
@[simp] theorem State.garbledReply_plan (b : List Byte) (g : Bool) (s : State) : (s.garbledReply b g).plan = s.plan := by unfold State.garbledReply; split <;> simp
@[simp] theorem State.garbledReply_roster (b : List Byte) (g : Bool) (s : State) : (s.garbledReply b g).roster = s.roster := by unfold State.garbledReply; split <;> simp

/-! answer -/

@[simp] theorem State.answer_pending (r : BitVec 32) (d : Roster × JoinResult) (s : State) : (s.answer r d).pending = s.pending := by unfold State.answer; simp only []; split <;> simp
@[simp] theorem State.answer_loader (r : BitVec 32) (d : Roster × JoinResult) (s : State) : (s.answer r d).loader = s.loader := by unfold State.answer; simp only []; split <;> simp
@[simp] theorem State.answer_timing (r : BitVec 32) (d : Roster × JoinResult) (s : State) : (s.answer r d).timing = s.timing := by unfold State.answer; simp only []; split <;> simp
@[simp] theorem State.answer_peers (r : BitVec 32) (d : Roster × JoinResult) (s : State) : (s.answer r d).peers = s.peers := by unfold State.answer; simp only []; split <;> simp
@[simp] theorem State.answer_link (r : BitVec 32) (d : Roster × JoinResult) (s : State) : (s.answer r d).link = s.link := by unfold State.answer; simp only []; split <;> simp
@[simp] theorem State.answer_show (r : BitVec 32) (d : Roster × JoinResult) (s : State) : (s.answer r d).show_ = s.show_ := by unfold State.answer; simp only []; split <;> simp
@[simp] theorem State.answer_cues (r : BitVec 32) (d : Roster × JoinResult) (s : State) : (s.answer r d).cues = s.cues := by unfold State.answer; simp only []; split <;> simp
@[simp] theorem State.answer_clips (r : BitVec 32) (d : Roster × JoinResult) (s : State) : (s.answer r d).clips = s.clips := by unfold State.answer; simp only []; split <;> simp
@[simp] theorem State.answer_plan (r : BitVec 32) (d : Roster × JoinResult) (s : State) : (s.answer r d).plan = s.plan := by unfold State.answer; simp only []; split <;> simp
@[simp] theorem State.answer_radio (r : BitVec 32) (d : Roster × JoinResult) (s : State) : (s.answer r d).radio = s.radio := by unfold State.answer; simp only []; split <;> simp

/-! handleReply -/

@[simp] theorem State.handleReply_pending (r : BitVec 32) (d : Roster → Roster × JoinResult) (s : State) : (s.handleReply r d).pending = s.pending := by unfold State.handleReply; simp only []; (repeat' split) <;> simp
@[simp] theorem State.handleReply_loader (r : BitVec 32) (d : Roster → Roster × JoinResult) (s : State) : (s.handleReply r d).loader = s.loader := by unfold State.handleReply; simp only []; (repeat' split) <;> simp
@[simp] theorem State.handleReply_timing (r : BitVec 32) (d : Roster → Roster × JoinResult) (s : State) : (s.handleReply r d).timing = s.timing := by unfold State.handleReply; simp only []; (repeat' split) <;> simp
@[simp] theorem State.handleReply_peers (r : BitVec 32) (d : Roster → Roster × JoinResult) (s : State) : (s.handleReply r d).peers = s.peers := by unfold State.handleReply; simp only []; (repeat' split) <;> simp
@[simp] theorem State.handleReply_link (r : BitVec 32) (d : Roster → Roster × JoinResult) (s : State) : (s.handleReply r d).link = s.link := by unfold State.handleReply; simp only []; (repeat' split) <;> simp
@[simp] theorem State.handleReply_show (r : BitVec 32) (d : Roster → Roster × JoinResult) (s : State) : (s.handleReply r d).show_ = s.show_ := by unfold State.handleReply; simp only []; (repeat' split) <;> simp
@[simp] theorem State.handleReply_cues (r : BitVec 32) (d : Roster → Roster × JoinResult) (s : State) : (s.handleReply r d).cues = s.cues := by unfold State.handleReply; simp only []; (repeat' split) <;> simp
@[simp] theorem State.handleReply_clips (r : BitVec 32) (d : Roster → Roster × JoinResult) (s : State) : (s.handleReply r d).clips = s.clips := by unfold State.handleReply; simp only []; (repeat' split) <;> simp
@[simp] theorem State.handleReply_plan (r : BitVec 32) (d : Roster → Roster × JoinResult) (s : State) : (s.handleReply r d).plan = s.plan := by unfold State.handleReply; simp only []; (repeat' split) <;> simp

/-! rosterCleared -/

@[simp] theorem State.rosterCleared_pending (s : State) : (s.rosterCleared).pending = s.pending := by unfold State.rosterCleared; simp only []; split <;> simp
@[simp] theorem State.rosterCleared_loader (s : State) : (s.rosterCleared).loader = s.loader := by unfold State.rosterCleared; simp only []; split <;> simp
@[simp] theorem State.rosterCleared_timing (s : State) : (s.rosterCleared).timing = s.timing := by unfold State.rosterCleared; simp only []; split <;> simp
@[simp] theorem State.rosterCleared_peers (s : State) : (s.rosterCleared).peers = s.peers := by unfold State.rosterCleared; simp only []; split <;> simp
@[simp] theorem State.rosterCleared_link (s : State) : (s.rosterCleared).link = s.link := by unfold State.rosterCleared; simp only []; split <;> simp
@[simp] theorem State.rosterCleared_show (s : State) : (s.rosterCleared).show_ = s.show_ := by unfold State.rosterCleared; simp only []; split <;> simp
@[simp] theorem State.rosterCleared_cues (s : State) : (s.rosterCleared).cues = s.cues := by unfold State.rosterCleared; simp only []; split <;> simp
@[simp] theorem State.rosterCleared_clips (s : State) : (s.rosterCleared).clips = s.clips := by unfold State.rosterCleared; simp only []; split <;> simp
@[simp] theorem State.rosterCleared_plan (s : State) : (s.rosterCleared).plan = s.plan := by unfold State.rosterCleared; simp only []; split <;> simp
@[simp] theorem State.rosterCleared_radio (s : State) : (s.rosterCleared).radio = s.radio := by unfold State.rosterCleared; simp only []; split <;> simp

/-! receiveStart -/

@[simp] theorem State.receiveStart_pending (s : State) : (s.receiveStart).pending = s.pending := by unfold State.receiveStart; split <;> rfl
@[simp] theorem State.receiveStart_loader (s : State) : (s.receiveStart).loader = s.loader := by unfold State.receiveStart; split <;> rfl
@[simp] theorem State.receiveStart_timing (s : State) : (s.receiveStart).timing = s.timing := by unfold State.receiveStart; split <;> rfl
@[simp] theorem State.receiveStart_peers (s : State) : (s.receiveStart).peers = s.peers := by unfold State.receiveStart; split <;> rfl
@[simp] theorem State.receiveStart_pm (s : State) : (s.receiveStart).pm = s.pm := by unfold State.receiveStart; split <;> rfl
@[simp] theorem State.receiveStart_link (s : State) : (s.receiveStart).link = s.link := by unfold State.receiveStart; split <;> rfl
@[simp] theorem State.receiveStart_show (s : State) : (s.receiveStart).show_ = s.show_ := by unfold State.receiveStart; split <;> rfl
@[simp] theorem State.receiveStart_cues (s : State) : (s.receiveStart).cues = s.cues := by unfold State.receiveStart; split <;> rfl
@[simp] theorem State.receiveStart_clips (s : State) : (s.receiveStart).clips = s.clips := by unfold State.receiveStart; split <;> rfl
@[simp] theorem State.receiveStart_plan (s : State) : (s.receiveStart).plan = s.plan := by unfold State.receiveStart; split <;> rfl
@[simp] theorem State.receiveStart_radio (s : State) : (s.receiveStart).radio = s.radio := by unfold State.receiveStart; split <;> rfl
@[simp] theorem State.receiveStart_roster (s : State) : (s.receiveStart).roster = s.roster := by unfold State.receiveStart; split <;> rfl

/-! startMarkHeard -/

@[simp] theorem State.startMarkHeard_pending (s : State) : (s.startMarkHeard).pending = s.pending := by unfold State.startMarkHeard; split <;> rfl
@[simp] theorem State.startMarkHeard_loader (s : State) : (s.startMarkHeard).loader = s.loader := by unfold State.startMarkHeard; split <;> rfl
@[simp] theorem State.startMarkHeard_timing (s : State) : (s.startMarkHeard).timing = s.timing := by unfold State.startMarkHeard; split <;> rfl
@[simp] theorem State.startMarkHeard_peers (s : State) : (s.startMarkHeard).peers = s.peers := by unfold State.startMarkHeard; split <;> rfl
@[simp] theorem State.startMarkHeard_pm (s : State) : (s.startMarkHeard).pm = s.pm := by unfold State.startMarkHeard; split <;> rfl
@[simp] theorem State.startMarkHeard_link (s : State) : (s.startMarkHeard).link = s.link := by unfold State.startMarkHeard; split <;> rfl
@[simp] theorem State.startMarkHeard_show (s : State) : (s.startMarkHeard).show_ = s.show_ := by unfold State.startMarkHeard; split <;> rfl
@[simp] theorem State.startMarkHeard_cues (s : State) : (s.startMarkHeard).cues = s.cues := by unfold State.startMarkHeard; split <;> rfl
@[simp] theorem State.startMarkHeard_clips (s : State) : (s.startMarkHeard).clips = s.clips := by unfold State.startMarkHeard; split <;> rfl
@[simp] theorem State.startMarkHeard_plan (s : State) : (s.startMarkHeard).plan = s.plan := by unfold State.startMarkHeard; split <;> rfl
@[simp] theorem State.startMarkHeard_radio (s : State) : (s.startMarkHeard).radio = s.radio := by unfold State.startMarkHeard; split <;> rfl
@[simp] theorem State.startMarkHeard_roster (s : State) : (s.startMarkHeard).roster = s.roster := by unfold State.startMarkHeard; split <;> rfl

/-! timingHears -/

@[simp] theorem State.timingHears_pending (m : Sender) (a : Bool) (o : Int) (b : Option PeerRecord) (s : State) : (s.timingHears m a o b).pending = s.pending := by simp [State.timingHears]
@[simp] theorem State.timingHears_loader (m : Sender) (a : Bool) (o : Int) (b : Option PeerRecord) (s : State) : (s.timingHears m a o b).loader = s.loader := by simp [State.timingHears]
@[simp] theorem State.timingHears_peers (m : Sender) (a : Bool) (o : Int) (b : Option PeerRecord) (s : State) : (s.timingHears m a o b).peers = s.peers := by simp [State.timingHears]
@[simp] theorem State.timingHears_link (m : Sender) (a : Bool) (o : Int) (b : Option PeerRecord) (s : State) : (s.timingHears m a o b).link = s.link := by simp [State.timingHears]
@[simp] theorem State.timingHears_show (m : Sender) (a : Bool) (o : Int) (b : Option PeerRecord) (s : State) : (s.timingHears m a o b).show_ = s.show_ := by simp [State.timingHears]
@[simp] theorem State.timingHears_cues (m : Sender) (a : Bool) (o : Int) (b : Option PeerRecord) (s : State) : (s.timingHears m a o b).cues = s.cues := by simp [State.timingHears]
@[simp] theorem State.timingHears_clips (m : Sender) (a : Bool) (o : Int) (b : Option PeerRecord) (s : State) : (s.timingHears m a o b).clips = s.clips := by simp [State.timingHears]
@[simp] theorem State.timingHears_plan (m : Sender) (a : Bool) (o : Int) (b : Option PeerRecord) (s : State) : (s.timingHears m a o b).plan = s.plan := by simp [State.timingHears]
@[simp] theorem State.timingHears_radio (m : Sender) (a : Bool) (o : Int) (b : Option PeerRecord) (s : State) : (s.timingHears m a o b).radio = s.radio := by simp [State.timingHears]
@[simp] theorem State.timingHears_roster (m : Sender) (a : Bool) (o : Int) (b : Option PeerRecord) (s : State) : (s.timingHears m a o b).roster = s.roster := by simp [State.timingHears]

/-! objectTo -/

@[simp] theorem State.objectTo_pending (n : Nat) (p : Position) (s : State) : (s.objectTo n p).pending = s.pending := by unfold State.objectTo; split <;> simp
@[simp] theorem State.objectTo_loader (n : Nat) (p : Position) (s : State) : (s.objectTo n p).loader = s.loader := by unfold State.objectTo; split <;> simp
@[simp] theorem State.objectTo_timing (n : Nat) (p : Position) (s : State) : (s.objectTo n p).timing = s.timing := by unfold State.objectTo; split <;> simp
@[simp] theorem State.objectTo_peers (n : Nat) (p : Position) (s : State) : (s.objectTo n p).peers = s.peers := by unfold State.objectTo; split <;> simp
@[simp] theorem State.objectTo_pm (n : Nat) (p : Position) (s : State) : (s.objectTo n p).pm = s.pm := by unfold State.objectTo; split <;> simp
@[simp] theorem State.objectTo_link (n : Nat) (p : Position) (s : State) : (s.objectTo n p).link = s.link := by unfold State.objectTo; split <;> simp
@[simp] theorem State.objectTo_show (n : Nat) (p : Position) (s : State) : (s.objectTo n p).show_ = s.show_ := by unfold State.objectTo; split <;> simp
@[simp] theorem State.objectTo_cues (n : Nat) (p : Position) (s : State) : (s.objectTo n p).cues = s.cues := by unfold State.objectTo; split <;> simp
@[simp] theorem State.objectTo_clips (n : Nat) (p : Position) (s : State) : (s.objectTo n p).clips = s.clips := by unfold State.objectTo; split <;> simp
@[simp] theorem State.objectTo_plan (n : Nat) (p : Position) (s : State) : (s.objectTo n p).plan = s.plan := by unfold State.objectTo; split <;> simp
@[simp] theorem State.objectTo_radio (n : Nat) (p : Position) (s : State) : (s.objectTo n p).radio = s.radio := by unfold State.objectTo; split <;> simp
@[simp] theorem State.objectTo_roster (n : Nat) (p : Position) (s : State) : (s.objectTo n p).roster = s.roster := by unfold State.objectTo; split <;> simp

/-! reactAnnounce -/

@[simp] theorem State.reactAnnounce_pending (n : Nat) (a : AnnounceFields) (s : State) : (s.reactAnnounce n a).pending = s.pending := by unfold State.reactAnnounce; simp only []; split <;> simp
@[simp] theorem State.reactAnnounce_loader (n : Nat) (a : AnnounceFields) (s : State) : (s.reactAnnounce n a).loader = s.loader := by unfold State.reactAnnounce; simp only []; split <;> simp
@[simp] theorem State.reactAnnounce_timing (n : Nat) (a : AnnounceFields) (s : State) : (s.reactAnnounce n a).timing = s.timing := by unfold State.reactAnnounce; simp only []; split <;> simp
@[simp] theorem State.reactAnnounce_peers (n : Nat) (a : AnnounceFields) (s : State) : (s.reactAnnounce n a).peers = s.peers := by unfold State.reactAnnounce; simp only []; split <;> simp
@[simp] theorem State.reactAnnounce_show (n : Nat) (a : AnnounceFields) (s : State) : (s.reactAnnounce n a).show_ = s.show_ := by unfold State.reactAnnounce; simp only []; split <;> simp
@[simp] theorem State.reactAnnounce_cues (n : Nat) (a : AnnounceFields) (s : State) : (s.reactAnnounce n a).cues = s.cues := by unfold State.reactAnnounce; simp only []; split <;> simp
@[simp] theorem State.reactAnnounce_clips (n : Nat) (a : AnnounceFields) (s : State) : (s.reactAnnounce n a).clips = s.clips := by unfold State.reactAnnounce; simp only []; split <;> simp
@[simp] theorem State.reactAnnounce_roster (n : Nat) (a : AnnounceFields) (s : State) : (s.reactAnnounce n a).roster = s.roster := by unfold State.reactAnnounce; simp only []; split <;> simp

/-! reactClaim -/

@[simp] theorem State.reactClaim_pending (n : Nat) (p : Position) (s : State) : (s.reactClaim n p).pending = s.pending := by unfold State.reactClaim; simp only []; (repeat' split) <;> simp
@[simp] theorem State.reactClaim_loader (n : Nat) (p : Position) (s : State) : (s.reactClaim n p).loader = s.loader := by unfold State.reactClaim; simp only []; (repeat' split) <;> simp
@[simp] theorem State.reactClaim_timing (n : Nat) (p : Position) (s : State) : (s.reactClaim n p).timing = s.timing := by unfold State.reactClaim; simp only []; (repeat' split) <;> simp
@[simp] theorem State.reactClaim_peers (n : Nat) (p : Position) (s : State) : (s.reactClaim n p).peers = s.peers := by unfold State.reactClaim; simp only []; (repeat' split) <;> simp
@[simp] theorem State.reactClaim_link (n : Nat) (p : Position) (s : State) : (s.reactClaim n p).link = s.link := by unfold State.reactClaim; simp only []; (repeat' split) <;> simp
@[simp] theorem State.reactClaim_show (n : Nat) (p : Position) (s : State) : (s.reactClaim n p).show_ = s.show_ := by unfold State.reactClaim; simp only []; (repeat' split) <;> simp
@[simp] theorem State.reactClaim_cues (n : Nat) (p : Position) (s : State) : (s.reactClaim n p).cues = s.cues := by unfold State.reactClaim; simp only []; (repeat' split) <;> simp
@[simp] theorem State.reactClaim_clips (n : Nat) (p : Position) (s : State) : (s.reactClaim n p).clips = s.clips := by unfold State.reactClaim; simp only []; (repeat' split) <;> simp
@[simp] theorem State.reactClaim_plan (n : Nat) (p : Position) (s : State) : (s.reactClaim n p).plan = s.plan := by unfold State.reactClaim; simp only []; (repeat' split) <;> simp
@[simp] theorem State.reactClaim_radio (n : Nat) (p : Position) (s : State) : (s.reactClaim n p).radio = s.radio := by unfold State.reactClaim; simp only []; (repeat' split) <;> simp
@[simp] theorem State.reactClaim_roster (n : Nat) (p : Position) (s : State) : (s.reactClaim n p).roster = s.roster := by unfold State.reactClaim; simp only []; (repeat' split) <;> simp

/-! reactObject -/

@[simp] theorem State.reactObject_pending (n : Nat) (p : Position) (c : Nat) (s : State) : (s.reactObject n p c).pending = s.pending := by unfold State.reactObject; simp only []; split <;> simp
@[simp] theorem State.reactObject_loader (n : Nat) (p : Position) (c : Nat) (s : State) : (s.reactObject n p c).loader = s.loader := by unfold State.reactObject; simp only []; split <;> simp
@[simp] theorem State.reactObject_timing (n : Nat) (p : Position) (c : Nat) (s : State) : (s.reactObject n p c).timing = s.timing := by unfold State.reactObject; simp only []; split <;> simp
@[simp] theorem State.reactObject_peers (n : Nat) (p : Position) (c : Nat) (s : State) : (s.reactObject n p c).peers = s.peers := by unfold State.reactObject; simp only []; split <;> simp
@[simp] theorem State.reactObject_show (n : Nat) (p : Position) (c : Nat) (s : State) : (s.reactObject n p c).show_ = s.show_ := by unfold State.reactObject; simp only []; split <;> simp
@[simp] theorem State.reactObject_cues (n : Nat) (p : Position) (c : Nat) (s : State) : (s.reactObject n p c).cues = s.cues := by unfold State.reactObject; simp only []; split <;> simp
@[simp] theorem State.reactObject_clips (n : Nat) (p : Position) (c : Nat) (s : State) : (s.reactObject n p c).clips = s.clips := by unfold State.reactObject; simp only []; split <;> simp
@[simp] theorem State.reactObject_roster (n : Nat) (p : Position) (c : Nat) (s : State) : (s.reactObject n p c).roster = s.roster := by unfold State.reactObject; simp only []; split <;> simp

/-! badMessage -/

@[simp] theorem State.badMessage_pending (b : List Byte) (k : Bool) (s : State) : (s.badMessage b k).pending = s.pending := by unfold State.badMessage; split <;> rfl
@[simp] theorem State.badMessage_loader (b : List Byte) (k : Bool) (s : State) : (s.badMessage b k).loader = s.loader := by unfold State.badMessage; split <;> rfl
@[simp] theorem State.badMessage_timing (b : List Byte) (k : Bool) (s : State) : (s.badMessage b k).timing = s.timing := by unfold State.badMessage; split <;> rfl
@[simp] theorem State.badMessage_peers (b : List Byte) (k : Bool) (s : State) : (s.badMessage b k).peers = s.peers := by unfold State.badMessage; split <;> rfl
@[simp] theorem State.badMessage_pm (b : List Byte) (k : Bool) (s : State) : (s.badMessage b k).pm = s.pm := by unfold State.badMessage; split <;> rfl
@[simp] theorem State.badMessage_link (b : List Byte) (k : Bool) (s : State) : (s.badMessage b k).link = s.link := by unfold State.badMessage; split <;> rfl
@[simp] theorem State.badMessage_show (b : List Byte) (k : Bool) (s : State) : (s.badMessage b k).show_ = s.show_ := by unfold State.badMessage; split <;> rfl
@[simp] theorem State.badMessage_cues (b : List Byte) (k : Bool) (s : State) : (s.badMessage b k).cues = s.cues := by unfold State.badMessage; split <;> rfl
@[simp] theorem State.badMessage_clips (b : List Byte) (k : Bool) (s : State) : (s.badMessage b k).clips = s.clips := by unfold State.badMessage; split <;> rfl
@[simp] theorem State.badMessage_plan (b : List Byte) (k : Bool) (s : State) : (s.badMessage b k).plan = s.plan := by unfold State.badMessage; split <;> rfl
@[simp] theorem State.badMessage_radio (b : List Byte) (k : Bool) (s : State) : (s.badMessage b k).radio = s.radio := by unfold State.badMessage; split <;> rfl
@[simp] theorem State.badMessage_roster (b : List Byte) (k : Bool) (s : State) : (s.badMessage b k).roster = s.roster := by unfold State.badMessage; split <;> rfl

/-! messageStart -/

@[simp] theorem State.messageStart_pending (s : State) : (s.messageStart).pending = s.pending := by unfold State.messageStart; (repeat' split) <;> rfl
@[simp] theorem State.messageStart_loader (s : State) : (s.messageStart).loader = s.loader := by unfold State.messageStart; (repeat' split) <;> rfl
@[simp] theorem State.messageStart_timing (s : State) : (s.messageStart).timing = s.timing := by unfold State.messageStart; (repeat' split) <;> rfl
@[simp] theorem State.messageStart_peers (s : State) : (s.messageStart).peers = s.peers := by unfold State.messageStart; (repeat' split) <;> rfl
@[simp] theorem State.messageStart_pm (s : State) : (s.messageStart).pm = s.pm := by unfold State.messageStart; (repeat' split) <;> rfl
@[simp] theorem State.messageStart_link (s : State) : (s.messageStart).link = s.link := by unfold State.messageStart; (repeat' split) <;> rfl
@[simp] theorem State.messageStart_show (s : State) : (s.messageStart).show_ = s.show_ := by unfold State.messageStart; (repeat' split) <;> rfl
@[simp] theorem State.messageStart_cues (s : State) : (s.messageStart).cues = s.cues := by unfold State.messageStart; (repeat' split) <;> rfl
@[simp] theorem State.messageStart_clips (s : State) : (s.messageStart).clips = s.clips := by unfold State.messageStart; (repeat' split) <;> rfl
@[simp] theorem State.messageStart_plan (s : State) : (s.messageStart).plan = s.plan := by unfold State.messageStart; (repeat' split) <;> rfl
@[simp] theorem State.messageStart_radio (s : State) : (s.messageStart).radio = s.radio := by unfold State.messageStart; (repeat' split) <;> rfl
@[simp] theorem State.messageStart_roster (s : State) : (s.messageStart).roster = s.roster := by unfold State.messageStart; (repeat' split) <;> rfl

/-! messageComplete -/

@[simp] theorem State.messageComplete_pending (s : State) : (s.messageComplete).pending = s.pending := by unfold State.messageComplete; split <;> rfl
@[simp] theorem State.messageComplete_loader (s : State) : (s.messageComplete).loader = s.loader := by unfold State.messageComplete; split <;> rfl
@[simp] theorem State.messageComplete_timing (s : State) : (s.messageComplete).timing = s.timing := by unfold State.messageComplete; split <;> rfl
@[simp] theorem State.messageComplete_peers (s : State) : (s.messageComplete).peers = s.peers := by unfold State.messageComplete; split <;> rfl
@[simp] theorem State.messageComplete_pm (s : State) : (s.messageComplete).pm = s.pm := by unfold State.messageComplete; split <;> rfl
@[simp] theorem State.messageComplete_link (s : State) : (s.messageComplete).link = s.link := by unfold State.messageComplete; split <;> rfl
@[simp] theorem State.messageComplete_show (s : State) : (s.messageComplete).show_ = s.show_ := by unfold State.messageComplete; split <;> rfl
@[simp] theorem State.messageComplete_cues (s : State) : (s.messageComplete).cues = s.cues := by unfold State.messageComplete; split <;> rfl
@[simp] theorem State.messageComplete_clips (s : State) : (s.messageComplete).clips = s.clips := by unfold State.messageComplete; split <;> rfl
@[simp] theorem State.messageComplete_plan (s : State) : (s.messageComplete).plan = s.plan := by unfold State.messageComplete; split <;> rfl
@[simp] theorem State.messageComplete_radio (s : State) : (s.messageComplete).radio = s.radio := by unfold State.messageComplete; split <;> rfl
@[simp] theorem State.messageComplete_roster (s : State) : (s.messageComplete).roster = s.roster := by unfold State.messageComplete; split <;> rfl

/-! lineConflict -/

@[simp] theorem State.lineConflict_pending (s : State) : (s.lineConflict).pending = s.pending := by unfold State.lineConflict; split <;> rfl
@[simp] theorem State.lineConflict_loader (s : State) : (s.lineConflict).loader = s.loader := by unfold State.lineConflict; split <;> rfl
@[simp] theorem State.lineConflict_timing (s : State) : (s.lineConflict).timing = s.timing := by unfold State.lineConflict; split <;> rfl
@[simp] theorem State.lineConflict_peers (s : State) : (s.lineConflict).peers = s.peers := by unfold State.lineConflict; split <;> rfl
@[simp] theorem State.lineConflict_pm (s : State) : (s.lineConflict).pm = s.pm := by unfold State.lineConflict; split <;> rfl
@[simp] theorem State.lineConflict_link (s : State) : (s.lineConflict).link = s.link := by unfold State.lineConflict; split <;> rfl
@[simp] theorem State.lineConflict_show (s : State) : (s.lineConflict).show_ = s.show_ := by unfold State.lineConflict; split <;> rfl
@[simp] theorem State.lineConflict_cues (s : State) : (s.lineConflict).cues = s.cues := by unfold State.lineConflict; split <;> rfl
@[simp] theorem State.lineConflict_clips (s : State) : (s.lineConflict).clips = s.clips := by unfold State.lineConflict; split <;> rfl
@[simp] theorem State.lineConflict_plan (s : State) : (s.lineConflict).plan = s.plan := by unfold State.lineConflict; split <;> rfl
@[simp] theorem State.lineConflict_radio (s : State) : (s.lineConflict).radio = s.radio := by unfold State.lineConflict; split <;> rfl
@[simp] theorem State.lineConflict_roster (s : State) : (s.lineConflict).roster = s.roster := by unfold State.lineConflict; split <;> rfl

/-! idleWaitByte -/

@[simp] theorem State.idleWaitByte_pending (s : State) : (s.idleWaitByte).pending = s.pending := by unfold State.idleWaitByte; split <;> rfl
@[simp] theorem State.idleWaitByte_loader (s : State) : (s.idleWaitByte).loader = s.loader := by unfold State.idleWaitByte; split <;> rfl
@[simp] theorem State.idleWaitByte_timing (s : State) : (s.idleWaitByte).timing = s.timing := by unfold State.idleWaitByte; split <;> rfl
@[simp] theorem State.idleWaitByte_line (s : State) : (s.idleWaitByte).line = s.line := by unfold State.idleWaitByte; split <;> rfl
@[simp] theorem State.idleWaitByte_peers (s : State) : (s.idleWaitByte).peers = s.peers := by unfold State.idleWaitByte; split <;> rfl
@[simp] theorem State.idleWaitByte_pm (s : State) : (s.idleWaitByte).pm = s.pm := by unfold State.idleWaitByte; split <;> rfl
@[simp] theorem State.idleWaitByte_show (s : State) : (s.idleWaitByte).show_ = s.show_ := by unfold State.idleWaitByte; split <;> rfl
@[simp] theorem State.idleWaitByte_cues (s : State) : (s.idleWaitByte).cues = s.cues := by unfold State.idleWaitByte; split <;> rfl
@[simp] theorem State.idleWaitByte_clips (s : State) : (s.idleWaitByte).clips = s.clips := by unfold State.idleWaitByte; split <;> rfl
@[simp] theorem State.idleWaitByte_plan (s : State) : (s.idleWaitByte).plan = s.plan := by unfold State.idleWaitByte; split <;> rfl
@[simp] theorem State.idleWaitByte_radio (s : State) : (s.idleWaitByte).radio = s.radio := by unfold State.idleWaitByte; split <;> rfl
@[simp] theorem State.idleWaitByte_roster (s : State) : (s.idleWaitByte).roster = s.roster := by unfold State.idleWaitByte; split <;> rfl

/-! idleWaitEnd -/

@[simp] theorem State.idleWaitEnd_pending (s : State) : (s.idleWaitEnd).pending = s.pending := by unfold State.idleWaitEnd; split <;> rfl
@[simp] theorem State.idleWaitEnd_loader (s : State) : (s.idleWaitEnd).loader = s.loader := by unfold State.idleWaitEnd; split <;> rfl
@[simp] theorem State.idleWaitEnd_timing (s : State) : (s.idleWaitEnd).timing = s.timing := by unfold State.idleWaitEnd; split <;> rfl
@[simp] theorem State.idleWaitEnd_line (s : State) : (s.idleWaitEnd).line = s.line := by unfold State.idleWaitEnd; split <;> rfl
@[simp] theorem State.idleWaitEnd_peers (s : State) : (s.idleWaitEnd).peers = s.peers := by unfold State.idleWaitEnd; split <;> rfl
@[simp] theorem State.idleWaitEnd_pm (s : State) : (s.idleWaitEnd).pm = s.pm := by unfold State.idleWaitEnd; split <;> rfl
@[simp] theorem State.idleWaitEnd_show (s : State) : (s.idleWaitEnd).show_ = s.show_ := by unfold State.idleWaitEnd; split <;> rfl
@[simp] theorem State.idleWaitEnd_cues (s : State) : (s.idleWaitEnd).cues = s.cues := by unfold State.idleWaitEnd; split <;> rfl
@[simp] theorem State.idleWaitEnd_clips (s : State) : (s.idleWaitEnd).clips = s.clips := by unfold State.idleWaitEnd; split <;> rfl
@[simp] theorem State.idleWaitEnd_plan (s : State) : (s.idleWaitEnd).plan = s.plan := by unfold State.idleWaitEnd; split <;> rfl
@[simp] theorem State.idleWaitEnd_radio (s : State) : (s.idleWaitEnd).radio = s.radio := by unfold State.idleWaitEnd; split <;> rfl
@[simp] theorem State.idleWaitEnd_roster (s : State) : (s.idleWaitEnd).roster = s.roster := by unfold State.idleWaitEnd; split <;> rfl

/-! recordStartMark -/

@[simp] theorem State.recordStartMark_pending (s : State) : (s.recordStartMark).pending = s.pending := by unfold State.recordStartMark; split <;> rfl
@[simp] theorem State.recordStartMark_loader (s : State) : (s.recordStartMark).loader = s.loader := by unfold State.recordStartMark; split <;> rfl
@[simp] theorem State.recordStartMark_timing (s : State) : (s.recordStartMark).timing = s.timing := by unfold State.recordStartMark; split <;> rfl
@[simp] theorem State.recordStartMark_line (s : State) : (s.recordStartMark).line = s.line := by unfold State.recordStartMark; split <;> rfl
@[simp] theorem State.recordStartMark_peers (s : State) : (s.recordStartMark).peers = s.peers := by unfold State.recordStartMark; split <;> rfl
@[simp] theorem State.recordStartMark_pm (s : State) : (s.recordStartMark).pm = s.pm := by unfold State.recordStartMark; split <;> rfl
@[simp] theorem State.recordStartMark_show (s : State) : (s.recordStartMark).show_ = s.show_ := by unfold State.recordStartMark; split <;> rfl
@[simp] theorem State.recordStartMark_cues (s : State) : (s.recordStartMark).cues = s.cues := by unfold State.recordStartMark; split <;> rfl
@[simp] theorem State.recordStartMark_clips (s : State) : (s.recordStartMark).clips = s.clips := by unfold State.recordStartMark; split <;> rfl
@[simp] theorem State.recordStartMark_plan (s : State) : (s.recordStartMark).plan = s.plan := by unfold State.recordStartMark; split <;> rfl
@[simp] theorem State.recordStartMark_radio (s : State) : (s.recordStartMark).radio = s.radio := by unfold State.recordStartMark; split <;> rfl
@[simp] theorem State.recordStartMark_roster (s : State) : (s.recordStartMark).roster = s.roster := by unfold State.recordStartMark; split <;> rfl

/-! queueRecord -/

@[simp] theorem State.queueRecord_pending (r : Record) (s : State) : (s.queueRecord r).pending = s.pending := by unfold State.queueRecord; split <;> simp
@[simp] theorem State.queueRecord_loader (r : Record) (s : State) : (s.queueRecord r).loader = s.loader := by unfold State.queueRecord; split <;> simp
@[simp] theorem State.queueRecord_timing (r : Record) (s : State) : (s.queueRecord r).timing = s.timing := by unfold State.queueRecord; split <;> simp
@[simp] theorem State.queueRecord_line (r : Record) (s : State) : (s.queueRecord r).line = s.line := by unfold State.queueRecord; split <;> simp
@[simp] theorem State.queueRecord_peers (r : Record) (s : State) : (s.queueRecord r).peers = s.peers := by unfold State.queueRecord; split <;> simp
@[simp] theorem State.queueRecord_pm (r : Record) (s : State) : (s.queueRecord r).pm = s.pm := by unfold State.queueRecord; split <;> simp
@[simp] theorem State.queueRecord_show (r : Record) (s : State) : (s.queueRecord r).show_ = s.show_ := by unfold State.queueRecord; split <;> simp
@[simp] theorem State.queueRecord_cues (r : Record) (s : State) : (s.queueRecord r).cues = s.cues := by unfold State.queueRecord; split <;> simp
@[simp] theorem State.queueRecord_clips (r : Record) (s : State) : (s.queueRecord r).clips = s.clips := by unfold State.queueRecord; split <;> simp
@[simp] theorem State.queueRecord_plan (r : Record) (s : State) : (s.queueRecord r).plan = s.plan := by unfold State.queueRecord; split <;> simp
@[simp] theorem State.queueRecord_radio (r : Record) (s : State) : (s.queueRecord r).radio = s.radio := by unfold State.queueRecord; split <;> simp
@[simp] theorem State.queueRecord_roster (r : Record) (s : State) : (s.queueRecord r).roster = s.roster := by unfold State.queueRecord; split <;> simp

/-! recordComplete -/

@[simp] theorem State.recordComplete_pending (b : List Byte) (s : State) : (s.recordComplete b).pending = s.pending := by unfold State.recordComplete; (repeat' split) <;> simp
@[simp] theorem State.recordComplete_loader (b : List Byte) (s : State) : (s.recordComplete b).loader = s.loader := by unfold State.recordComplete; (repeat' split) <;> simp
@[simp] theorem State.recordComplete_timing (b : List Byte) (s : State) : (s.recordComplete b).timing = s.timing := by unfold State.recordComplete; (repeat' split) <;> simp
@[simp] theorem State.recordComplete_line (b : List Byte) (s : State) : (s.recordComplete b).line = s.line := by unfold State.recordComplete; (repeat' split) <;> simp
@[simp] theorem State.recordComplete_peers (b : List Byte) (s : State) : (s.recordComplete b).peers = s.peers := by unfold State.recordComplete; (repeat' split) <;> simp
@[simp] theorem State.recordComplete_pm (b : List Byte) (s : State) : (s.recordComplete b).pm = s.pm := by unfold State.recordComplete; (repeat' split) <;> simp
@[simp] theorem State.recordComplete_show (b : List Byte) (s : State) : (s.recordComplete b).show_ = s.show_ := by unfold State.recordComplete; (repeat' split) <;> simp
@[simp] theorem State.recordComplete_cues (b : List Byte) (s : State) : (s.recordComplete b).cues = s.cues := by unfold State.recordComplete; (repeat' split) <;> simp
@[simp] theorem State.recordComplete_clips (b : List Byte) (s : State) : (s.recordComplete b).clips = s.clips := by unfold State.recordComplete; (repeat' split) <;> simp
@[simp] theorem State.recordComplete_plan (b : List Byte) (s : State) : (s.recordComplete b).plan = s.plan := by unfold State.recordComplete; (repeat' split) <;> simp
@[simp] theorem State.recordComplete_radio (b : List Byte) (s : State) : (s.recordComplete b).radio = s.radio := by unfold State.recordComplete; (repeat' split) <;> simp
@[simp] theorem State.recordComplete_roster (b : List Byte) (s : State) : (s.recordComplete b).roster = s.roster := by unfold State.recordComplete; (repeat' split) <;> simp

/-! breakRecord -/

@[simp] theorem State.breakRecord_pending (b : List Byte) (r : Reason) (s : State) : (s.breakRecord b r).pending = s.pending := by simp [State.breakRecord]
@[simp] theorem State.breakRecord_loader (b : List Byte) (r : Reason) (s : State) : (s.breakRecord b r).loader = s.loader := by simp [State.breakRecord]
@[simp] theorem State.breakRecord_timing (b : List Byte) (r : Reason) (s : State) : (s.breakRecord b r).timing = s.timing := by simp [State.breakRecord]
@[simp] theorem State.breakRecord_line (b : List Byte) (r : Reason) (s : State) : (s.breakRecord b r).line = s.line := by simp [State.breakRecord]
@[simp] theorem State.breakRecord_peers (b : List Byte) (r : Reason) (s : State) : (s.breakRecord b r).peers = s.peers := by simp [State.breakRecord]
@[simp] theorem State.breakRecord_pm (b : List Byte) (r : Reason) (s : State) : (s.breakRecord b r).pm = s.pm := by simp [State.breakRecord]
@[simp] theorem State.breakRecord_show (b : List Byte) (r : Reason) (s : State) : (s.breakRecord b r).show_ = s.show_ := by simp [State.breakRecord]
@[simp] theorem State.breakRecord_cues (b : List Byte) (r : Reason) (s : State) : (s.breakRecord b r).cues = s.cues := by simp [State.breakRecord]
@[simp] theorem State.breakRecord_clips (b : List Byte) (r : Reason) (s : State) : (s.breakRecord b r).clips = s.clips := by simp [State.breakRecord]
@[simp] theorem State.breakRecord_plan (b : List Byte) (r : Reason) (s : State) : (s.breakRecord b r).plan = s.plan := by simp [State.breakRecord]
@[simp] theorem State.breakRecord_radio (b : List Byte) (r : Reason) (s : State) : (s.breakRecord b r).radio = s.radio := by simp [State.breakRecord]
@[simp] theorem State.breakRecord_roster (b : List Byte) (r : Reason) (s : State) : (s.breakRecord b r).roster = s.roster := by simp [State.breakRecord]

/-! recordGap -/

@[simp] theorem State.recordGap_pending (b : List Byte) (s : State) : (s.recordGap b).pending = s.pending := by unfold State.recordGap; split <;> simp
@[simp] theorem State.recordGap_loader (b : List Byte) (s : State) : (s.recordGap b).loader = s.loader := by unfold State.recordGap; split <;> simp
@[simp] theorem State.recordGap_timing (b : List Byte) (s : State) : (s.recordGap b).timing = s.timing := by unfold State.recordGap; split <;> simp
@[simp] theorem State.recordGap_line (b : List Byte) (s : State) : (s.recordGap b).line = s.line := by unfold State.recordGap; split <;> simp
@[simp] theorem State.recordGap_peers (b : List Byte) (s : State) : (s.recordGap b).peers = s.peers := by unfold State.recordGap; split <;> simp
@[simp] theorem State.recordGap_pm (b : List Byte) (s : State) : (s.recordGap b).pm = s.pm := by unfold State.recordGap; split <;> simp
@[simp] theorem State.recordGap_show (b : List Byte) (s : State) : (s.recordGap b).show_ = s.show_ := by unfold State.recordGap; split <;> simp
@[simp] theorem State.recordGap_cues (b : List Byte) (s : State) : (s.recordGap b).cues = s.cues := by unfold State.recordGap; split <;> simp
@[simp] theorem State.recordGap_clips (b : List Byte) (s : State) : (s.recordGap b).clips = s.clips := by unfold State.recordGap; split <;> simp
@[simp] theorem State.recordGap_plan (b : List Byte) (s : State) : (s.recordGap b).plan = s.plan := by unfold State.recordGap; split <;> simp
@[simp] theorem State.recordGap_radio (b : List Byte) (s : State) : (s.recordGap b).radio = s.radio := by unfold State.recordGap; split <;> simp
@[simp] theorem State.recordGap_roster (b : List Byte) (s : State) : (s.recordGap b).roster = s.roster := by unfold State.recordGap; split <;> simp

/-! recordBroken -/

@[simp] theorem State.recordBroken_pending (b : List Byte) (f : Bool) (s : State) : (s.recordBroken b f).pending = s.pending := by unfold State.recordBroken; (repeat' split) <;> simp
@[simp] theorem State.recordBroken_loader (b : List Byte) (f : Bool) (s : State) : (s.recordBroken b f).loader = s.loader := by unfold State.recordBroken; (repeat' split) <;> simp
@[simp] theorem State.recordBroken_timing (b : List Byte) (f : Bool) (s : State) : (s.recordBroken b f).timing = s.timing := by unfold State.recordBroken; (repeat' split) <;> simp
@[simp] theorem State.recordBroken_line (b : List Byte) (f : Bool) (s : State) : (s.recordBroken b f).line = s.line := by unfold State.recordBroken; (repeat' split) <;> simp
@[simp] theorem State.recordBroken_peers (b : List Byte) (f : Bool) (s : State) : (s.recordBroken b f).peers = s.peers := by unfold State.recordBroken; (repeat' split) <;> simp
@[simp] theorem State.recordBroken_pm (b : List Byte) (f : Bool) (s : State) : (s.recordBroken b f).pm = s.pm := by unfold State.recordBroken; (repeat' split) <;> simp
@[simp] theorem State.recordBroken_show (b : List Byte) (f : Bool) (s : State) : (s.recordBroken b f).show_ = s.show_ := by unfold State.recordBroken; (repeat' split) <;> simp
@[simp] theorem State.recordBroken_cues (b : List Byte) (f : Bool) (s : State) : (s.recordBroken b f).cues = s.cues := by unfold State.recordBroken; (repeat' split) <;> simp
@[simp] theorem State.recordBroken_clips (b : List Byte) (f : Bool) (s : State) : (s.recordBroken b f).clips = s.clips := by unfold State.recordBroken; (repeat' split) <;> simp
@[simp] theorem State.recordBroken_plan (b : List Byte) (f : Bool) (s : State) : (s.recordBroken b f).plan = s.plan := by unfold State.recordBroken; (repeat' split) <;> simp
@[simp] theorem State.recordBroken_radio (b : List Byte) (f : Bool) (s : State) : (s.recordBroken b f).radio = s.radio := by unfold State.recordBroken; (repeat' split) <;> simp
@[simp] theorem State.recordBroken_roster (b : List Byte) (f : Bool) (s : State) : (s.recordBroken b f).roster = s.roster := by unfold State.recordBroken; (repeat' split) <;> simp

/-! signalEmpty -/

@[simp] theorem State.signalEmpty_pending (s : State) : (s.signalEmpty).pending = s.pending := by simp [State.signalEmpty]
@[simp] theorem State.signalEmpty_loader (s : State) : (s.signalEmpty).loader = s.loader := by simp [State.signalEmpty]
@[simp] theorem State.signalEmpty_timing (s : State) : (s.signalEmpty).timing = s.timing := by simp [State.signalEmpty]
@[simp] theorem State.signalEmpty_peers (s : State) : (s.signalEmpty).peers = s.peers := by simp [State.signalEmpty]
@[simp] theorem State.signalEmpty_link (s : State) : (s.signalEmpty).link = s.link := by simp [State.signalEmpty]
@[simp] theorem State.signalEmpty_show (s : State) : (s.signalEmpty).show_ = s.show_ := by simp [State.signalEmpty]
@[simp] theorem State.signalEmpty_plan (s : State) : (s.signalEmpty).plan = s.plan := by simp [State.signalEmpty]
@[simp] theorem State.signalEmpty_radio (s : State) : (s.signalEmpty).radio = s.radio := by simp [State.signalEmpty]

/-! signalEnded -/

@[simp] theorem State.signalEnded_pending (s : State) : (s.signalEnded).pending = s.pending := by simp [State.signalEnded]
@[simp] theorem State.signalEnded_loader (s : State) : (s.signalEnded).loader = s.loader := by simp [State.signalEnded]
@[simp] theorem State.signalEnded_timing (s : State) : (s.signalEnded).timing = s.timing := by simp [State.signalEnded]
@[simp] theorem State.signalEnded_peers (s : State) : (s.signalEnded).peers = s.peers := by simp [State.signalEnded]
@[simp] theorem State.signalEnded_link (s : State) : (s.signalEnded).link = s.link := by simp [State.signalEnded]
@[simp] theorem State.signalEnded_show (s : State) : (s.signalEnded).show_ = s.show_ := by simp [State.signalEnded]
@[simp] theorem State.signalEnded_plan (s : State) : (s.signalEnded).plan = s.plan := by simp [State.signalEnded]
@[simp] theorem State.signalEnded_radio (s : State) : (s.signalEnded).radio = s.radio := by simp [State.signalEnded]
@[simp] theorem State.signalEnded_roster (s : State) : (s.signalEnded).roster = s.roster := by simp [State.signalEnded]

/-! signalReevaluate -/

@[simp] theorem State.signalReevaluate_pending (j : Bool) (s : State) : (s.signalReevaluate j).pending = s.pending := by unfold State.signalReevaluate; simp only []; split <;> simp
@[simp] theorem State.signalReevaluate_loader (j : Bool) (s : State) : (s.signalReevaluate j).loader = s.loader := by unfold State.signalReevaluate; simp only []; split <;> simp
@[simp] theorem State.signalReevaluate_timing (j : Bool) (s : State) : (s.signalReevaluate j).timing = s.timing := by unfold State.signalReevaluate; simp only []; split <;> simp
@[simp] theorem State.signalReevaluate_line (j : Bool) (s : State) : (s.signalReevaluate j).line = s.line := by unfold State.signalReevaluate; simp only []; split <;> simp
@[simp] theorem State.signalReevaluate_peers (j : Bool) (s : State) : (s.signalReevaluate j).peers = s.peers := by unfold State.signalReevaluate; simp only []; split <;> simp
@[simp] theorem State.signalReevaluate_pm (j : Bool) (s : State) : (s.signalReevaluate j).pm = s.pm := by unfold State.signalReevaluate; simp only []; split <;> simp
@[simp] theorem State.signalReevaluate_show (j : Bool) (s : State) : (s.signalReevaluate j).show_ = s.show_ := by unfold State.signalReevaluate; simp only []; split <;> simp
@[simp] theorem State.signalReevaluate_plan (j : Bool) (s : State) : (s.signalReevaluate j).plan = s.plan := by unfold State.signalReevaluate; simp only []; split <;> simp
@[simp] theorem State.signalReevaluate_radio (j : Bool) (s : State) : (s.signalReevaluate j).radio = s.radio := by unfold State.signalReevaluate; simp only []; split <;> simp
@[simp] theorem State.signalReevaluate_roster (j : Bool) (s : State) : (s.signalReevaluate j).roster = s.roster := by unfold State.signalReevaluate; simp only []; split <;> simp

/-! signalState -/

@[simp] theorem State.signalState_pending (b : ShowState) (s : State) : (s.signalState b).pending = s.pending := by unfold State.signalState; split <;> simp
@[simp] theorem State.signalState_loader (b : ShowState) (s : State) : (s.signalState b).loader = s.loader := by unfold State.signalState; split <;> simp
@[simp] theorem State.signalState_timing (b : ShowState) (s : State) : (s.signalState b).timing = s.timing := by unfold State.signalState; split <;> simp
@[simp] theorem State.signalState_peers (b : ShowState) (s : State) : (s.signalState b).peers = s.peers := by unfold State.signalState; split <;> simp
@[simp] theorem State.signalState_link (b : ShowState) (s : State) : (s.signalState b).link = s.link := by unfold State.signalState; split <;> simp
@[simp] theorem State.signalState_show (b : ShowState) (s : State) : (s.signalState b).show_ = s.show_ := by unfold State.signalState; split <;> simp
@[simp] theorem State.signalState_cues (b : ShowState) (s : State) : (s.signalState b).cues = s.cues := by unfold State.signalState; split <;> simp
@[simp] theorem State.signalState_plan (b : ShowState) (s : State) : (s.signalState b).plan = s.plan := by unfold State.signalState; split <;> simp
@[simp] theorem State.signalState_radio (b : ShowState) (s : State) : (s.signalState b).radio = s.radio := by unfold State.signalState; split <;> simp
@[simp] theorem State.signalState_roster (b : ShowState) (s : State) : (s.signalState b).roster = s.roster := by unfold State.signalState; split <;> simp

/-! jumpTo -/

@[simp] theorem State.jumpTo_pending (t : Nat) (s : State) : (s.jumpTo t).pending = s.pending := by simp [State.jumpTo]
@[simp] theorem State.jumpTo_loader (t : Nat) (s : State) : (s.jumpTo t).loader = s.loader := by simp [State.jumpTo]
@[simp] theorem State.jumpTo_timing (t : Nat) (s : State) : (s.jumpTo t).timing = s.timing := by simp [State.jumpTo]
@[simp] theorem State.jumpTo_line (t : Nat) (s : State) : (s.jumpTo t).line = s.line := by simp [State.jumpTo]
@[simp] theorem State.jumpTo_peers (t : Nat) (s : State) : (s.jumpTo t).peers = s.peers := by simp [State.jumpTo]
@[simp] theorem State.jumpTo_pm (t : Nat) (s : State) : (s.jumpTo t).pm = s.pm := by simp [State.jumpTo]
@[simp] theorem State.jumpTo_plan (t : Nat) (s : State) : (s.jumpTo t).plan = s.plan := by simp [State.jumpTo]
@[simp] theorem State.jumpTo_radio (t : Nat) (s : State) : (s.jumpTo t).radio = s.radio := by simp [State.jumpTo]
@[simp] theorem State.jumpTo_roster (t : Nat) (s : State) : (s.jumpTo t).roster = s.roster := by simp [State.jumpTo]

/-! markClock -/

@[simp] theorem State.markClock_pending (t : Nat) (s : State) : (s.markClock t).pending = s.pending := by unfold State.markClock; (repeat' split) <;> simp
@[simp] theorem State.markClock_loader (t : Nat) (s : State) : (s.markClock t).loader = s.loader := by unfold State.markClock; (repeat' split) <;> simp
@[simp] theorem State.markClock_timing (t : Nat) (s : State) : (s.markClock t).timing = s.timing := by unfold State.markClock; (repeat' split) <;> simp
@[simp] theorem State.markClock_line (t : Nat) (s : State) : (s.markClock t).line = s.line := by unfold State.markClock; (repeat' split) <;> simp
@[simp] theorem State.markClock_peers (t : Nat) (s : State) : (s.markClock t).peers = s.peers := by unfold State.markClock; (repeat' split) <;> simp
@[simp] theorem State.markClock_pm (t : Nat) (s : State) : (s.markClock t).pm = s.pm := by unfold State.markClock; (repeat' split) <;> simp
@[simp] theorem State.markClock_plan (t : Nat) (s : State) : (s.markClock t).plan = s.plan := by unfold State.markClock; (repeat' split) <;> simp
@[simp] theorem State.markClock_radio (t : Nat) (s : State) : (s.markClock t).radio = s.radio := by unfold State.markClock; (repeat' split) <;> simp
@[simp] theorem State.markClock_roster (t : Nat) (s : State) : (s.markClock t).roster = s.roster := by unfold State.markClock; (repeat' split) <;> simp

/-! takeMark -/

@[simp] theorem State.takeMark_pending (t : Nat) (r : Bool) (s : State) : (s.takeMark t r).pending = s.pending := by simp [State.takeMark]
@[simp] theorem State.takeMark_loader (t : Nat) (r : Bool) (s : State) : (s.takeMark t r).loader = s.loader := by simp [State.takeMark]
@[simp] theorem State.takeMark_timing (t : Nat) (r : Bool) (s : State) : (s.takeMark t r).timing = s.timing := by simp [State.takeMark]
@[simp] theorem State.takeMark_peers (t : Nat) (r : Bool) (s : State) : (s.takeMark t r).peers = s.peers := by simp [State.takeMark]
@[simp] theorem State.takeMark_plan (t : Nat) (r : Bool) (s : State) : (s.takeMark t r).plan = s.plan := by simp [State.takeMark]
@[simp] theorem State.takeMark_radio (t : Nat) (r : Bool) (s : State) : (s.takeMark t r).radio = s.radio := by simp [State.takeMark]
@[simp] theorem State.takeMark_roster (t : Nat) (r : Bool) (s : State) : (s.takeMark t r).roster = s.roster := by simp [State.takeMark]

/-! clearShow -/

@[simp] theorem State.clearShow_pending (s : State) : (s.clearShow).pending = s.pending := by simp [State.clearShow]
@[simp] theorem State.clearShow_loader (s : State) : (s.clearShow).loader = s.loader := by simp [State.clearShow]
@[simp] theorem State.clearShow_timing (s : State) : (s.clearShow).timing = s.timing := by simp [State.clearShow]
@[simp] theorem State.clearShow_peers (s : State) : (s.clearShow).peers = s.peers := by simp [State.clearShow]
@[simp] theorem State.clearShow_link (s : State) : (s.clearShow).link = s.link := by simp [State.clearShow]
@[simp] theorem State.clearShow_plan (s : State) : (s.clearShow).plan = s.plan := by simp [State.clearShow]
@[simp] theorem State.clearShow_radio (s : State) : (s.clearShow).radio = s.radio := by simp [State.clearShow]

/-! endedTimerExpiry -/

@[simp] theorem State.endedTimerExpiry_pending (s : State) : (s.endedTimerExpiry).pending = s.pending := by unfold State.endedTimerExpiry; split <;> simp
@[simp] theorem State.endedTimerExpiry_loader (s : State) : (s.endedTimerExpiry).loader = s.loader := by unfold State.endedTimerExpiry; split <;> simp
@[simp] theorem State.endedTimerExpiry_timing (s : State) : (s.endedTimerExpiry).timing = s.timing := by unfold State.endedTimerExpiry; split <;> simp
@[simp] theorem State.endedTimerExpiry_peers (s : State) : (s.endedTimerExpiry).peers = s.peers := by unfold State.endedTimerExpiry; split <;> simp
@[simp] theorem State.endedTimerExpiry_link (s : State) : (s.endedTimerExpiry).link = s.link := by unfold State.endedTimerExpiry; split <;> simp
@[simp] theorem State.endedTimerExpiry_plan (s : State) : (s.endedTimerExpiry).plan = s.plan := by unfold State.endedTimerExpiry; split <;> simp
@[simp] theorem State.endedTimerExpiry_radio (s : State) : (s.endedTimerExpiry).radio = s.radio := by unfold State.endedTimerExpiry; split <;> simp

/-! marksLost -/

@[simp] theorem State.marksLost_pending (s : State) : (s.marksLost).pending = s.pending := by unfold State.marksLost; split <;> simp
@[simp] theorem State.marksLost_loader (s : State) : (s.marksLost).loader = s.loader := by unfold State.marksLost; split <;> simp
@[simp] theorem State.marksLost_timing (s : State) : (s.marksLost).timing = s.timing := by unfold State.marksLost; split <;> simp
@[simp] theorem State.marksLost_peers (s : State) : (s.marksLost).peers = s.peers := by unfold State.marksLost; split <;> simp
@[simp] theorem State.marksLost_cues (s : State) : (s.marksLost).cues = s.cues := by unfold State.marksLost; split <;> simp
@[simp] theorem State.marksLost_plan (s : State) : (s.marksLost).plan = s.plan := by unfold State.marksLost; split <;> simp
@[simp] theorem State.marksLost_radio (s : State) : (s.marksLost).radio = s.radio := by unfold State.marksLost; split <;> simp
@[simp] theorem State.marksLost_roster (s : State) : (s.marksLost).roster = s.roster := by unfold State.marksLost; split <;> simp

/-! freeze -/

@[simp] theorem State.freeze_pending (s : State) : (s.freeze).pending = s.pending := by unfold State.freeze; split <;> simp
@[simp] theorem State.freeze_loader (s : State) : (s.freeze).loader = s.loader := by unfold State.freeze; split <;> simp
@[simp] theorem State.freeze_timing (s : State) : (s.freeze).timing = s.timing := by unfold State.freeze; split <;> simp
@[simp] theorem State.freeze_peers (s : State) : (s.freeze).peers = s.peers := by unfold State.freeze; split <;> simp
@[simp] theorem State.freeze_plan (s : State) : (s.freeze).plan = s.plan := by unfold State.freeze; split <;> simp
@[simp] theorem State.freeze_radio (s : State) : (s.freeze).radio = s.radio := by unfold State.freeze; split <;> simp
@[simp] theorem State.freeze_roster (s : State) : (s.freeze).roster = s.roster := by unfold State.freeze; split <;> simp

/-! showLoad -/

@[simp] theorem State.showLoad_pending (i : BitVec 32) (t : Nat) (l : List TrackEntry) (s : State) : (s.showLoad i t l).pending = s.pending := by unfold State.showLoad; split <;> simp
@[simp] theorem State.showLoad_loader (i : BitVec 32) (t : Nat) (l : List TrackEntry) (s : State) : (s.showLoad i t l).loader = s.loader := by unfold State.showLoad; split <;> simp
@[simp] theorem State.showLoad_timing (i : BitVec 32) (t : Nat) (l : List TrackEntry) (s : State) : (s.showLoad i t l).timing = s.timing := by unfold State.showLoad; split <;> simp
@[simp] theorem State.showLoad_peers (i : BitVec 32) (t : Nat) (l : List TrackEntry) (s : State) : (s.showLoad i t l).peers = s.peers := by unfold State.showLoad; split <;> simp
@[simp] theorem State.showLoad_plan (i : BitVec 32) (t : Nat) (l : List TrackEntry) (s : State) : (s.showLoad i t l).plan = s.plan := by unfold State.showLoad; split <;> simp
@[simp] theorem State.showLoad_radio (i : BitVec 32) (t : Nat) (l : List TrackEntry) (s : State) : (s.showLoad i t l).radio = s.radio := by unfold State.showLoad; split <;> simp

/-! showEnd -/

@[simp] theorem State.showEnd_pending (s : State) : (s.showEnd).pending = s.pending := by unfold State.showEnd; split <;> simp
@[simp] theorem State.showEnd_loader (s : State) : (s.showEnd).loader = s.loader := by unfold State.showEnd; split <;> simp
@[simp] theorem State.showEnd_timing (s : State) : (s.showEnd).timing = s.timing := by unfold State.showEnd; split <;> simp
@[simp] theorem State.showEnd_peers (s : State) : (s.showEnd).peers = s.peers := by unfold State.showEnd; split <;> simp
@[simp] theorem State.showEnd_plan (s : State) : (s.showEnd).plan = s.plan := by unfold State.showEnd; split <;> simp
@[simp] theorem State.showEnd_radio (s : State) : (s.showEnd).radio = s.radio := by unfold State.showEnd; split <;> simp
@[simp] theorem State.showEnd_roster (s : State) : (s.showEnd).roster = s.roster := by unfold State.showEnd; split <;> simp

/-! mark -/

@[simp] theorem State.mark_pending (t : Nat) (r : Bool) (s : State) : (s.mark t r).pending = s.pending := by unfold State.mark; (repeat' split) <;> simp
@[simp] theorem State.mark_loader (t : Nat) (r : Bool) (s : State) : (s.mark t r).loader = s.loader := by unfold State.mark; (repeat' split) <;> simp
@[simp] theorem State.mark_timing (t : Nat) (r : Bool) (s : State) : (s.mark t r).timing = s.timing := by unfold State.mark; (repeat' split) <;> simp
@[simp] theorem State.mark_peers (t : Nat) (r : Bool) (s : State) : (s.mark t r).peers = s.peers := by unfold State.mark; (repeat' split) <;> simp
@[simp] theorem State.mark_plan (t : Nat) (r : Bool) (s : State) : (s.mark t r).plan = s.plan := by unfold State.mark; (repeat' split) <;> simp
@[simp] theorem State.mark_radio (t : Nat) (r : Bool) (s : State) : (s.mark t r).radio = s.radio := by unfold State.mark; (repeat' split) <;> simp
@[simp] theorem State.mark_roster (t : Nat) (r : Bool) (s : State) : (s.mark t r).roster = s.roster := by unfold State.mark; (repeat' split) <;> simp

/-! tableLoad -/

@[simp] theorem State.tableLoad_pending (t f : Nat) (v : List Byte) (s : State) : (s.tableLoad t f v).pending = s.pending := by unfold State.tableLoad; split <;> simp
@[simp] theorem State.tableLoad_loader (t f : Nat) (v : List Byte) (s : State) : (s.tableLoad t f v).loader = s.loader := by unfold State.tableLoad; split <;> simp
@[simp] theorem State.tableLoad_timing (t f : Nat) (v : List Byte) (s : State) : (s.tableLoad t f v).timing = s.timing := by unfold State.tableLoad; split <;> simp
@[simp] theorem State.tableLoad_line (t f : Nat) (v : List Byte) (s : State) : (s.tableLoad t f v).line = s.line := by unfold State.tableLoad; split <;> simp
@[simp] theorem State.tableLoad_peers (t f : Nat) (v : List Byte) (s : State) : (s.tableLoad t f v).peers = s.peers := by unfold State.tableLoad; split <;> simp
@[simp] theorem State.tableLoad_pm (t f : Nat) (v : List Byte) (s : State) : (s.tableLoad t f v).pm = s.pm := by unfold State.tableLoad; split <;> simp
@[simp] theorem State.tableLoad_cues (t f : Nat) (v : List Byte) (s : State) : (s.tableLoad t f v).cues = s.cues := by unfold State.tableLoad; split <;> simp
@[simp] theorem State.tableLoad_clips (t f : Nat) (v : List Byte) (s : State) : (s.tableLoad t f v).clips = s.clips := by unfold State.tableLoad; split <;> simp
@[simp] theorem State.tableLoad_plan (t f : Nat) (v : List Byte) (s : State) : (s.tableLoad t f v).plan = s.plan := by unfold State.tableLoad; split <;> simp
@[simp] theorem State.tableLoad_radio (t f : Nat) (v : List Byte) (s : State) : (s.tableLoad t f v).radio = s.radio := by unfold State.tableLoad; split <;> simp
@[simp] theorem State.tableLoad_roster (t f : Nat) (v : List Byte) (s : State) : (s.tableLoad t f v).roster = s.roster := by unfold State.tableLoad; split <;> simp

/-! cue -/

@[simp] theorem State.cue_pending (t a z g : Nat) (i c : Bool) (x : List Byte) (s : State) : (s.cue t a z g i c x).pending = s.pending := by unfold State.cue; (repeat' split) <;> simp
@[simp] theorem State.cue_loader (t a z g : Nat) (i c : Bool) (x : List Byte) (s : State) : (s.cue t a z g i c x).loader = s.loader := by unfold State.cue; (repeat' split) <;> simp
@[simp] theorem State.cue_timing (t a z g : Nat) (i c : Bool) (x : List Byte) (s : State) : (s.cue t a z g i c x).timing = s.timing := by unfold State.cue; (repeat' split) <;> simp
@[simp] theorem State.cue_line (t a z g : Nat) (i c : Bool) (x : List Byte) (s : State) : (s.cue t a z g i c x).line = s.line := by unfold State.cue; (repeat' split) <;> simp
@[simp] theorem State.cue_peers (t a z g : Nat) (i c : Bool) (x : List Byte) (s : State) : (s.cue t a z g i c x).peers = s.peers := by unfold State.cue; (repeat' split) <;> simp
@[simp] theorem State.cue_pm (t a z g : Nat) (i c : Bool) (x : List Byte) (s : State) : (s.cue t a z g i c x).pm = s.pm := by unfold State.cue; (repeat' split) <;> simp
@[simp] theorem State.cue_show (t a z g : Nat) (i c : Bool) (x : List Byte) (s : State) : (s.cue t a z g i c x).show_ = s.show_ := by unfold State.cue; (repeat' split) <;> simp
@[simp] theorem State.cue_clips (t a z g : Nat) (i c : Bool) (x : List Byte) (s : State) : (s.cue t a z g i c x).clips = s.clips := by unfold State.cue; (repeat' split) <;> simp
@[simp] theorem State.cue_plan (t a z g : Nat) (i c : Bool) (x : List Byte) (s : State) : (s.cue t a z g i c x).plan = s.plan := by unfold State.cue; (repeat' split) <;> simp
@[simp] theorem State.cue_radio (t a z g : Nat) (i c : Bool) (x : List Byte) (s : State) : (s.cue t a z g i c x).radio = s.radio := by unfold State.cue; (repeat' split) <;> simp
@[simp] theorem State.cue_roster (t a z g : Nat) (i c : Bool) (x : List Byte) (s : State) : (s.cue t a z g i c x).roster = s.roster := by unfold State.cue; (repeat' split) <;> simp

/-! cueCancel -/

@[simp] theorem State.cueCancel_pending (t a : Nat) (s : State) : (s.cueCancel t a).pending = s.pending := by unfold State.cueCancel; split <;> simp
@[simp] theorem State.cueCancel_loader (t a : Nat) (s : State) : (s.cueCancel t a).loader = s.loader := by unfold State.cueCancel; split <;> simp
@[simp] theorem State.cueCancel_timing (t a : Nat) (s : State) : (s.cueCancel t a).timing = s.timing := by unfold State.cueCancel; split <;> simp
@[simp] theorem State.cueCancel_line (t a : Nat) (s : State) : (s.cueCancel t a).line = s.line := by unfold State.cueCancel; split <;> simp
@[simp] theorem State.cueCancel_peers (t a : Nat) (s : State) : (s.cueCancel t a).peers = s.peers := by unfold State.cueCancel; split <;> simp
@[simp] theorem State.cueCancel_pm (t a : Nat) (s : State) : (s.cueCancel t a).pm = s.pm := by unfold State.cueCancel; split <;> simp
@[simp] theorem State.cueCancel_show (t a : Nat) (s : State) : (s.cueCancel t a).show_ = s.show_ := by unfold State.cueCancel; split <;> simp
@[simp] theorem State.cueCancel_clips (t a : Nat) (s : State) : (s.cueCancel t a).clips = s.clips := by unfold State.cueCancel; split <;> simp
@[simp] theorem State.cueCancel_plan (t a : Nat) (s : State) : (s.cueCancel t a).plan = s.plan := by unfold State.cueCancel; split <;> simp
@[simp] theorem State.cueCancel_radio (t a : Nat) (s : State) : (s.cueCancel t a).radio = s.radio := by unfold State.cueCancel; split <;> simp
@[simp] theorem State.cueCancel_roster (t a : Nat) (s : State) : (s.cueCancel t a).roster = s.roster := by unfold State.cueCancel; split <;> simp

/-! clipHead -/

@[simp] theorem State.clipHead_pending (i t a l : Nat) (s : State) : (s.clipHead i t a l).pending = s.pending := by unfold State.clipHead; (repeat' split) <;> simp
@[simp] theorem State.clipHead_loader (i t a l : Nat) (s : State) : (s.clipHead i t a l).loader = s.loader := by unfold State.clipHead; (repeat' split) <;> simp
@[simp] theorem State.clipHead_timing (i t a l : Nat) (s : State) : (s.clipHead i t a l).timing = s.timing := by unfold State.clipHead; (repeat' split) <;> simp
@[simp] theorem State.clipHead_line (i t a l : Nat) (s : State) : (s.clipHead i t a l).line = s.line := by unfold State.clipHead; (repeat' split) <;> simp
@[simp] theorem State.clipHead_peers (i t a l : Nat) (s : State) : (s.clipHead i t a l).peers = s.peers := by unfold State.clipHead; (repeat' split) <;> simp
@[simp] theorem State.clipHead_pm (i t a l : Nat) (s : State) : (s.clipHead i t a l).pm = s.pm := by unfold State.clipHead; (repeat' split) <;> simp
@[simp] theorem State.clipHead_show (i t a l : Nat) (s : State) : (s.clipHead i t a l).show_ = s.show_ := by unfold State.clipHead; (repeat' split) <;> simp
@[simp] theorem State.clipHead_cues (i t a l : Nat) (s : State) : (s.clipHead i t a l).cues = s.cues := by unfold State.clipHead; (repeat' split) <;> simp
@[simp] theorem State.clipHead_plan (i t a l : Nat) (s : State) : (s.clipHead i t a l).plan = s.plan := by unfold State.clipHead; (repeat' split) <;> simp
@[simp] theorem State.clipHead_radio (i t a l : Nat) (s : State) : (s.clipHead i t a l).radio = s.radio := by unfold State.clipHead; (repeat' split) <;> simp
@[simp] theorem State.clipHead_roster (i t a l : Nat) (s : State) : (s.clipHead i t a l).roster = s.roster := by unfold State.clipHead; (repeat' split) <;> simp

/-! clipData -/

@[simp] theorem State.clipData_pending (i f : Nat) (b : List (List Byte)) (s : State) : (s.clipData i f b).pending = s.pending := by unfold State.clipData; (repeat' split) <;> simp
@[simp] theorem State.clipData_loader (i f : Nat) (b : List (List Byte)) (s : State) : (s.clipData i f b).loader = s.loader := by unfold State.clipData; (repeat' split) <;> simp
@[simp] theorem State.clipData_timing (i f : Nat) (b : List (List Byte)) (s : State) : (s.clipData i f b).timing = s.timing := by unfold State.clipData; (repeat' split) <;> simp
@[simp] theorem State.clipData_line (i f : Nat) (b : List (List Byte)) (s : State) : (s.clipData i f b).line = s.line := by unfold State.clipData; (repeat' split) <;> simp
@[simp] theorem State.clipData_peers (i f : Nat) (b : List (List Byte)) (s : State) : (s.clipData i f b).peers = s.peers := by unfold State.clipData; (repeat' split) <;> simp
@[simp] theorem State.clipData_pm (i f : Nat) (b : List (List Byte)) (s : State) : (s.clipData i f b).pm = s.pm := by unfold State.clipData; (repeat' split) <;> simp
@[simp] theorem State.clipData_show (i f : Nat) (b : List (List Byte)) (s : State) : (s.clipData i f b).show_ = s.show_ := by unfold State.clipData; (repeat' split) <;> simp
@[simp] theorem State.clipData_cues (i f : Nat) (b : List (List Byte)) (s : State) : (s.clipData i f b).cues = s.cues := by unfold State.clipData; (repeat' split) <;> simp
@[simp] theorem State.clipData_plan (i f : Nat) (b : List (List Byte)) (s : State) : (s.clipData i f b).plan = s.plan := by unfold State.clipData; (repeat' split) <;> simp
@[simp] theorem State.clipData_radio (i f : Nat) (b : List (List Byte)) (s : State) : (s.clipData i f b).radio = s.radio := by unfold State.clipData; (repeat' split) <;> simp
@[simp] theorem State.clipData_roster (i f : Nat) (b : List (List Byte)) (s : State) : (s.clipData i f b).roster = s.roster := by unfold State.clipData; (repeat' split) <;> simp

/-! clipCancel -/

@[simp] theorem State.clipCancel_pending (i : Nat) (s : State) : (s.clipCancel i).pending = s.pending := by unfold State.clipCancel; (repeat' split) <;> simp
@[simp] theorem State.clipCancel_loader (i : Nat) (s : State) : (s.clipCancel i).loader = s.loader := by unfold State.clipCancel; (repeat' split) <;> simp
@[simp] theorem State.clipCancel_timing (i : Nat) (s : State) : (s.clipCancel i).timing = s.timing := by unfold State.clipCancel; (repeat' split) <;> simp
@[simp] theorem State.clipCancel_line (i : Nat) (s : State) : (s.clipCancel i).line = s.line := by unfold State.clipCancel; (repeat' split) <;> simp
@[simp] theorem State.clipCancel_peers (i : Nat) (s : State) : (s.clipCancel i).peers = s.peers := by unfold State.clipCancel; (repeat' split) <;> simp
@[simp] theorem State.clipCancel_pm (i : Nat) (s : State) : (s.clipCancel i).pm = s.pm := by unfold State.clipCancel; (repeat' split) <;> simp
@[simp] theorem State.clipCancel_show (i : Nat) (s : State) : (s.clipCancel i).show_ = s.show_ := by unfold State.clipCancel; (repeat' split) <;> simp
@[simp] theorem State.clipCancel_cues (i : Nat) (s : State) : (s.clipCancel i).cues = s.cues := by unfold State.clipCancel; (repeat' split) <;> simp
@[simp] theorem State.clipCancel_plan (i : Nat) (s : State) : (s.clipCancel i).plan = s.plan := by unfold State.clipCancel; (repeat' split) <;> simp
@[simp] theorem State.clipCancel_radio (i : Nat) (s : State) : (s.clipCancel i).radio = s.radio := by unfold State.clipCancel; (repeat' split) <;> simp
@[simp] theorem State.clipCancel_roster (i : Nat) (s : State) : (s.clipCancel i).roster = s.roster := by unfold State.clipCancel; (repeat' split) <;> simp

/-! powerOn -/

@[simp] theorem State.powerOn_pending (s : State) : (s.powerOn).pending = s.pending := by unfold State.powerOn; split <;> simp

/-! powerLoss -/

@[simp] theorem State.powerLoss_pending (s : State) : (s.powerLoss).pending = s.pending := by simp [State.powerLoss]

/-! restartLine -/

@[simp] theorem State.restartLine_pending (w : Nat) (s : State) : (s.restartLine w).pending = s.pending := by unfold State.restartLine; split <;> simp

/-! restartLineReleased -/

@[simp] theorem State.restartLineReleased_pending (s : State) : (s.restartLineReleased).pending = s.pending := by unfold State.restartLineReleased; split <;> simp

/-! configReadComplete -/

@[simp] theorem State.configReadComplete_pending (b : List Byte) (s : State) : (s.configReadComplete b).pending = s.pending := by unfold State.configReadComplete; (repeat' split) <;> simp [State.enterConfigFault]
@[simp] theorem State.configReadComplete_line (b : List Byte) (s : State) : (s.configReadComplete b).line = s.line := by unfold State.configReadComplete; (repeat' split) <;> simp [State.enterConfigFault]
@[simp] theorem State.configReadComplete_peers (b : List Byte) (s : State) : (s.configReadComplete b).peers = s.peers := by unfold State.configReadComplete; (repeat' split) <;> simp [State.enterConfigFault]
@[simp] theorem State.configReadComplete_pm (b : List Byte) (s : State) : (s.configReadComplete b).pm = s.pm := by unfold State.configReadComplete; (repeat' split) <;> simp [State.enterConfigFault]
@[simp] theorem State.configReadComplete_show (b : List Byte) (s : State) : (s.configReadComplete b).show_ = s.show_ := by unfold State.configReadComplete; (repeat' split) <;> simp [State.enterConfigFault]
@[simp] theorem State.configReadComplete_cues (b : List Byte) (s : State) : (s.configReadComplete b).cues = s.cues := by unfold State.configReadComplete; (repeat' split) <;> simp [State.enterConfigFault]
@[simp] theorem State.configReadComplete_clips (b : List Byte) (s : State) : (s.configReadComplete b).clips = s.clips := by unfold State.configReadComplete; (repeat' split) <;> simp [State.enterConfigFault]
@[simp] theorem State.configReadComplete_plan (b : List Byte) (s : State) : (s.configReadComplete b).plan = s.plan := by unfold State.configReadComplete; (repeat' split) <;> simp [State.enterConfigFault]
@[simp] theorem State.configReadComplete_radio (b : List Byte) (s : State) : (s.configReadComplete b).radio = s.radio := by unfold State.configReadComplete; (repeat' split) <;> simp [State.enterConfigFault]

end Sys2Proof.Machine
end

