-- ==== Sys2Proof/Laws/Shared.lean ====
section
/-! SUPPORT. What the shared operations do, once: counters, ordered lists, the peer table's answers, a clip cut, the event set
and the outbound queue, the house line's queue, and the outcome of a command. -/

namespace Sys2Proof.Machine

/-! ## Counters -/

theorem bumpBy_le (k c : Nat) : bumpBy k c ≤ Config.counterMax := Nat.min_le_left _ _

theorem bump_le (c : Nat) : bump c ≤ Config.counterMax := bumpBy_le 1 c

theorem bump_of_lt {c : Nat} (h : c < Config.counterMax) : bump c = c + 1 := by
  unfold bump bumpBy; omega

/-! ## Ordered lists -/

theorem length_insertBy {α : Type} (before : α → α → Bool) (x : α) (l : List α) :
    (insertBy before x l).length = l.length + 1 := by
  induction l with
  | nil => rfl
  | cons y ys ih => unfold insertBy; split <;> simp [ih]

theorem mem_insertBy {α : Type} (before : α → α → Bool) (x y : α) (l : List α) :
    y ∈ insertBy before x l ↔ y = x ∨ y ∈ l := by
  induction l with
  | nil => simp [insertBy]
  | cons z zs ih =>
    unfold insertBy
    split
    · simp only [List.mem_cons, ih]; tauto
    · simp only [List.mem_cons]

theorem mem_sortBy {α : Type} (before : α → α → Bool) (y : α) (l : List α) : y ∈ sortBy before l ↔ y ∈ l := by
  induction l with
  | nil => simp [sortBy]
  | cons z zs ih => simp [sortBy, mem_insertBy, ih]

theorem length_sortBy {α : Type} (before : α → α → Bool) (l : List α) : (sortBy before l).length = l.length := by
  induction l with
  | nil => rfl
  | cons z zs ih => simp [sortBy, length_insertBy, ih]

theorem mem_of_firstBy {α : Type} {before : α → α → Bool} {x : α} {l : List α} (h : firstBy before l = some x) : x ∈ l := by
  induction l generalizing x with
  | nil => simp [firstBy] at h
  | cons y ys ih =>
    unfold firstBy at h
    split at h
    · simp_all
    · rename_i z hz
      split at h
      · cases h; exact List.mem_cons_of_mem _ (ih hz)
      · cases h; exact List.mem_cons_self

/-- An order has a first element exactly if there is an element. -/
theorem isSome_firstBy {α : Type} (before : α → α → Bool) (l : List α) : (firstBy before l).isSome = !l.isEmpty := by
  cases l with
  | nil => rfl
  | cons x xs => unfold firstBy; (repeat' split) <;> rfl

/-! ## The peer table's answers (R137, R138) -/

/-- A peer has precedence exactly if some record has. -/
theorem peerPrecedes_eq_any (cfg : ConfigImage) (peers : List PeerRecord) (h : Stamped) :
    peerPrecedes cfg peers h = peers.any (PeerRecord.precedesAt cfg h.position h.stamp) := by
  unfold peerPrecedes precedenceOver
  rw [Option.isSome_map, isSome_firstBy]
  induction peers with
  | nil => rfl
  | cons r rs ih => cases hr : PeerRecord.precedesAt cfg h.position h.stamp r <;> simp_all

/-- A position is occupied exactly if some conflicting record holds or claims it. -/
theorem occupied_eq_any (cfg : ConfigImage) (peers : List PeerRecord) (p : Position) :
    occupied cfg peers p = peers.any (fun r => conflicts cfg r && (r.holds p || r.claims p)) := by
  unfold occupied occupants
  induction peers with
  | nil => rfl
  | cons r rs ih =>
    simp only [List.filter_cons, List.any_cons] at ih ⊢
    cases conflicts cfg r <;> cases r.holds p <;> cases r.claims p <;> simp_all

/-! ## What cutting a clip changes (R53) -/

@[simp] theorem ClipStore.cut_memory (s : ClipStore) (i : Nat) : (s.cut i).memory = s.memory := by
  unfold ClipStore.cut; split <;> rfl

@[simp] theorem ClipStore.cut_skipped (s : ClipStore) (i : Nat) : (s.cut i).skipped = s.skipped := by
  unfold ClipStore.cut; split <;> rfl

@[simp] theorem ClipStore.cut_slip (s : ClipStore) (i : Nat) : (s.cut i).slip = s.slip := by
  unfold ClipStore.cut; split <;> rfl

/-- Cutting leaves every clip's id, track, start, pages and flags. -/
theorem ClipStore.cut_clips (s : ClipStore) (i : Nat) : ∃ f : Clip → Clip, (s.cut i).clips = s.clips.map f
    ∧ ∀ c, (f c).id = c.id ∧ (f c).track = c.track ∧ (f c).start = c.start ∧ (f c).length = c.length
        ∧ (f c).pages = c.pages ∧ (f c).loaded = c.loaded ∧ ((f c).state = c.state ∨ (f c).state = .spent) := by
  unfold ClipStore.cut
  split
  · rename_i cur _
    refine ⟨fun c => if c.id == cur.clip then { c with state := .spent } else c, rfl, fun c => ?_⟩
    dsimp only
    split <;> simp
  · exact ⟨fun c => c, by simp, fun c => by simp⟩

/-! ## The event set and the outbound queue (R164 to R166) -/

/-- A raised event is set, and no other event changes. -/
theorem ShowLink.has_raise (k : ShowLink) (e e' : Event) : (k.raise e).has e' = (k.has e' || e' == e) := by
  have hs : ∀ l : ShowLink, l.handStatus.events = l.events := by
    intro l; unfold ShowLink.handStatus; (repeat' split) <;> rfl
  have bits : ∀ x : BitVec 16, ((x ||| e.bit) &&& e'.bit != 0) = ((x &&& e'.bit != 0) || e' == e) := by
    intro x
    cases e <;> cases e' <;> simp only [Event.bit, bne] <;> rw [BitVec.and_or_distrib_right] <;> simp
  unfold ShowLink.raise
  split
  · rename_i h
    by_cases he : e' = e
    · subst he; simp [h]
    · simp [he]
  · simp only [ShowLink.has, hs]
    exact bits _

/-- Handing over a STATUS keeps the queue's bound and the rule of one waiting STATUS. -/
theorem ShowLink.handStatus_bounded (k : ShowLink) (h : k.outQueue.length ≤ Config.maxOutbound)
    (h1 : (k.outQueue.filter (· == .status)).length ≤ 1) :
    k.handStatus.outQueue.length ≤ Config.maxOutbound
      ∧ (k.handStatus.outQueue.filter (· == .status)).length ≤ 1 := by
  unfold ShowLink.handStatus
  split
  · exact ⟨h, h1⟩
  · rename_i hc
    have hno : ∀ o ∈ k.outQueue, o ≠ .status := by
      intro o ho he
      subst he
      exact hc (List.contains_iff_mem.2 ho)
    split
    · rename_i hl
      refine ⟨by simp only [List.length_append, List.length_singleton]; omega, ?_⟩
      have : k.outQueue.filter (· == .status) = [] := by
        rw [List.filter_eq_nil_iff]; intro o ho; simpa using hno o ho
      simp [List.filter_append, this]
    · rename_i hl
      have hd : dropNewestRefusal k.outQueue = k.outQueue.dropLast := by
        unfold dropNewestRefusal
        cases hq : k.outQueue.reverse with
        | nil => simp [List.reverse_eq_nil_iff.1 hq]
        | cons x xs =>
          have : k.outQueue = (x :: xs).reverse := by rw [← hq, List.reverse_reverse]
          simp [this]
      refine ⟨?_, ?_⟩
      · simp only [hd, List.length_append, List.length_dropLast, List.length_singleton]
        unfold Config.maxOutbound at *; omega
      · have : k.outQueue.dropLast.filter (· == .status) = [] := by
          rw [List.filter_eq_nil_iff]; intro o ho; simpa using hno o (List.mem_of_mem_dropLast ho)
        simp [hd, List.filter_append, this]

/-- Handing over a REFUSAL keeps both. -/
theorem ShowLink.handRefusal_bounded (r : RefusalRecord) (k : ShowLink) (h : k.outQueue.length ≤ Config.maxOutbound)
    (h1 : (k.outQueue.filter (· == .status)).length ≤ 1) :
    (k.handRefusal r).outQueue.length ≤ Config.maxOutbound
      ∧ ((k.handRefusal r).outQueue.filter (· == .status)).length ≤ 1 := by
  unfold ShowLink.handRefusal
  split
  · rename_i hl
    refine ⟨by simp only [List.length_append, List.length_singleton]; omega, ?_⟩
    simpa [List.filter_append] using h1
  · exact ⟨h, h1⟩

/-! ## The house line's queue (R116) -/

/-- A message that joins the queue keeps its bound. -/
theorem HouseLine.length_join (m : Waiting) (l : HouseLine) (h : l.queue.length ≤ Config.maxMessages) :
    (l.join m).queue.length ≤ Config.maxMessages := by
  unfold HouseLine.join
  split
  · exact h
  · split
    · rename_i hl; simp only [length_insertBy]; omega
    · split
      · exact h
      · rename_i hl last hq
        split
        · exact h
        · simp only [length_insertBy, List.length_dropLast]
          cases hn : l.queue with
          | nil => simp [hn] at hq
          | cons x xs => simp only [hn, List.length_cons] at h ⊢; omega

/-! ## The outcome of a command -/

/-- Every command answers a next state: its effect after the time that passed, and the end of the step. -/
@[simp] theorem run_eq (dt : Nat) (effect : State → State) (s : State) :
    run dt effect s = .next (finish (effect (advance dt s))) := rfl

/-- The end of a step changes no station state and no configuration. -/
@[simp] theorem finish_station (s : State) : (finish s).loader.station = s.loader.station := by simp [finish]

@[simp] theorem finish_config (s : State) : (finish s).loader.config = s.loader.config := by simp [finish]

end Sys2Proof.Machine
end

