-- ==== Sys2Proof/Laws/Stores.lean ====
section
/-! SUPPORT. The addressed stores: what a write does to every read, and that every write keeps the canonical form. -/

namespace Sys2Proof.Machine

/-- A byte written is the byte read; every other address reads as before. -/
theorem Memory.read_write (d : Nat → Byte) (m : List Host.Cell) (a : Nat) (v : Byte) (x : Nat)
    (h : Memory.wf d m = true) :
    Memory.read d (Memory.write d m a v) x = if x = a then v else Memory.read d m x := by
  induction m with
  | nil =>
    simp only [Memory.write]
    split <;> rename_i hv
    · split <;> rename_i hx
      · subst hx; simp [Memory.read, hv]
      · rfl
    · simp only [Memory.read]
      by_cases hx : x = a
      · subst hx; simp
      · simp [hx, Ne.symm hx]
  | cons c rest ih =>
    obtain ⟨k, b⟩ := c
    simp only [Memory.wf, Bool.and_eq_true, bne_iff_ne, ne_eq, List.all_eq_true, decide_eq_true_eq] at h
    obtain ⟨⟨hb, hlt⟩, hr⟩ := h
    have far : ∀ y, y ≤ k → ∀ l : List Host.Cell, (∀ c ∈ l, k < c.1) → Memory.read d l y = d y := by
      intro y hy l
      induction l with
      | nil => intro _; rfl
      | cons e l ihl =>
        intro hl
        obtain ⟨j, w⟩ := e
        have hj : k < j := hl (j, w) (by simp)
        simp only [Memory.read]
        rw [if_neg (by omega)]
        exact ihl (fun c hc => hl c (List.mem_cons_of_mem _ hc))
    simp only [Memory.write]
    split <;> rename_i hak
    · split <;> rename_i hv
      · by_cases hx : x = a
        · subst hx
          simp only [Memory.read, if_true]
          rw [if_neg (by omega), far x (by omega) rest hlt, hv]
        · simp [hx]
      · simp only [Memory.read]
        by_cases hx : x = a
        · subst hx; simp
        · simp [hx, Ne.symm hx]
    · split <;> rename_i hkk
      · subst hkk
        split <;> rename_i hv
        · by_cases hx : x = a
          · subst hx; simp [far x (le_refl x) rest hlt, hv]
          · simp [Memory.read, hx, Ne.symm hx]
        · simp only [Memory.read]
          by_cases hx : x = a
          · subst hx; simp
          · simp [hx, Ne.symm hx]
      · simp only [Memory.read]
        by_cases hx : k = x
        · subst hx; simp [Ne.symm hkk]
        · simp [hx, ih hr]

/-- Every listed address of a written store was listed before, or is the address written. -/
theorem Memory.mem_write (d : Nat → Byte) (m : List Host.Cell) (a : Nat) (v : Byte) (c : Host.Cell)
    (hc : c ∈ Memory.write d m a v) : c ∈ m ∨ c.1 = a := by
  induction m with
  | nil =>
    simp only [Memory.write] at hc
    split at hc
    · simp at hc
    · simp only [List.mem_singleton] at hc; exact Or.inr (by rw [hc])
  | cons e rest ih =>
    obtain ⟨k, b⟩ := e
    simp only [Memory.write] at hc
    split at hc
    · split at hc
      · exact Or.inl hc
      · rcases List.mem_cons.1 hc with h | h
        · exact Or.inr (by rw [h])
        · exact Or.inl h
    · split at hc
      · split at hc
        · exact Or.inl (List.mem_cons_of_mem _ hc)
        · rcases List.mem_cons.1 hc with h | h
          · exact Or.inr (by rw [h])
          · exact Or.inl (List.mem_cons_of_mem _ h)
      · rcases List.mem_cons.1 hc with h | h
        · exact Or.inl (by rw [h]; exact List.mem_cons_self)
        · rcases ih h with h | h
          · exact Or.inl (List.mem_cons_of_mem _ h)
          · exact Or.inr h

/-- A write keeps the canonical form. -/
theorem Memory.wf_write (d : Nat → Byte) (m : List Host.Cell) (a : Nat) (v : Byte) (h : Memory.wf d m = true) :
    Memory.wf d (Memory.write d m a v) = true := by
  induction m with
  | nil =>
    simp only [Memory.write]
    split <;> rename_i hv
    · rfl
    · simp [Memory.wf, hv]
  | cons c rest ih =>
    obtain ⟨k, b⟩ := c
    have h' := h
    simp only [Memory.wf, Bool.and_eq_true, bne_iff_ne, ne_eq, List.all_eq_true, decide_eq_true_eq] at h'
    obtain ⟨⟨hb, hlt⟩, hr⟩ := h'
    simp only [Memory.write]
    split <;> rename_i hak
    · split <;> rename_i hv
      · exact h
      · simp only [Memory.wf, Bool.and_eq_true, bne_iff_ne, ne_eq, List.all_eq_true, decide_eq_true_eq, List.mem_cons]
        refine ⟨⟨hv, ?_⟩, ⟨⟨hb, hlt⟩, hr⟩⟩
        rintro e (he | he)
        · rw [he]; exact hak
        · exact lt_trans hak (hlt e he)
    · split <;> rename_i hkk
      · subst hkk
        split <;> rename_i hv
        · exact hr
        · simp only [Memory.wf, Bool.and_eq_true, bne_iff_ne, ne_eq, List.all_eq_true, decide_eq_true_eq]
          exact ⟨⟨hv, hlt⟩, hr⟩
      · simp only [Memory.wf, Bool.and_eq_true, bne_iff_ne, ne_eq, List.all_eq_true, decide_eq_true_eq]
        refine ⟨⟨hb, ?_⟩, ih hr⟩
        intro e he
        rcases Memory.mem_write d rest a v e he with h | h
        · exact hlt e h
        · omega

/-- A run of writes keeps the canonical form. -/
theorem Memory.wf_writeRun (d : Nat → Byte) (vs : List Byte) (m : List Host.Cell) (a : Nat) (h : Memory.wf d m = true) :
    Memory.wf d (Memory.writeRun d m a vs) = true := by
  induction vs generalizing m a with
  | nil => exact h
  | cons v vs ih => exact ih _ _ (Memory.wf_write d m a v h)

/-- A run of writes: inside it the value listed for the address, outside it what was there. -/
theorem Memory.read_writeRun (d : Nat → Byte) (vs : List Byte) (m : List Host.Cell) (a x : Nat)
    (h : Memory.wf d m = true) :
    Memory.read d (Memory.writeRun d m a vs) x =
      if a ≤ x ∧ x < a + vs.length then vs.getD (x - a) 0 else Memory.read d m x := by
  induction vs generalizing m a with
  | nil =>
    simp only [Memory.writeRun, List.length_nil, Nat.add_zero]
    rw [if_neg (by omega)]
  | cons v vs ih =>
    simp only [Memory.writeRun, List.length_cons]
    rw [ih _ _ (Memory.wf_write d m a v h), Memory.read_write d m a v x h]
    by_cases hx : x = a
    · subst hx
      rw [if_neg (by omega), if_pos rfl, if_pos (by omega)]
      simp
    · by_cases hin : a + 1 ≤ x ∧ x < a + 1 + vs.length
      · rw [if_pos hin, if_pos (by omega)]
        have : x - a = (x - (a + 1)) + 1 := by omega
        rw [this]; simp
      · rw [if_neg hin, if_neg hx, if_neg (by omega)]

end Sys2Proof.Machine
end

