-- ==== Sys2Proof/Tests/Slice0.lean ====
section
/-! SUPPORT. Tests: what the formats refuse, values the manual works out itself, and, for every statement with hypotheses, a
concrete state and operands that meet all of them (clause by clause, at a boundary value where the clause has a range). -/

namespace Sys2Proof.Tests

open Sys2Proof Sys2Proof.Machine

set_option Elab.async false

/-! ## States to start from -/

def at_ (carrier slot : Fin 8) : Position := { carrier := carrier, slot := slot }

/-- Station 9 on carriers 1 and 2, with stations 2 and 8 as neighbours. -/
def home : ConfigImage := { number := 9, carriers := 6, neighbours := 130, maxHoldings := 4, outputLevel := 3 }

def peer (n : Nat) (hs : List Stamped) : PeerRecord := { PeerRecord.fresh n with timing := .pace, holdings := hs }

/-- A station in a station state in frame f, its receivers running. -/
def station (st : StationState) (f : FrameNo) : State :=
  { State.reset with
    loader := { Loader.reset with station := st, config := some home }
    timing := { Timing.reset with running := true, frameNumber := f }
    line := { HouseLine.reset with receiving := true }
    link := { ShowLink.reset with framing := .hunt, holdLine := false } }

/-- JOINED, in PACE. -/
def joinedAt (f : FrameNo) : State :=
  let s := station .joined f
  { s with timing := { s.timing with state := .pace } }

/-- The running frame has just lasted its length. -/
def ending (s : State) : State := { s with timing := { s.timing with frameElapsed := s.timing.frameLength } }

/-- A boundary has just been issued. -/
def begun (s : State) : State := { s with timing := { s.timing with boundaryOpen := true } }

/-- Another station's message is on the line since own frame 100, phase 1,000. -/
def hearing (s : State) : State :=
  { s with line := { s.line with busy := true, heardFrame := 100, heardPhase := 1000 } }

def from_ (n : Nat) : Sender := { number := n, frame := 200, phase := 1500, timing := .pace }

/-- A show with caption track 1 and description track 2 (on engine 0), at show time 5,000. -/
def showing (st : ShowState) : ShowControl :=
  { ShowControl.reset with
    state := st, session := some 7, clock := 5000, markLoss := some 0
    tracks :=
      [{ number := 1, kind := .caption, language := [101, 110, 103], requiredClass := 2, table := 0, carryAlways := false },
       { number := 2, kind := .description, language := [101, 110, 103], requiredClass := 0, table := 0, carryAlways := false }]
    binding := { e0 := some 2, e1 := none, e2 := none, e3 := none } }

def playing (st : ShowState) : State := { joinedAt 100 with show_ := showing st }

/-- A record at the head of the receive queue. -/
def taking (r : Record) (s : State) : State := { s with link := { s.link with rxQueue := [r] } }

def holding (hs : List Stamped) (demand : Nat) (s : State) : State :=
  { s with pm := { s.pm with holdings := hs, demand := demand } }

def h1 : Stamped := { position := at_ 1 2, stamp := 40 }
def h2 : Stamped := { position := at_ 1 5, stamp := 60 }

def aCue (state : CueState) (due : Option FrameNo) : Cue :=
  { track := 1, start := 4000, stop := 8000, region := 3, italic := false, speakerChange := false, text := [72, 105]
    state := state, everShown := true, startedFrame := some 90, refreshDue := due, lateNoted := false, changed := false }

def aClip (state : ClipState) (loaded : List Bool) : Clip :=
  { id := 5, track := 2, start := 4000, length := loaded.length, pages := [0], loaded := loaded, state := state
    everPlayed := false }

/-- The state after a command. -/
def after (c : Instr) (s : State) : State :=
  match exec c s with
  | .next t => t
  | _ => s

/-! ## What the formats refuse -/

theorem test_image_of_nine_bytes_is_ill_formed : (Instr.configReadComplete 0 (List.replicate 9 0)).wf = false := by decide
theorem test_station_zero_is_ill_formed : (Instr.peerRecordExpiry 0 0).wf = false := by decide
theorem test_station_33_is_ill_formed : (Instr.peerClaimPassed 0 33).wf = false := by decide
theorem test_auditorium_256_is_ill_formed : (Instr.join 0 1 256 0 0 0).wf = false := by decide
theorem test_ticket_class_4_is_ill_formed : (Instr.join 0 1 0 0 4 0).wf = false := by decide
theorem test_track_256_is_ill_formed : (Instr.join 0 1 0 0 0 256).wf = false := by decide
theorem test_announced_demand_5_is_ill_formed :
    (Instr.announce 0 (from_ 2) { neighbours := 0, demand := 5, holdings := [], claim := none }).wf = false := by decide
theorem test_five_announced_holdings_are_ill_formed :
    (Instr.announce 0 (from_ 2) { neighbours := 0, demand := 0, holdings := List.replicate 5 h1, claim := none }).wf
      = false := by decide
theorem test_announce_of_station_0_is_ill_formed :
    (Instr.announce 0 (from_ 0) { neighbours := 0, demand := 0, holdings := [], claim := none }).wf = false := by decide
theorem test_phase_20000_is_ill_formed :
    (Instr.claim 0 { from_ 2 with phase := 20000 } (at_ 0 0) 0).wf = false := by decide
theorem test_object_to_station_33_is_ill_formed : (Instr.object 0 (from_ 2) (at_ 0 0) 0 33).wf = false := by decide
theorem test_object_of_station_33_is_ill_formed : (Instr.object 0 (from_ 33) (at_ 0 0) 0 1).wf = false := by decide
theorem test_release_of_station_33_is_ill_formed : (Instr.release 0 (from_ 33) (at_ 0 0) .demand).wf = false := by decide
theorem test_record_of_four_bytes_is_ill_formed : (Instr.recordComplete 0 (List.replicate 4 0)).wf = false := by decide
theorem test_record_of_267_bytes_is_ill_formed :
    (Instr.recordComplete 0 (List.replicate 267 0)).wf = false := by decide +kernel
theorem test_gap_after_266_bytes_is_ill_formed : (Instr.recordGap 0 (List.replicate 266 0)).wf = false := by decide +kernel
theorem test_break_after_266_bytes_is_ill_formed :
    (Instr.recordBroken 0 (List.replicate 266 0) true).wf = false := by decide +kernel
theorem test_plain_commands_are_well_formed :
    (Instr.frameBoundary 0 true).wf = true ∧ (Instr.claim 0 (from_ 2) (at_ 7 7) 0).wf = true
      ∧ (Instr.join 0 1 255 0 3 255).wf = true := by decide

/-! ## Values the manual states -/

/-- R176: over the nine ASCII bytes 1 to 9 the check is 10,673. -/
theorem test_check_of_123456789 : (crc [49, 50, 51, 52, 53, 54, 55, 56, 57]).toNat = 10673 := by decide +kernel

/-- No row gives bits, so no word spells a command. -/
theorem test_no_word_spells_a_command : decodeTableWord 8 0 = none ∧ State.reset.withFetchWord 8 0 = State.reset :=
  ⟨rfl, rfl⟩

/-- R142: the scan of a station on carriers 2 and 5. -/
theorem test_positions_stand_in_index_order :
    (positionsOf 36).length = 16 ∧ (positionsOf 36).head? = some (at_ 2 0) ∧ (positionsOf 36)[8]? = some (at_ 5 0) := by decide

/-- 00, Time: stamps age across the wrap, and precedence has one winner, the lower number on equal and opposite stamps. -/
theorem test_precedence_across_the_wrap :
    older 4294967295 3 = true ∧ older 3 4294967295 = false ∧ precedes 7 2 7 9 = true ∧ precedes 7 9 7 2 = false
      ∧ precedes 0 9 2147483648 2 = false ∧ precedes 2147483648 2 0 9 = true := by decide

/-- R101: a raw difference of 10,000 µs folds over into the next frame, and one of −10,001 into the one before. -/
theorem test_measurement_folds_at_half_a_frame :
    measure { number := 2, frame := 50, phase := 10000, timing := .pace } 40 0 = { offset := -10000, frameDiff := 11 }
      ∧ measure { number := 2, frame := 50, phase := 9999, timing := .pace } 40 0 = { offset := 9999, frameDiff := 10 }
      ∧ measure { number := 2, frame := 50, phase := 0, timing := .pace } 40 10001 = { offset := 9999, frameDiff := 9 } := by
  decide

/-! ## Hypotheses met: the step, reset and the invariants -/

theorem test_met_end_of_step :
    (station .joined 0).link.sending = none ∧ (station .joined 0).link.outQueue = []
      ∧ (station .joined 0).link.handStatus.outQueue = [.status]
      ∧ (finish { station .joined 0 with link := (station .joined 0).link.handStatus }).link.sending.isSome = true
      ∧ ((station .joined 0).link.handRefusal { kind := none, reason := .badCheck, cue := none, clip := none }).outQueue
          = [.refusal { kind := none, reason := .badCheck, cue := none, clip := none }] := by decide

def refusal (reason : Reason) : Outbound := .refusal { kind := none, reason := reason, cue := none, clip := none }

def linkWith (q : List Outbound) : ShowLink := { ShowLink.reset with outQueue := q }

/-- R164 to R166: three and four waiting records, with and without a STATUS; an event clear and set. -/
theorem test_met_outbound_queue :
    (linkWith [refusal .badCheck, .status]).handStatus = linkWith [refusal .badCheck, .status]
      ∧ (linkWith (List.replicate 3 (refusal .badCheck))).handStatus.outQueue.length = 4
      ∧ (linkWith (List.replicate 3 (refusal .badCheck) ++ [refusal .noRoom])).handStatus.outQueue
          = List.replicate 3 (refusal .badCheck) ++ [.status]
      ∧ ((linkWith (List.replicate 3 .status)).handRefusal { kind := none, reason := .noRoom, cue := none, clip := none }).outQueue
          = List.replicate 3 .status ++ [refusal .noRoom]
      ∧ ((linkWith (List.replicate 4 (refusal .badCheck))).handRefusal
          { kind := none, reason := .noRoom, cue := none, clip := none }).refusalsDropped = 1
      ∧ (linkWith []).has .jump = false ∧ ((linkWith []).raise .jump).has .jump = true
      ∧ (((linkWith []).raise .jump).raise .jump).outQueue = [.status] := by decide

/-- R161, R167, R175: each condition of the two lines alone, and none. -/
theorem test_met_lines_spelled :
    holdLineAt .joined 7 = true ∧ holdLineAt .joined 6 = false ∧ holdLineAt .configRead 0 = true
      ∧ holdLineAt .configFault 0 = true ∧ holdLineAt .duplicateFault 6 = false
      ∧ faultLineAt .configFault false .noShow = true ∧ faultLineAt .duplicateFault false .noShow = true
      ∧ faultLineAt .joined true .noShow = true ∧ faultLineAt .listen false .frozen = true
      ∧ faultLineAt .configRead false .coasting = false := by decide

theorem test_met_show_clock :
    0 < (showing .running).rate.den ∧ (showing .running).fraction < 1000 * (showing .running).rate.den
      ∧ (showing .running).clock ≤ Config.maxShowTime
      ∧ ((showing .running).advanceClock 999).clock < Config.maxShowTime := by decide

/-- A station with something in every block. -/
def busy : State :=
  { holding [h1] 1 (playing .running) with
    pending := [.burstStart 0]
    peers := [peer 2 [h2]]
    cues := { CueQueue.reset with entries := [aCue .showing (some 120)] }
    clips := { ClipStore.reset with clips := [aClip .playing [true, true]], engines :=
      { e0 := { current := some { clip := 5, index := 1 }, next := none }, e1 := { current := none, next := none }
        e2 := { current := none, next := none }, e3 := { current := none, next := none } } }
    roster := { Roster.reset with entries := [{ receiver := 3, track := 1, lastRenewed := 0 }] } }

/-- R8, R98, R99, R112, R159: a millisecond passes, and none while the station is held. -/
theorem test_met_time_passing :
    busy.loader.supplyUp = true ∧ busy.loader.restartAsserted = false
      ∧ (advance 1000 busy).timing = { busy.timing with localTime := 1000, frameElapsed := 50000 }
      ∧ (advance 1000 busy).show_ = { busy.show_ with clock := 5001, markLoss := some 1000 }
      ∧ (advance 1000 (playing .paused)).show_.clock = 5000 ∧ (advance 1000 (playing .coasting)).show_.clock = 5001
      ∧ (advance 0 (begun busy)).timing.boundaryOpen = true ∧ (advance 1 (begun busy)).timing.boundaryOpen = false
      ∧ (advance 7 busy).line.quietMicros = 7 ∧ (advance 7 (hearing busy)).line.quietMicros = 0
      ∧ (advance 7 { busy with link := { busy.link with framing := .inRecord } }).link.idleMicros = 7
      ∧ (advance 7 busy).link.idleMicros = 0
      ∧ (advance 7 { busy with show_ := { showing .ended with endedTimer := some 9 } }).show_.endedTimer = some 2
      ∧ advance 7 { busy with loader := { busy.loader with supplyUp := false } }
          = { busy with loader := { busy.loader with supplyUp := false } }
      ∧ advance 7 { busy with loader := { busy.loader with restartAsserted := true } }
          = { busy with loader := { busy.loader with restartAsserted := true } } := by decide +kernel

/-- R8: one microsecond before the end of show time, and at it. -/
theorem test_met_end_of_show_time :
    (({ showing .running with clock := 2147483646 }).advanceClock 999).clock = 2147483646
      ∧ (({ showing .running with clock := 2147483646 }).advanceClock 1000).clock = 2147483647
      ∧ (({ showing .running with clock := 2147483647 }).advanceClock 5000).clock = 2147483647 := by decide

theorem test_met_stores : busy.storesCanonical := by unfold State.storesCanonical; decide
theorem test_met_counters : busy.countersBounded := by
  have h : busy.statusReport.counters = List.replicate 19 0 := by decide
  intro c hc
  rw [h, List.mem_replicate] at hc
  omega
theorem test_met_queues : busy.queuesBounded := by unfold State.queuesBounded; decide
theorem test_met_tables : busy.tablesBounded ∧ ∀ c ∈ busy.pending.head?, c.wf = true := by
  refine ⟨⟨by decide, by decide, by decide, by decide, by decide, by decide, fun c h => ?_, by decide, by decide, by decide,
    by decide⟩, by decide⟩
  cases h
  decide
theorem test_met_lines : busy.linesDriven ∧ busy.transmitBusy := by
  constructor
  · unfold State.linesDriven; decide
  · unfold State.transmitBusy; decide
theorem test_met_positions : busy.positionsLegal := by unfold State.positionsLegal; decide
theorem test_met_roster : busy.rosterLegal := by unfold State.rosterLegal; decide
theorem test_met_clips : busy.clipsLegal := by unfold State.clipsLegal; decide
theorem test_met_engines : busy.enginesLegal := by
  refine ⟨by decide, by decide, fun track h => ?_, by decide, by decide, by decide⟩
  have h2 : track = 2 := by
    rw [show busy.show_.tracks = (showing .running).tracks from rfl] at h
    simp [isDescriptionTrack, showing] at h
    exact h.symm
  exact ⟨0, by decide, by rw [h2]; decide⟩
theorem test_met_cue_order : busy.cuesLegal := by
  refine ⟨by decide, fun track => ?_⟩
  have h : (busy.cues.showing track).length ≤ busy.cues.entries.length := List.length_filter_le _ _
  exact Nat.le_trans h (by decide)
theorem test_met_timing : busy.timingLegal := by
  refine ⟨by decide, by decide, by decide, by decide, fun h => ?_, by decide⟩
  exact absurd h (by decide)
theorem test_met_clock : busy.clockLegal := by unfold State.clockLegal; decide
theorem test_met_step : ∃ t, step busy = .next t := ⟨_, rfl⟩

/-! ## Start-up and formats -/

/-- A held station, one whose supply is down, and widths on both sides of 10 µs. -/
def unpowered : State := { State.reset with loader := { Loader.reset with supplyUp := false } }
def restarting : State := { State.reset with loader := { Loader.reset with restartAsserted := true } }

theorem test_met_cold_start :
    unpowered.loader.supplyUp = false ∧ unpowered.loader.held = true ∧ restarting.loader.restartAsserted = true
      ∧ busy.loader.restartAsserted = false ∧ (after (.restartLine 0 10) busy).loader.station = .configRead
      ∧ (after (.restartLine 0 9) busy).loader.station = .joined ∧ (after (.powerLoss 0) busy).pm.holdings = [] := by decide

theorem test_met_image :
    State.reset.loader.reading = true ∧ parseImage home.bytes = some home ∧ parseImage (List.replicate 10 255) = none
      ∧ (after (.configReadComplete 5000 home.bytes) State.reset).loader.station = .listen
      ∧ (after (.configReadComplete 5000 (List.replicate 10 255)) State.reset).loader.faultLine = true := by
  decide +kernel

/-- The bytes of an image, a reply or a message with one of them changed and the check made right again. -/
def patched (bs : List Byte) (i : Nat) (b : Byte) : List Byte := withCheck ((bs.take (bs.length - 2)).set i b)

/-- R169: each field of an image just past its range, and a wrong check; the check 65,535. -/
theorem test_met_images_turned_away :
    parseImage (home.bytes.set 9 (home.bytes[9]! ^^^ 1)) = none ∧ checkOk (home.bytes.set 9 (home.bytes[9]! ^^^ 1)) = false
      ∧ (parseImage (patched home.bytes 0 32)).isSome = true ∧ parseImage (patched home.bytes 0 33) = none
      ∧ parseImage (patched home.bytes 0 0) = none ∧ parseImage (patched home.bytes 1 0) = none
      ∧ parseImage (patched home.bytes 6 0) = none ∧ (parseImage (patched home.bytes 6 1)).isSome = true
      ∧ parseImage (patched home.bytes 6 5) = none ∧ parseImage (patched home.bytes 7 8) = none
      ∧ ((parseImage (patched home.bytes 7 7)).map (·.outputLevel)) = some 7
      ∧ parseImage (withCheck (home.bytes.take 7)) = none := by decide +kernel

/-- R77: replies of an unknown kind, with a class of 4, with a wrong check, and of another length than their kind's. -/
theorem test_met_replies_turned_away :
    (parseReply (patched (Reply.renew 5).bytes 0 3)).isSome = true ∧ parseReply (patched (Reply.renew 5).bytes 0 1) = none
      ∧ parseReply (patched (Reply.renew 5).bytes 0 4) = none
      ∧ (parseReply (patched (Reply.join 5 1 7 0 1).bytes 10 3)).isSome = true
      ∧ parseReply (patched (Reply.join 5 1 7 0 1).bytes 10 4) = none
      ∧ parseReply (patched (Reply.join 5 1 7 0 1).bytes 0 2) = none
      ∧ parseReply ((Reply.renew 5).bytes.set 2 1) = none ∧ parseReply [] = none := by decide +kernel

/-- R122: a message's sender, phase, timing state, kind, position, reason, claimant, demand and counts, each past its range. -/
theorem test_met_messages_turned_away (release object announce : List Byte)
    (hr : release = messageBytes (from_ 2) (.release (at_ 1 1) .demand)) (ho : object = messageBytes (from_ 2) (.object (at_ 1 1) 5 32))
    (ha : announce = messageBytes (from_ 2) (.announce { neighbours := 0, demand := 1, holdings := [h1], claim := some h2 })) :
    (parseMessage release).isSome = true ∧ (parseMessage object).isSome = true ∧ (parseMessage announce).isSome = true
      ∧ [(0, 0), (0, 5), (1, 0), (1, 33), (6, 255), (8, 4), (9, 64), (10, 0), (10, 3)].all
          (fun x => parseMessage (patched release x.1 x.2) == none) = true
      ∧ parseMessage (patched object 14 33) = none ∧ parseMessage (patched object 14 0) = none
      ∧ [(13, 5), (14, 5), (14, 2), (15, 2), (15, 0), (16, 64), (21, 64)].all
          (fun x => parseMessage (patched announce x.1 x.2) == none) = true
      ∧ parseMessage (release.set 2 1) = none := by
  subst hr ho ha
  decide +kernel

theorem test_met_formats : home.good ∧ (Record.clipHead 65535 255 4294967295 65535).fits
    ∧ (from_ 32).wf = true ∧ contentFits (.object (at_ 7 7) 0 32) ∧ (Reply.join 0 255 0 3 255).fits := by
  refine ⟨?_, ?_, by decide, ?_, ?_⟩
  · unfold ConfigImage.good; decide +kernel
  · unfold Record.fits; decide
  · unfold contentFits; decide
  · unfold Reply.fits; decide

/-- A STATUS, a REFUSAL and the cells of a burst, fields at their largest. -/
theorem test_met_outward_formats :
    busy.statusReport.fits
      ∧ { kind := some 6, reason := .queueFull, cue := some (255, 4294967295), clip := some 65535 : RefusalRecord }.fits
      ∧ [Cell.fill, .beacon 32 .running (some 7) 2147483647 [at_ 1 2, at_ 7 7, at_ 1 3, at_ 1 4] 65535,
          .directory (showing .running).tracks, .audio 8 (List.replicate 32 255),
          .captionText 8 4294967295 5 (List.replicate 28 255), .captionClear 8 4294967295 3].Forall Cell.fits := by
  refine ⟨⟨by decide, by decide, by decide, fun n => ?_, by decide, by decide⟩, ⟨?_, ?_⟩, ?_⟩
  · have h : busy.statusReport.listeners = { PerTrack.zero with t1 := 1 } := by decide
    rw [h]
    unfold PerTrack.get
    split <;> decide
  · rintro track start h
    cases h
    decide
  · rintro id h
    cases h
    decide
  · simp only [List.Forall, Cell.fits]
    decide

/-! ## The wires -/

/-- R158: 65 is start bit, 1 0 0 0 0 0 1 0, stop bit; a low stop bit is a framing error. R177: 65 on the house line, and the lower
byte keeps it. R170: the read of the configuration memory begins with 0 0 0 0 0 0 1 1. -/
theorem test_wires :
    uartFrame 65 = [false, true, false, false, false, false, false, true, false, true]
      ∧ uartByte [false, true, false, false, false, false, false, true, false, true] = some 65
      ∧ uartByte [false, true, false, false, false, false, false, true, false, false] = none
      ∧ lineFrame 65 = [.driven, .driven, .released, .driven, .driven, .driven, .driven, .driven, .released]
      ∧ keepsLine (lineBits [7, 65]) (lineBits [7, 66]) = true ∧ keepsLine (lineBits [7, 66]) (lineBits [7, 65]) = false
      ∧ (State.reset.memoryOutput.map (·.length)) = some 32
      ∧ (State.reset.memoryOutput.map (·.take 8)) = some [false, false, false, false, false, false, true, true]
      ∧ (station .listen 0).memoryOutput = none ∧ (joinedAt 0).lineOutput = none := by decide +kernel

/-! ## The frame boundary -/

theorem test_met_frame_boundary :
    (advance 20000 (joinedAt 49)).timing.atBoundary = true ∧ (advance 19999 (joinedAt 49)).timing.atBoundary = false
      ∧ (after (.frameBoundary 20000 false) (joinedAt 49)).roster.secondCount = 1
      ∧ (after (.frameBoundary 20000 false) (joinedAt 48)).roster.secondCount = 0 := by decide

def silent : State := { ending (joinedAt 10) with timing := { (ending (joinedAt 10)).timing with change := .restep } }

theorem test_met_no_composition :
    (ending (station .listen 10)).timing.atBoundary = true ∧ (ending (station .listen 10)).joined = false
      ∧ silent.timing.atBoundary = true ∧ silent.joined = true ∧ silent.timing.change = .restep := by decide

theorem test_met_composition :
    (ending busy).timing.atBoundary = true ∧ (ending busy).joined = true ∧ (ending busy).timing.change ≠ .restep
      ∧ (ending busy).pm.demand ≠ 0 ∧ (after (.frameBoundary 0 true) (ending busy)).plan.bursts.length = 1
      ∧ (ending (holding [h1, h2] 0 (joinedAt 10))).pm.demand = 0
      ∧ (after (.frameBoundary 0 true) (ending (holding [h1, h2] 0 (joinedAt 10)))).pm.holdings = [] := by decide +kernel

/-- The port after a composition over h1 and h2, in one activity and tuned as given before it. -/
def tunedAfter (hs : List Stamped) (activity : Activity) (tuned : Fin 8) : RadioPort :=
  let s := ending (holding hs 2 (joinedAt 10))
  (after (.frameBoundary 0 false) { s with radio :=
    { s.radio with activity := activity, tuned := some tuned, lockedSince := some 0, lockIndicator := true } }).radio

/-- R64, R65, R75: slot order, the oldest stamp, and the first row of the table of R75. -/
theorem test_met_tuning_at_a_composition :
    heldInSlotOrder [h2, h1] = [at_ 1 2, at_ 1 5] ∧ beaconPosition 100 [h2, h1] = some (at_ 1 2) ∧ beaconPosition 100 [] = none
      ∧ (tunedAfter [h2, h1] .idle 2).tuned = some 1 ∧ (tunedAfter [h2, h1] .skipped 2).tuned = some 1
      ∧ (tunedAfter [h2, h1] .idle 1).lockedSince = some 0 ∧ (tunedAfter [h2, h1] .gap 2).tuned = some 2
      ∧ (tunedAfter [h2, h1] .sending 2).tuned = some 2 ∧ (tunedAfter [] .idle 2).tuned = some 2 := by decide +kernel

/-- The clips of track 2 on engine 0, at show time 5,000. -/
def store (cs : List Clip) (cur : Option Current) : ClipStore :=
  { ClipStore.reset with clips := cs, engines :=
    { e0 := { current := cur, next := none }, e1 := { current := none, next := none }
      e2 := { current := none, next := none }, e3 := { current := none, next := none } } }

def clipAt (id start length : Nat) (state : ClipState) : Clip :=
  { aClip state (List.replicate length true) with id := id, start := start }

/-- What the starting part makes of engine 0: states of the clips, current clip, overlaps, and whether one became LATE. -/
def startedFrom (cs : List Clip) (cur : Option Current) (again : Bool) : List ClipState × Option Current × Nat × Bool :=
  let r := (store cs cur).startEngine (showing .running) 5000 0 again 5
  (r.1.clips.map (·.state), (r.1.engines.get 0).current, r.1.overlap, r.2)

/-- R53, and its choosing next afresh after each act: behind the cut of a LATE next a READY clip that has come due starts too. -/
theorem test_met_engine_starts :
    startedFrom [] none false = ([], none, 0, false)
      ∧ startedFrom [clipAt 6 5001 9 .ready] none false = ([.ready], none, 0, false)
      ∧ startedFrom [clipAt 6 5000 9 .ready] none false = ([.playing], some { clip := 6, index := 0 }, 0, false) := by decide +kernel

theorem test_met_engine_cuts :
    startedFrom [clipAt 5 4000 99 .playing, clipAt 6 5000 9 .loading] (some { clip := 5, index := 50 }) false
          = ([.spent, .late], none, 1, true)
      ∧ startedFrom [clipAt 5 4000 99 .playing, clipAt 6 4500 99 .late, clipAt 7 4300 99 .ready]
          (some { clip := 5, index := 50 }) false = ([.spent, .late, .playing], some { clip := 7, index := 0 }, 1, false)
      ∧ startedFrom [clipAt 6 4500 99 .late] none true = ([.late], none, 0, false) := by decide +kernel

/-- What the supply part makes of engine 0 at an index of a clip of so many blocks, whose expected index is 50. -/
def suppliedAt (length index : Nat) : Option Current × Nat × Nat :=
  let r := (store [clipAt 5 4000 length .playing] (some { clip := 5, index := index })).supplyEngine 5000 0
  ((r.1.engines.get 0).current, r.1.slip, r.2.length)

theorem test_met_engine_supplies :
    suppliedAt 60 48 = (some { clip := 5, index := 49 }, 0, 1) ∧ suppliedAt 60 52 = (some { clip := 5, index := 53 }, 0, 1)
      ∧ suppliedAt 60 47 = (some { clip := 5, index := 51 }, 1, 1) ∧ suppliedAt 60 53 = (some { clip := 5, index := 53 }, 1, 0)
      ∧ suppliedAt 50 47 = (none, 1, 0) ∧ suppliedAt 51 50 = (none, 0, 1) := by decide +kernel

theorem test_met_clip_progress :
    ((store [clipAt 5 4000 60 .playing] none).progress (showing .paused)).audio = []
      ∧ (∀ c ∈ (store [clipAt 5 4000 59 .late] none).clips, c.state = .late → c.start ≤ 5000)
      ∧ ((store [clipAt 5 4000 59 .late] none).givingUp 5000).skipped = 1
      ∧ ((store [clipAt 5 4000 60 .late] none).givingUp 5000).skipped = 0
      ∧ ((store [clipAt 5 4000 50 .loading] none).passing 5000).skipped = 1
      ∧ ((store [clipAt 5 4000 51 .loading] none).passing 5000).skipped = 0
      ∧ ((store [clipAt 5 4000 50 .spent] none).retain 35001).clips = []
      ∧ ((store [clipAt 5 4000 50 .spent] none).retain 35000).clips.length = 1 := by decide +kernel

/-- The next clip of engine 0 among some clips, behind a current one or none. -/
def nextOf (st : ShowState) (bound : Option Nat) (cs : List Clip) (cur : Option Current) : Option Nat :=
  let s := store cs cur
  (s.chooseNext (showing st) bound (s.engines.get 0)).map (·.id)

/-- R45: no bound track, NO SHOW and ENDED, no clip that qualifies, and the earliest of those later than the current one. -/
theorem test_met_next_clip :
    nextOf .running none [clipAt 6 4000 9 .ready] none = none ∧ nextOf .noShow (some 2) [clipAt 6 4000 9 .ready] none = none
      ∧ nextOf .ended (some 2) [clipAt 6 4000 9 .ready] none = none
      ∧ nextOf .paused (some 2) [clipAt 6 4000 9 .spent] none = none
      ∧ nextOf .paused (some 2) [clipAt 6 4200 9 .late, clipAt 7 4100 9 .loading] none = some 7
      ∧ nextOf .paused (some 2) [clipAt 5 4150 9 .playing, clipAt 6 4200 9 .late, clipAt 7 4100 9 .loading]
          (some { clip := 5, index := 0 }) = some 6
      ∧ (((store [] none).supplyEngine 5000 0).2.length, ((store [clipAt 6 5000 9 .loading] none).starting (showing .running) 5000).2)
          = (0, true) := by decide +kernel

/-- The bursts of a frame that is a multiple of 25, two positions held: the BEACON, the DIRECTORY, and a text of two cells. -/
def composed : State := after (.frameBoundary 0 false) (ending (holding [h1, h2] 2 { busy with timing := (joinedAt 124).timing }))

theorem test_met_filling :
    (busy.pm.holdings.map (·.position)).Nodup ∧ composed.plan.bursts.map (·.beacon) = [true, false]
      ∧ (composed.plan.bursts.flatMap (·.cells)).map (fun c => decide (c = .fill))
          = [false, false, false, false, true, true, true, true, true, true, true, true]
      ∧ composed.plan.underrun = 0 := by decide +kernel

/-- R179, R180: a REFUSAL's bytes, and a beacon burst's first two cells. -/
theorem test_outward_bytes :
    (SendingRecord.refusal { kind := some 6, reason := .queueFull, cue := some (1, 258), clip := none }).bytes.take 14
        = [165, 129, 0, 10, 6, 6, 1, 1, 0, 0, 1, 2, 0, 0]
      ∧ (SendingRecord.status busy.statusReport).bytes.length = 68
      ∧ (composed.plan.bursts.head?.map (fun b => (b.bytes 9 125).take 24))
        = some [9, 0, 125, 1, 0, 9, 2, 0, 0, 0, 7, 0, 0, 19, 136, 2, 10, 13, 255, 255, 0, 125, 0, 0] := by decide +kernel

/-- A claim stamped 87 enters at the boundary that begins frame 100. -/
def claiming (peers : List PeerRecord) : State :=
  { begun (holding [h1] 2 (joinedAt 100)) with
    pm := { (holding [h1] 2 (joinedAt 100)).pm with claim := some { position := at_ 2 6, stamp := 87 } }, peers := peers }

theorem test_met_claim_enters :
    (claiming []).joined = true ∧ (claiming []).timing.inBoundary = true
      ∧ claimDue (claiming []).timing.boundaryFrame (claiming []).pm = true
      ∧ claimDue 99 (claiming []).pm = false ∧ 0 < (claiming []).pm.demand
      ∧ (∀ h ∈ (claiming []).pm.holdings, h.position ≠ at_ 2 6)
      ∧ peerPrecedes home [] { position := at_ 2 6, stamp := 87 } = false
      ∧ peerPrecedes home [peer 2 [{ position := at_ 2 6, stamp := 86 }]] { position := at_ 2 6, stamp := 87 } = true
      ∧ (after (.claimWindowEnd 0) (claiming [])).pm.holdings.length = 2
      ∧ (after (.claimWindowEnd 0) (claiming [peer 2 [{ position := at_ 2 6, stamp := 86 }]])).pm.evictions = 1 := by
  decide +kernel

/-- R144: a claim stamped 87 is not due before frame 100; before that, and outside JOINED, CLAIM_WINDOW_END moves nothing. -/
theorem test_met_claim_not_due :
    claimDue 99 (claiming []).pm = false ∧ claimDue 100 (claiming []).pm = true ∧ claimDue 2147483747 (claiming []).pm = true
      ∧ claimDue 2147483748 (claiming []).pm = false ∧ claimDue 100 (joinedAt 100).pm = false
      ∧ after (.claimWindowEnd 0) { claiming [] with timing := (begun (joinedAt 99)).timing }
          = finish { claiming [] with timing := (begun (joinedAt 99)).timing }
      ∧ after (.claimWindowEnd 0) { claiming [] with timing := (joinedAt 100).timing }
          = finish { claiming [] with timing := (joinedAt 100).timing }
      ∧ after (.claimWindowEnd 0) { claiming [] with loader := (station .listen 100).loader }
          = finish { claiming [] with loader := (station .listen 100).loader } := by decide +kernel

/-- The same claim at the second tick that begins frame 100, given before that boundary's FRAME_BOUNDARY and after it. -/
def claimingAtTick (early : Bool) : State :=
  let s := { claiming [] with timing := if early then (ending (joinedAt 99)).timing else (begun (joinedAt 100)).timing }
  { s with pm := { s.pm with demand := 3, claimRest := true, tickOwed := !early } }

theorem test_met_claim_enters_at_a_tick :
    (claimingAtTick true).timing.atBoundary = true ∧ (claimingAtTick false).timing.atBoundary = false
      ∧ claimDue (claimingAtTick true).timing.boundaryFrame (claimingAtTick true).pm = true
      ∧ (after (.claimWindowEnd 0) (claimingAtTick true)).pm.claim = some { position := at_ 2 0, stamp := 100 }
      ∧ (after (.claimWindowEnd 0) (claimingAtTick false)).pm.claim = some { position := at_ 2 0, stamp := 100 } := by
  decide +kernel

/-- A station that wants more: 3 or 4 of at most 4 positions held, and a neighbour that holds every position there is. -/
def wanting (hs : List Stamped) (peers : List PeerRecord) : State := { holding hs (hs.length + 1) (joinedAt 100) with peers := peers }
def heldOn1 (n : Nat) : List Stamped := ((positionsOf 2).take n).map (fun p => { position := p, stamp := 1 })

/-- R142, R143: the scan of station 9 begins at index 8, carrier 2, slot 0. -/
theorem test_met_claim_attempt :
    (∀ p ∈ positionsOf 6, (6#8).getLsbD p.carrier.val = true)
      ∧ (positionsOf 6).Pairwise (fun p q => p.carrier < q.carrier ∨ p.carrier = q.carrier ∧ p.slot < q.slot)
      ∧ (positionsOf 6).drop ((9 - 1) % 16) = at_ 2 0 :: (positionsOf 6).drop 9
      ∧ (wanting [] []).claimAttempt.pm.claim = some { position := at_ 2 0, stamp := 100 }
      ∧ (wanting [h1] []).claimAttempt.pm.claim = some { position := at_ 2 0, stamp := 100 }
      ∧ (wanting [{ position := at_ 1 1, stamp := 1 }] []).claimAttempt.pm.claim = some { position := at_ 2 3, stamp := 100 }
      ∧ (wanting (heldOn1 3) []).claimAttempt.pm.claim.isSome = true
      ∧ (wanting (heldOn1 4) []).claimAttempt = wanting (heldOn1 4) []
      ∧ (wanting [] [peer 2 ((positionsOf 6).map (fun p => { position := p, stamp := 1 }))]).claimAttempt
          = wanting [] [peer 2 ((positionsOf 6).map (fun p => { position := p, stamp := 1 }))]
      ∧ (station .listen 100).claimAttempt = station .listen 100 := by decide +kernel

def spare : State :=
  let s := begun (holding [h1, h2] 1 (joinedAt 100))
  { s with pm := { s.pm with holdDown := 5 } }

def starving : State :=
  let s := begun (holding [] 1 (joinedAt 100))
  { s with pm := { s.pm with starvation := 10 } }

theorem test_met_counts_run_out :
    spare.timing.inBoundary = true ∧ holdDownRuns spare.joined spare.pm = true
      ∧ newestHolding spare.timing.frameNumber spare.pm.holdings = some h2
      ∧ (after (.holdDownRelease 0) spare).pm.holdings = [h1]
      ∧ starvationRuns starving.joined starving.pm = true ∧ starving.pm.starved = false
      ∧ (after (.starved 0) starving).loader.faultLine = true := by decide

/-- The boundary that begins frame f, with demand and holdings, and perhaps a claim stamped 37. -/
def tickInto (f : FrameNo) (demand : Nat) (hs : List Stamped) (claimed : Bool) : State :=
  let s := ending (holding hs demand (joinedAt (f - 1)))
  { s with pm := { s.pm with claim := if claimed then some { position := at_ 2 6, stamp := 37 } else none } }

/-- R152: the count reaches 5 at the second tick that begins frame 100, given before its FRAME_BOUNDARY; in frame 101, and at other
counts, nothing moves. -/
def countedTo (n : Nat) (f : FrameNo) : State :=
  let s := tickInto f 1 [h1, h2] false
  { s with pm := { s.pm with holdDown := n, claimRest := true } }

theorem test_met_hold_down_before_its_boundary :
    (countedTo 4 100).timing.atBoundary = true ∧ (countedTo 4 100).pm.stepsTaken = false
      ∧ holdDownRuns (countedTo 4 100).joined (countedTo 4 100).pm = true
      ∧ newestHolding (countedTo 4 100).timing.frameNumber [h1, h2] = some h2 ∧ newestHolding 0 [] = none
      ∧ (after (.holdDownRelease 0) (countedTo 4 100)).pm.holdings = [h1]
      ∧ (after (.holdDownRelease 0) (countedTo 4 100)).pm.holdDown = 0
      ∧ (after (.holdDownRelease 0) (countedTo 4 100)).pm.stepsTaken = true
      ∧ (after (.holdDownRelease 0) (countedTo 4 100)).line.queue.map (·.body) = [.release (at_ 1 5) .demand]
      ∧ (after (.frameBoundary 0 false) (after (.holdDownRelease 0) (countedTo 4 100))).pm.holdDown = 0
      ∧ after (.holdDownRelease 0) (countedTo 4 101) = finish (countedTo 4 101)
      ∧ after (.holdDownRelease 0) (countedTo 3 100) = finish (countedTo 3 100)
      ∧ holdDownRuns (starving).joined starving.pm = false ∧ after (.holdDownRelease 0) starving = finish starving
      ∧ starvationRuns spare.joined spare.pm = false := by decide +kernel

/-- R152, R154, R156, R121: station 9's ANNOUNCE is due in frames 8, 58, 108 ... -/
theorem test_met_second_tick :
    (tickInto 50 1 [] false).timing.atBoundary = true ∧ (tickInto 50 1 [] false).pm.stepsTaken = false
      ∧ (after (.frameBoundary 0 false) (tickInto 50 1 [] false)).pm.starvation = 1
      ∧ (after (.frameBoundary 0 false) (tickInto 50 1 [] false)).pm.claim = some { position := at_ 2 0, stamp := 50 }
      ∧ (after (.frameBoundary 0 true) (tickInto 50 1 [h1, h2] false)).pm.holdDown = 1
      ∧ (after (.frameBoundary 0 true) (tickInto 51 1 [h1, h2] false)).pm.holdDown = 0
      ∧ (after (.frameBoundary 0 true) (tickInto 50 1 [] true)).pm.tickOwed = true
      ∧ claimDue 50 (tickInto 50 1 [] true).pm = true ∧ claimDue 49 (tickInto 50 1 [] true).pm = false
      ∧ (after (.frameBoundary 0 false) (tickInto 50 0 [h1, h2] false)).pm.holdings = []
      ∧ (after (.frameBoundary 0 false) (tickInto 58 1 [h1] false)).line.queue.map (·.body) = [.announce]
      ∧ (after (.frameBoundary 0 false) (tickInto 57 1 [h1] false)).line.queue = [] := by decide +kernel

/-- R153: frame 58 is due for station 9's ANNOUNCE, frame 57 is not. -/
theorem test_met_releases_at_demand_0 :
    [h1, h2].Perm [h2, h1] ∧ h1.position.carrier = h2.position.carrier ∧ h1.position.slot < h2.position.slot
      ∧ (after (.frameBoundary 0 false) (tickInto 57 0 [h2, h1] false)).line.queue.map (·.body)
          = [.release (at_ 1 2) .demand, .release (at_ 1 5) .demand]
      ∧ (after (.frameBoundary 0 true) (tickInto 58 0 [h2, h1] true)).line.queue.map (·.body)
          = [.release (at_ 1 2) .demand, .release (at_ 1 5) .demand, .announce]
      ∧ (after (.frameBoundary 0 true) (tickInto 58 0 [h2, h1] true)).pm.claim.isSome = true := by decide +kernel

/-- Second count 60, one entry renewed at 0 and one at 1. -/
def oldRoster : State :=
  { begun (joinedAt 100) with roster := { Roster.reset with
      secondCount := 60
      entries := [{ receiver := 1, track := 1, lastRenewed := 0 }, { receiver := 2, track := 1, lastRenewed := 1 }] } }

theorem test_met_roster_expiry :
    oldRoster.timing.boundaryOpen = true ∧ oldRoster.timing.frameNumber.toNat % 50 = 0
      ∧ (∃ e ∈ oldRoster.roster.entries, 60 ≤ (oldRoster.roster.secondCount - e.lastRenewed).toNat)
      ∧ (after (.rosterExpiry 0) oldRoster).roster.entries = [{ receiver := 2, track := 1, lastRenewed := 1 }] := by decide

def tableAt (f : FrameNo) (r : PeerRecord) : State := { begun (joinedAt f) with peers := [r] }

def pendingPeer (hs : List Stamped) : PeerRecord :=
  { peer 2 hs with claim := some { position := at_ 1 1, stamp := 9, windowEnd := 100 }, lastHeard := 90 }

theorem test_met_peer_expiry :
    (tableAt 150 (peer 2 [])).timing.inBoundary = true ∧ (peer 2 []).expired 150 = true ∧ (peer 2 []).expired 149 = false
      ∧ (after (.peerRecordExpiry 0 2) (tableAt 150 (peer 2 []))).peers = [] := by decide

theorem test_met_peer_claim_passed :
    (pendingPeer []).claimDue 100 = true ∧ (pendingPeer []).claimDue 99 = false ∧ (pendingPeer []).expired 100 = false
      ∧ ((findPeer (after (.peerClaimPassed 0 2) (tableAt 100 (pendingPeer [h1]))).peers 2).map (·.holdings.length)) = some 2
      ∧ ((findPeer (after (.peerClaimPassed 0 2) (tableAt 100
            (pendingPeer [h1, h2, { position := at_ 3 3, stamp := 1 }, { position := at_ 4 4, stamp := 2 }]))).peers 2).map
          (·.holdings.length)) = some 4
      ∧ ((findPeer (after (.peerClaimPassed 0 2) (tableAt 100 (pendingPeer [{ position := at_ 1 1, stamp := 3 }]))).peers 2).map
          (·.holdings)) = some [{ position := at_ 1 1, stamp := 3 }] := by decide

/-- R128: of four entries the newest stamp gives way to a passed claim, of equals the one added last. -/
theorem test_met_fifth_holding :
    ((findPeer (after (.peerClaimPassed 0 2) (tableAt 100
            (pendingPeer [h1, h2, { position := at_ 3 3, stamp := 60 }, { position := at_ 4 4, stamp := 2 }]))).peers 2).map
          (·.holdings)) = some [h1, h2, { position := at_ 4 4, stamp := 2 }, { position := at_ 1 1, stamp := 9 }]
      ∧ addHolding 100 true { position := at_ 1 2, stamp := 7 } [h1, h2] = [{ h1 with stamp := 7 }, h2]
      ∧ addHolding 100 false { position := at_ 1 2, stamp := 7 } [h1, h2] = [h1, h2]
      ∧ addHolding 100 true { position := at_ 1 1, stamp := 7 } [h1, h2] = [h1, h2, { position := at_ 1 1, stamp := 7 }] := by
  decide +kernel

/-- The record of the followed station expires in LOCKED: the station paces and, wanting a position, claims one. -/
theorem test_met_peer_expiry_reviewed :
    (149 - (peer 2 []).lastHeard).toNat < 150 ∧ 150 ≤ (150 - (peer 2 []).lastHeard).toNat
      ∧ after (.peerRecordExpiry 0 2) (tableAt 149 (peer 2 [])) = finish (tableAt 149 (peer 2 []))
      ∧ (after (.peerRecordExpiry 0 2) (holding [] 1 { tableAt 150 (peer 2 []) with timing :=
            { (begun (joinedAt 150)).timing with state := .locked, followed := some 2 } })).pm.claim
          = some { position := at_ 2 0, stamp := 150 }
      ∧ (after (.peerRecordExpiry 0 2) (tableAt 150 (peer 2 []))).timing = (begun (joinedAt 150)).timing := by decide +kernel

/-- Station 9 holds the position that station 2's claim, stamped 9, passes into. -/
def passing (stamp : FrameNo) : State :=
  after (.peerClaimPassed 0 2) (holding [{ position := at_ 1 1, stamp := stamp }] 1 (tableAt 100 (pendingPeer [])))

theorem test_met_eviction_by_a_passed_claim :
    (100 - (pendingPeer []).lastHeard).toNat < 150 ∧ (100 - 100#32).toNat < 2147483648 ∧ ¬ (99 - 100#32).toNat < 2147483648
      ∧ (passing 10).pm.holdings = [] ∧ (passing 10).pm.evictions = 1 ∧ (passing 10).link.has .evicted = true
      ∧ (passing 10).line.queue.map (·.body) = [.release (at_ 1 1) .evicted, .claim (at_ 2 0) 100]
      ∧ (passing 8).pm.holdings = [{ position := at_ 1 1, stamp := 8 }] ∧ (passing 8).line.queue = []
      ∧ after (.peerClaimPassed 0 2) (tableAt 99 (pendingPeer [])) = finish (tableAt 99 (pendingPeer [])) := by decide +kernel

def objecting : State :=
  let s := begun (joinedAt 100)
  { s with line := { s.line with queue := [{ body := .object (at_ 1 2) 40 2 100, conflicts := 0, arrival := 0 }] } }

theorem test_met_object_window :
    (objecting.line.queue.find? (Waiting.windowPassed 100)).isSome = true
      ∧ (objecting.line.queue.find? (Waiting.windowPassed 99)).isSome = false
      ∧ (after (.objectWindowPassed 0) objecting).line.dropped = 1 := by decide

/-- Of two waiting OBJECTs the one whose window has passed goes, behind one whose window has not. -/
theorem test_met_object_window_behind_another :
    (100 - 101#32).toNat ≥ 2147483648
      ∧ (after (.objectWindowPassed 0) { objecting with line := { objecting.line with queue :=
            { body := .object (at_ 1 3) 40 2 101, conflicts := 0, arrival := 0 } :: objecting.line.queue } }).line.queue.map
              (·.body)
          = [.object (at_ 1 3) 40 2 101]
      ∧ after (.objectWindowPassed 0) (begun (joinedAt 100)) = finish (begun (joinedAt 100)) := by decide +kernel

def listened (peers : List PeerRecord) : State := { begun (station .listen 150) with peers := peers }

theorem test_met_listen_end :
    (listened []).loader.station = .listen ∧ (listened []).timing.inBoundary = true
      ∧ 150 ≤ (listened []).timing.boundaryFrame.toNat ∧ (listened []).timing.change = .none ∧ (listened []).pm.holdings = []
      ∧ lowestEligible [peer 3 []] = some 3 ∧ lowestEligible [] = none
      ∧ (after (.listenEnd 0) (listened [peer 3 []])).timing.state = .acquire
      ∧ (after (.listenEnd 0) (listened [])).timing.state = .pace
      ∧ (after (.listenEnd 0) (begun (station .listen 149))).loader.station = .listen := by decide

/-- Station 9 follows station 2 and adopts at the end of the running frame. -/
def adopting (change : PendingChange) (offset : Int) : State :=
  let s := ending (holding [h1] 1 (joinedAt 100))
  { s with
    peers := [{ peer 2 [] with offset := offset, frameDiff := 600050 }]
    timing := { s.timing with state := .acquire, followed := some 2, change := change } }

theorem test_met_adoption :
    (adopting .step 9999).timing.boundaryReached = true ∧ (adopting .step 9999).timing.change.isAdoption = true
      ∧ (adopting .restepSilent (-10000)).timing.change.isAdoption = true
      ∧ (after (.adoption 0 true) (adopting .step 9999)).timing.frameNumber = 600151
      ∧ (after (.adoption 0 true) (adopting .step 9999)).timing.phase = 9999
      ∧ (after (.adoption 0 true) (adopting .restepSilent (-10000))).timing.frameNumber = 600150
      ∧ (after (.adoption 0 true) (adopting .restepSilent (-10000))).timing.phase = 10000
      ∧ (after (.adoption 0 true) (adopting .step 0)).timing.boundaryOpen = true
      ∧ (after (.adoption 0 true) (adopting .step 5)).timing.state = .acquire
      ∧ (after (.adoption 0 true) (adopting .restepSilent 5)).timing.followed = some 2 := by decide +kernel

theorem test_met_adoption_without_a_followed_station :
    (ending { joinedAt 7 with timing := { (joinedAt 7).timing with change := .step } }).timing.followed = none
      ∧ (after (.adoption 20000 true) { joinedAt 7 with timing := { (joinedAt 7).timing with change := .step } }).timing.frameNumber
          = 8 := by decide +kernel

/-- The same adoption of a station with a claim pending, an OBJECT waiting, a cue on air, and a peer besides the followed one. -/
def adoptingAll (change : PendingChange) (offset : Int) : State :=
  let s := adopting change offset
  { s with
    peers := s.peers ++ [{ peer 3 [h2] with offset := 10, frameDiff := 600050, lastHeard := 90 }]
    pm := { s.pm with claim := some { position := at_ 2 6, stamp := 95 } }
    line := { s.line with queue := [{ body := .object (at_ 1 2) 40 2 100, conflicts := 0, arrival := 0 }] }
    cues := { CueQueue.reset with entries := [aCue .showing (some 120)] } }

/-- Log 54: the adoption issues the second tick that begins frame 600,150. HOLD_DOWN_RELEASE before it does nothing, and after it
the composition stands. -/
def adoptedTick : State :=
  let s := holding [h1, h2] 1 (adopting .step 0)
  { s with peers := [{ peer 2 [] with frameDiff := 600049 }], pm := { s.pm with holdDown := 4 } }

theorem test_hold_down_at_an_adoption :
    after (.holdDownRelease 0) adoptedTick = finish adoptedTick
      ∧ (after (.adoption 0 true) adoptedTick).timing.frameNumber = 600150 ∧ (after (.adoption 0 true) adoptedTick).pm.holdDown = 5
      ∧ (after (.holdDownRelease 0) (after (.adoption 0 true) adoptedTick)).pm.holdings.length = 1
      ∧ (after (.holdDownRelease 0) (after (.adoption 0 true) adoptedTick)).plan.bursts.length = 2 := by decide +kernel

/-- R41, R117, R135, R155: what an adoption of difference 600,050 moves, at a step and at a restep, and at offset 0. -/
theorem test_met_adoption_moves_all :
    (adoptingAll .step 5).timing.change.isAdoption = true ∧ (adoptingAll .restepSilent 5).timing.change.isAdoption = true
      ∧ (after (.adoption 0 true) (adoptingAll .restepSilent 5)).pm.holdings = [{ h1 with stamp := 600090 }]
      ∧ (after (.adoption 0 true) (adoptingAll .restepSilent 5)).pm.abandoned = 1
      ∧ (after (.adoption 0 true) (adoptingAll .step 5)).pm.claim = none
      ∧ (after (.adoption 0 true) (adoptingAll .step 5)).cues.entries.map (fun e => (e.startedFrame, e.refreshDue))
          = [(some 600140, some 600170)]
      ∧ (after (.adoption 0 true) (adoptingAll .step 5)).line.queue.map (·.body) = [.object (at_ 1 2) 40 2 600150]
      ∧ (after (.adoption 0 true) (adoptingAll .step 5)).peers.map (fun q => (q.offset, q.frameDiff, q.lastHeard))
          = [(0, 0, 600050), (5, 0, 600140)]
      ∧ (after (.adoption 0 true) (adoptingAll .restepSilent 0)).peers.map (·.stale) = [true, true]
      ∧ (after (.adoption 0 true) (adoptingAll .restepSilent 0)).pm.holdings = [{ h1 with stamp := 600090 }] := by
  decide +kernel

/-! ## The radio port -/

def burst (p : Position) (progress : Progress) : Burst :=
  { position := p, cells := List.replicate 6 .fill, beacon := true, progress := progress }

/-- One burst in slot 2, which begins at phase 5,000; lock since local time 700. -/
def onAir (progress : Progress) (elapsed now : Nat) : State :=
  let s := holding [h1] 1 (joinedAt 100)
  { s with
    plan := { Composer.reset with bursts := [burst (at_ 1 2) progress] }
    radio := { RadioPort.reset with tuned := some 1, lockedSince := some 700, lockIndicator := true }
    timing := { s.timing with frameElapsed := 50 * elapsed, localTime := now } }

theorem test_met_bursts :
    (onAir .planned 5000 1000).plan.nextPlanned = some (burst (at_ 1 2) .planned)
      ∧ 5000 ≤ (onAir .planned 5000 1000).timing.phase ∧ (onAir .planned 5000 1000).radio.activity ≠ .sending
      ∧ (after (.burstStart 0) (onAir .planned 5000 1000)).radio.activity = .sending
      ∧ ((after (.burstStart 0) (onAir .planned 5000 1000)).radio.onAir.map (fun t => (t.carrier, t.level, t.bytes.length)))
          = some (some 1, 3, 209)
      ∧ (after (.burstStart 0) (onAir .planned 5000 999)).radio.lockSkip = 1
      ∧ (after (.burstStart 0) (onAir .planned 4999 1000)).radio.activity = .idle
      ∧ (onAir .sending 5000 1000).plan.sendingBurst = some (burst (at_ 1 2) .sending)
      ∧ (after (.burstSent 1673) (onAir .sending 5000 1000)).radio.activity = .gap := by decide +kernel

def placedItem : PlacedItem :=
  { track := 1, start := 4000, region := 3, bursts := [at_ 1 2], open_ := [], generation := 0 }

theorem test_met_placed_cues :
    placedItem.generation = CueQueue.reset.generation ∧ placedItem.generation ≠ CueQueue.reset.clearAll.generation
      ∧ ({ CueQueue.reset with entries := [aCue .showing none] }).find 1 4000 = some (aCue .showing none)
      ∧ (({ CueQueue.reset with entries := [aCue .showing none] }).placed 100 placedItem).find 1 4000
          = some (aCue .showing (some 125))
      ∧ CueQueue.reset.find 1 4000 = none ∧ (CueQueue.reset.placed 100 placedItem).clears.length = 1 := by decide

/-- R34, all of what a report leaves: a refresh at once for a changed entry, and the region that the cells carried in a clear. -/
theorem test_met_reports_whole :
    ((({ CueQueue.reset with entries := [{ aCue .showing none with changed := true }] }).placed 100 placedItem).entries.map
        Cue.refreshDue) = [some 100]
      ∧ (({ CueQueue.reset with clears := [{ track := 1, start := 4000, region := 1, serial := 0 }], nextSerial := 1 }).placed 100
          placedItem).clears = [{ track := 1, start := 4000, region := 3, serial := 1 }] := by decide

def cuesOf (es : List Cue) (cs : List ClearItem) : CueQueue := { CueQueue.reset with entries := es, clears := cs }
def clearOf (start : Nat) : ClearItem := { track := 1, start := start, region := 0, serial := start }
def cueAt (start stop : Nat) (state : CueState) (due : Option FrameNo) : Cue :=
  { aCue state due with start := start, stop := stop }

theorem test_met_clears :
    (∃ c ∈ (cuesOf [] [clearOf 4000]).clears, c.track = 1 ∧ c.start = 4000)
      ∧ (∀ c ∈ (cuesOf [] [clearOf 4000]).clears, ¬ (c.track = 1 ∧ c.start = 4001))
      ∧ ((cuesOf [] ((List.range 31).map clearOf)).oweClear 1 31 0).clears.length = 32
      ∧ (((cuesOf [] ((List.range 32).map clearOf)).oweClear 1 32 0).clears.map (·.start)).head? = some 1
      ∧ ((cuesOf [] ((List.range 32).map clearOf)).oweClear 1 32 0).clears.length = 32 := by decide +kernel

/-- R28 to R30 at show time 8,000: an end reached on air owes its clear; a fourth entry of a track ends the earliest. -/
theorem test_met_cue_progress :
    ((cuesOf [cueAt 4000 8000 .showing (some 90)] []).ending 8000).clears.length = 1
      ∧ ((cuesOf [cueAt 4000 8001 .showing (some 90)] []).ending 8000).clears = []
      ∧ (((cuesOf ([1, 2, 3].map (fun n => cueAt n 9000 .showing none) ++ [cueAt 4 9000 .waiting none]) []).starting 8000
            100).entries.map (·.state)) = [.spent, .showing, .showing, .showing]
      ∧ (((cuesOf ([2, 3].map (fun n => cueAt n 9000 .showing none) ++ [cueAt 4 9000 .waiting none]) []).starting 8000
            100).entries.map (·.state)) = [.showing, .showing, .showing]
      ∧ ((cuesOf [cueAt 4000 9000 .showing none] []).lateness 95).lateCue = 1
      ∧ ((cuesOf [cueAt 4000 9000 .showing none] []).lateness 94).lateCue = 0
      ∧ ((cuesOf [cueAt 1 9 .showing (some 101), cueAt 2 9 .showing (some 100), cueAt 3 9 .showing (some 99)] []).refreshes
            100).map (·.start) = [3, 2]
      ∧ ((cuesOf [cueAt 1 9 .showing (some 100), cueAt 2 9 .showing (some 99), cueAt 3 9 .showing (some 100)] []).refreshes
            100).map (·.start) = [2, 1, 3]
      ∧ (cuesOf [cueAt 1 9 .showing none, cueAt 2 9 .showing (some 90)] []).starts.length = 1
      ∧ ((cuesOf [cueAt 1 9 .spent none] []).progress .paused 30009 100).entries.length = 1
      ∧ ((cuesOf [cueAt 1 9 .spent none] []).progress .paused 30010 100).entries = [] := by decide +kernel

/-- 29 codes go into a head and two texts. -/
theorem test_met_cue_cells :
    (cueCells (showing .running) false { aCue .showing none with text := List.replicate 28 65 }).length = 2
      ∧ (cueCells (showing .running) false { aCue .showing none with text := List.replicate 29 65 }).length = 3 := by
  decide +kernel

def slotDone (tuned : Fin 8) : State :=
  let s := onAir .sent 7000 9000
  { s with radio := { s.radio with activity := .gapDone, tuned := some tuned } }

theorem test_met_radio_port :
    (slotDone 1).joined = true ∧ (slotDone 1).radio.activity ≠ .idle ∧ (slotDone 1).radio.activity ≠ .sending
      ∧ (slotDone 1).slotEndCarrier = (slotDone 1).radio.tuned ∧ (slotDone 2).slotEndCarrier = some 1
      ∧ (after (.slotEnd 0) (slotDone 2)).radio.lockedSince = some 9000
      ∧ (after (.slotEnd 0) (slotDone 1)).radio.lockedSince = some 700
      ∧ unpowered.loader.held = true ∧ (slotDone 1).loader.held = false
      ∧ (after (.lockDropped 0) (slotDone 1)).radio.lockedSince = none
      ∧ (after (.lockAsserted 5) (after (.lockDropped 0) (slotDone 1))).radio.lockedSince = some 9005
      ∧ (after (.lockAsserted 5) (slotDone 1)).radio.lockedSince = some 700
      ∧ (after (.lockAsserted 5) State.reset).radio.lockedSince = none
      ∧ (after (.lockAsserted 5) (station .configFault 0)).radio.lockedSince = none := by decide +kernel

/-- Two bursts planned, on carriers 1 and 2, the port tuned to carrier 1 and in some activity. -/
def twoPlanned (activity : Activity) : State :=
  let s := onAir .planned 0 9000
  { s with
    plan := { s.plan with bursts := [burst (at_ 1 2) .planned, burst (at_ 2 6) .planned] }
    radio := { s.radio with activity := activity } }

/-- R75, third row, and R78. -/
theorem test_met_cancelled_burst :
    (twoPlanned .idle).joined = true ∧ ((twoPlanned .idle).cancelBurst (at_ 1 2)).radio.tuned = some 2
      ∧ ((twoPlanned .idle).cancelBurst (at_ 1 2)).radio.lockedSince = some 9000
      ∧ ((twoPlanned .idle).cancelBurst (at_ 1 2)).plan.bursts.map (·.progress) = [.cancelled, .planned]
      ∧ ((twoPlanned .idle).cancelBurst (at_ 2 6)).radio.lockedSince = some 700
      ∧ ((twoPlanned .sending).cancelBurst (at_ 1 2)).radio.tuned = some 1
      ∧ (twoPlanned .idle).cancelBurst (at_ 3 3) = twoPlanned .idle
      ∧ ({ twoPlanned .idle with loader := (station .listen 0).loader }.cancelBurst (at_ 1 2)).radio.tuned = some 1 := by
  decide +kernel

def inGap (s : State) : State := { s with radio := { s.radio with activity := .gap } }

theorem test_met_garbled_reply :
    (inGap busy).radio.activity = .gap ∧ parseReply [] = none
      ∧ (after (.garbledReply 0 [] true) (inGap busy)).radio.garbled = 1
      ∧ (after (.garbledReply 0 (Reply.renew 3).bytes false) (inGap busy)).radio.garbled = 1
      ∧ (after (.garbledReply 0 (Reply.renew 3).bytes true) (inGap busy)).radio.garbled = 0 := by decide +kernel

/-! ## The roster -/

def ticket (session : BitVec 32) (class_ track : Nat) : Ticket :=
  { auditorium := 9, session := session, ticketClass := class_, track := track }

theorem test_met_ticket_checks :
    ticketRefusal 9 (showing .running) { ticket 7 2 1 with auditorium := 10 } = some .wrongRoom
      ∧ ticketRefusal 9 (showing .ended) (ticket 7 2 1) = some .noShow
      ∧ ticketRefusal 9 (showing .running) (ticket 8 2 1) = some .badSession
      ∧ ticketRefusal 9 (showing .running) (ticket 7 2 3) = some .noTrack
      ∧ ticketRefusal 9 (showing .running) (ticket 8 3 3) = some .noTrack
      ∧ ticketRefusal 9 (showing .running) (ticket 7 1 1) = some .classLow
      ∧ ticketRefusal 9 (showing .running) (ticket 7 2 1) = none
      ∧ ticketRefusal 9 (showing .running) (ticket 8 3 1) = none := by decide

def fullHouse : State :=
  { busy with roster := { busy.roster with
      entries := (List.range 48).map (fun n => { receiver := BitVec.ofNat 32 (n + 10), track := 1, lastRenewed := 0 }) } }

theorem test_met_joins :
    (inGap busy).radio.activity = .gap ∧ (∃ e ∈ busy.roster.entries, e.receiver = 3)
      ∧ (∀ e ∈ busy.roster.entries, e.receiver ≠ 4) ∧ busy.roster.entries.length < 48
      ∧ 48 ≤ fullHouse.roster.entries.length ∧ (∀ e ∈ fullHouse.roster.entries, e.receiver ≠ 4)
      ∧ (after (.join 0 4 9 7 2 2) (inGap busy)).roster.acks = [{ receiver := 4, result := .granted }]
      ∧ (after (.join 0 3 9 7 2 2) (inGap busy)).roster.counts.t2 = 1
      ∧ (after (.join 0 4 9 7 2 2) (inGap fullHouse)).roster.joinRefusals = 1 := by decide +kernel

theorem test_met_renew_and_leave :
    (busy.roster.entries.map (·.receiver)).Nodup
      ∧ (after (.renew 0 3) (inGap busy)).roster.acks = [{ receiver := 3, result := .renewed }]
      ∧ (after (.renew 0 4) (inGap busy)).roster.acks = [{ receiver := 4, result := .unknownReceiver }]
      ∧ (after (.leave 0 3) (inGap busy)).roster.entries = []
      ∧ (after (.leave 0 4) (inGap busy)).roster.entries = busy.roster.entries
      ∧ (after (.leave 0 3) (inGap busy)).pm.counts = .zero := by decide +kernel

/-- Logs 51 and 52: a reply behind SLOT_END finds no gap, one behind FRAME_BOUNDARY does, and at a second tick its entry, given
before ROSTER_EXPIRY, is dated with the new count. -/
def oldEntry : State :=
  inGap { tickInto 100 1 [h1] false with roster := { Roster.reset with
    secondCount := 59, entries := [{ receiver := 3, track := 1, lastRenewed := 0 }] } }

theorem test_replies_at_one_instant :
    (after (.renew 0 3) (after (.slotEnd 0) oldEntry)).roster.acks = []
      ∧ (after (.renew 0 3) (after (.frameBoundary 0 false) oldEntry)).roster.entries.map (·.lastRenewed) = [60]
      ∧ (after (.rosterExpiry 0) (after (.renew 0 3) (after (.frameBoundary 0 false) oldEntry))).roster.entries.length = 1
      ∧ (after (.renew 0 3) oldEntry).roster.entries.map (·.lastRenewed) = [59]
      ∧ (after (.renew 0 3) (after (.rosterExpiry 0) (after (.frameBoundary 0 false) oldEntry))).roster.acks
          = [{ receiver := 3, result := .unknownReceiver }] := by decide +kernel

/-- R84: receiver id 0. -/
theorem test_met_receiver_0 :
    after (.join 0 0 9 7 2 2) (inGap busy) = finish { inGap busy with radio := { busy.radio with activity := .gapDone } }
      ∧ after (.renew 0 0) (inGap busy) = finish { inGap busy with radio := { busy.radio with activity := .gapDone } }
      ∧ after (.leave 0 0) (inGap busy) = finish { inGap busy with radio := { busy.radio with activity := .gapDone } } := by
  decide +kernel

/-! ## The house line and the peer table -/

def deaf (st : StationState) : State := { station st 100 with line := HouseLine.reset }

theorem test_met_line_heard :
    (deaf .listen).line.receiving = false ∧ (deaf .duplicateFault).line.receiving = false
      ∧ (after (.houseLineReceiveStart 0) (deaf .listen)).line.receiving = true
      ∧ (after (.houseLineReceiveStart 0) (deaf .configFault)).line.receiving = false
      ∧ (station .listen 100).line.receiving = true ∧ (station .listen 100).line.busy = false
      ∧ (station .listen 100).line.sending = none ∧ (after (.startMarkHeard 20) (station .listen 100)).line.heardPhase = 20
      ∧ (hearing (station .listen 100)).line.busy = true ∧ parseMessage [] = none
      ∧ (after (.badMessage 0 [] false) (hearing (station .listen 100))).line.bad = 1
      ∧ (after (.badMessage 0 (messageBytes (from_ 2) (.release (at_ 1 1) .demand)) true)
          (hearing (station .listen 100))).line.bad = 1 := by decide +kernel

def announced (claim : Option Stamped) : AnnounceFields :=
  { neighbours := 256, demand := 1, holdings := [h1, h2], claim := claim }

/-- The sender's frame numbers run 100 ahead: a claim stamped 188 has its window end at 101. -/
theorem test_met_announce :
    (hearing (joinedAt 100)).line.hearing = true ∧ (from_ 2).number ≠ (hearing (joinedAt 100)).cfg.number
      ∧ ((announced none).holdings.map (·.position)).Nodup
      ∧ (measure (from_ 2) 100 1000) = { offset := 500, frameDiff := 100 }
      ∧ dueBy 100 (188 + 13 - 100) = false ∧ dueBy 100 (187 + 13 - 100) = true
      ∧ ((findPeer (after (.announce 0 (from_ 2) (announced none)) (hearing (joinedAt 100))).peers 2).map (·.holdings))
          = some [h1, h2]
      ∧ ((findPeer (after (.announce 0 (from_ 2) (announced (some { position := at_ 3 3, stamp := 188 })))
            (hearing (joinedAt 100))).peers 2).bind (·.claim)) = some { position := at_ 3 3, stamp := 188, windowEnd := 101 }
      ∧ ((findPeer (after (.announce 0 (from_ 2) (announced (some { position := at_ 3 3, stamp := 187 })))
            (hearing (joinedAt 100))).peers 2).map (·.holdings.length)) = some 3 := by decide +kernel

/-- Station 9 holds h1 and claims a position of its own, in PACE or following station 2. -/
def rivalled (own : Stamped) : State :=
  { hearing (holding [h1] 2 (joinedAt 100)) with
    pm := { (holding [h1] 2 (joinedAt 100)).pm with claim := some own } }

def spot (stamp : FrameNo) : Stamped := { position := at_ 2 6, stamp := stamp }

/-- Station 2 lists, or claims under a stamp, the position that station 9 claims under stamp 95. -/
def announcing (holds : List Stamped) (claim : Option Stamped) : State :=
  after (.announce 0 (from_ 2) { neighbours := 256, demand := 1, holdings := holds, claim := claim }) (rivalled (spot 95))

theorem test_met_claims_and_evictions_at_an_announce :
    inNeighbours home.neighbours 2 = true ∧ inNeighbours home.neighbours 3 = false ∧ inNeighbours 256 9 = true
      ∧ dueBy 100 (190 + 13 - 100) = false ∧ precedes 94 2 95 9 = true ∧ precedes 95 2 95 9 = true
      ∧ precedes 190 2 95 9 = false
      ∧ (announcing [spot 50] none).pm.claim = none ∧ (announcing [spot 50] none).pm.abandoned = 1
      ∧ (announcing [] (some (spot 190))).pm.claim = some (spot 95)
      ∧ (announcing [{ h1 with stamp := 39 }] none).pm.holdings = [] ∧ (announcing [{ h1 with stamp := 39 }] none).pm.evictions = 1
      ∧ (announcing [{ h1 with stamp := 39 }] none).link.has .evicted = true
      ∧ (announcing [{ h1 with stamp := 39 }] none).line.queue.map (·.body) = [.release (at_ 1 2) .evicted]
      ∧ (announcing [{ h1 with stamp := 41 }] none).pm.holdings = [h1] := by decide +kernel

/-- A claim with precedence in an ANNOUNCE: stamp 95 of station 2, whose numbering is 10 behind. -/
theorem test_met_claim_lost_to_an_announced_claim :
    (measure { from_ 2 with frame := 90 } 100 1000).frameDiff = 4294967286 ∧ dueBy 100 (95 + 13 - 4294967286) = false
      ∧ (after (.announce 0 { from_ 2 with frame := 90 }
          { neighbours := 0, demand := 1, holdings := [], claim := some (spot 95) }) (rivalled (spot 95))).pm.claim = none := by
  decide +kernel

def following (state : TimingState) (n : Nat) (lock : Nat) : Timing :=
  { (joinedAt 100).timing with
    state := state, followed := some n, lockCount := lock, gate := some { offset := 9, frame := 150 }, trim := 14 }

/-- R103's own example: trim +14 and offsets +9, +6 give 12 ppm. -/
theorem test_met_rate_gate_of_the_timing_unit :
    ((following .acquire 2 0).feedGate 6 200).trim = 12 ∧ ((following .acquire 2 0).feedGate 6 200).lockCount = 1
      ∧ ((following .acquire 2 2).feedGate 50 200).lockCount = 3 ∧ ((following .acquire 2 2).feedGate 51 200).lockCount = 0
      ∧ ((following .acquire 2 2).feedGate 6 201).lockCount = 0 ∧ ((following .acquire 2 2).feedGate 6 201).trim = 14
      ∧ (joinedAt 100).timing.gate = none
      ∧ ((following .acquire 2 2).hearFollowed 9 [peer 2 []] false 2 6 200).state = .locked
      ∧ ((following .acquire 12 2).hearFollowed 9 [peer 12 []] false 12 6 200).state = .pace
      ∧ (following .acquire 2 2).hearFollowed 9 [peer 2 []] false 3 6 200 = following .acquire 2 2
      ∧ ((following .locked 2 0).hearFollowed 9 [peer 2 []] false 2 2000 200).change = .none
      ∧ ((following .locked 2 0).hearFollowed 9 [peer 2 []] false 2 2001 200).change = .step
      ∧ ((following .acquire 2 0).hearFollowed 9 [peer 2 []] true 2 (-2001) 200).change = .restep := by decide +kernel

def shifted (n : Nat) (offset : Int) : PeerRecord := { peer n [] with offset := offset }

/-- R105 to R108, each choice at the bounds of its offsets. -/
theorem test_met_following :
    lowestEligibleBelow [peer 12 []] 9 = none ∧ lowestEligibleBelow [peer 3 [], peer 2 []] 9 = some 2
      ∧ lowestEligible [{ peer 2 [] with stale := true }, { peer 3 [] with timing := .acquire }] = none
      ∧ ((joinedAt 1).timing.review 9 [shifted 2 50] false).state = .locked
      ∧ ((joinedAt 1).timing.review 9 [shifted 2 51] false).state = .acquire
      ∧ ((joinedAt 1).timing.review 9 [shifted 2 2000] false).change = .none
      ∧ ((joinedAt 1).timing.review 9 [shifted 2 (-2001)] true).change = .restep
      ∧ ((following .locked 5 0).review 9 [peer 5 [], shifted 2 (-50)] false).followed = some 2
      ∧ ((following .locked 5 0).review 9 [peer 5 [], shifted 2 (-51)] false).state = .acquire
      ∧ ((following .locked 5 0).review 9 [peer 5 []] false) = following .locked 5 0
      ∧ ((following .locked 5 0).review 9 [] false).state = .pace
      ∧ ((following .acquire 12 0).review 9 [peer 12 []] false) = following .acquire 12 0
      ∧ ((following .acquire 12 0).review 9 [peer 12 [], peer 10 []] false).followed = some 10
      ∧ ((following .acquire 12 0).review 9 [{ peer 12 [] with timing := .listen }] false).state = .pace
      ∧ ((following .acquire 12 0).review 9 [{ peer 12 [] with stale := true }] false) = following .acquire 12 0
      ∧ ({ following .locked 2 0 with change := .restep }).decide_ false = { following .acquire 2 0 with change := .restep } := by
  decide +kernel

def withPeers (ps : List PeerRecord) : State := { hearing (holding [h1] 1 (joinedAt 100)) with peers := ps }

theorem test_met_claim :
    (withPeers []).line.hearing = true ∧ findPeer (withPeers []).peers 2 = none
      ∧ (findPeer (withPeers [peer 2 [h2]]).peers 2).isSome = true
      ∧ inNeighbours (withPeers []).cfg.neighbours 2 = true ∧ (withPeers []).joined = true
      ∧ (withPeers []).pm.holdings.find? (fun o => o.position == h1.position) = some h1
      ∧ (withPeers []).line.queue.length ≤ 4
      ∧ (after (.claim 0 (from_ 2) (at_ 1 2) 150) (withPeers [])).line.queue.map (·.body) = [.object (at_ 1 2) 40 2 63]
      ∧ ((findPeer (after (.claim 0 (from_ 2) (at_ 1 2) 150) (withPeers [])).peers 2).bind (·.claim))
          = some { position := at_ 1 2, stamp := 150, windowEnd := 63 } := by decide +kernel

/-- R127, R136: station 2's first message has a station that paces follow it; one that shows what its record shows changes
nothing of the timing unit. -/
theorem test_met_common_part :
    (after (.claim 0 (from_ 2) (at_ 1 6) 150) (withPeers [])).timing.followed = some 2
      ∧ (after (.claim 0 (from_ 2) (at_ 1 6) 150) (withPeers [peer 2 []])).timing = (withPeers []).timing
      ∧ (after (.release 0 (from_ 2) (at_ 1 6) .evicted) (withPeers [])).timing.followed = some 2
      ∧ (after (.release 0 (from_ 2) (at_ 1 6) .demand) (withPeers [peer 2 []])).timing = (withPeers []).timing
      ∧ ((findPeer (after (.release 0 (from_ 2) (at_ 1 6) .demand) (withPeers [peer 2 []])).peers 2).map
          (fun r => (r.offset, r.frameDiff, r.lastHeard))) = some (500, 100, 100) := by decide +kernel

/-- R146: station 3 conflicts where its record names station 9, and else draws nothing; neither does a position not held, nor a
station that is not JOINED. -/
theorem test_met_objects_drawn :
    inNeighbours 256 9 = true
      ∧ (after (.claim 0 (from_ 3) (at_ 1 2) 150) (withPeers [{ peer 3 [] with neighbours := 256 }])).line.queue.map (·.body)
          = [.object (at_ 1 2) 40 3 63]
      ∧ (after (.claim 0 (from_ 3) (at_ 1 2) 150) (withPeers [])).line.queue = []
      ∧ (after (.claim 0 (from_ 2) (at_ 1 3) 150) (withPeers [])).line.queue = []
      ∧ (after (.claim 0 (from_ 2) (at_ 1 2) 150) (hearing (station .listen 100))).line.queue = [] := by decide +kernel

theorem test_met_object :
    (findPeer (withPeers [peer 3 [], pendingPeer []]).peers 3).isSome = true
      ∧ ((findPeer (after (.object 0 (from_ 3) (at_ 1 1) 5 2) (withPeers [pendingPeer []])).peers 2).map (·.claim)) = some none
      ∧ ((findPeer (after (.object 0 (from_ 3) (at_ 1 1) 5 2) (withPeers [pendingPeer []])).peers 3).map (·.holdings))
          = some [{ position := at_ 1 1, stamp := 5 }]
      ∧ (findPeer (after (.object 0 (from_ 3) (at_ 1 1) 5 2) (withPeers [])).peers 2) = none := by decide +kernel

/-- R147, R148: station 2 conflicts (home names it), station 3 does not; a held position is evicted or kept. -/
theorem test_met_claim_lost_and_kept :
    (after (.claim 0 (from_ 2) (at_ 2 6) 94) (rivalled (spot 95))).pm.claim = none
      ∧ (after (.claim 0 (from_ 2) (at_ 2 6) 96) (rivalled (spot 95))).pm.claim = some (spot 95)
      ∧ (after (.claim 0 (from_ 3) (at_ 2 6) 94) (rivalled (spot 95))).pm.claim = some (spot 95)
      ∧ (after (.object 0 (from_ 3) (at_ 2 6) 5 9) (rivalled (spot 95))).pm.abandoned = 1
      ∧ (after (.object 0 (from_ 2) (at_ 2 6) 5 3) (rivalled (spot 95))).pm.abandoned = 1
      ∧ (after (.object 0 (from_ 3) (at_ 2 6) 5 4) (rivalled (spot 95))).pm.claim = some (spot 95)
      ∧ (after (.object 0 (from_ 2) (at_ 2 5) 5 9) (rivalled (spot 95))).pm.claim = some (spot 95)
      ∧ (after (.object 0 (from_ 2) (at_ 1 2) 39 9) (withPeers [])).pm.holdings = []
      ∧ (after (.object 0 (from_ 2) (at_ 1 2) 39 9) (withPeers [])).line.queue.map (·.body) = [.release (at_ 1 2) .evicted]
      ∧ (after (.object 0 (from_ 2) (at_ 1 2) 41 9) (withPeers [])).pm.holdings = [h1]
      ∧ (after (.object 0 (from_ 2) (at_ 1 2) 39 9) (withPeers [{ peer 2 [] with stale := true }])).pm.holdings = [h1] := by
  decide +kernel

/-- R137, R138: the answers name the peers; of two with precedence the one with the older stamp. -/
theorem test_met_answers_of_the_peer_table :
    occupants home [peer 2 [h1], { peer 8 [] with claim := some { position := at_ 1 2, stamp := 7, windowEnd := 20 } }, peer 3 [h1]]
        (at_ 1 2) = { holders := [2], claimants := [8] }
      ∧ precedenceOver home [peer 2 [{ h1 with stamp := 39 }], peer 8 [{ h1 with stamp := 38 }]] h1 = some 8
      ∧ precedenceOver home [{ peer 2 [{ h1 with stamp := 39 }] with stale := true }, peer 3 [{ h1 with stamp := 38 }]] h1 = none := by
  decide +kernel

/-- R101: the table at its bounds, own phase 10,000. -/
theorem test_met_measurement_table :
    (measure { from_ 2 with phase := 19999 } 100 9999) = { offset := -10000, frameDiff := 101 }
      ∧ (measure { from_ 2 with phase := 19999 } 100 10000) = { offset := 9999, frameDiff := 100 }
      ∧ (measure { from_ 2 with phase := 0 } 100 10000) = { offset := -10000, frameDiff := 100 }
      ∧ (measure { from_ 2 with phase := 0 } 100 10001) = { offset := 9999, frameDiff := 99 } := by decide

/-- R128: a position listed twice stands once, in its first place, under the older stamp. -/
theorem test_met_position_listed_twice :
    dedupHoldings [] [h1, h2, { h1 with stamp := 30 }] = [{ h1 with stamp := 30 }, h2]
      ∧ dedupHoldings [] [h1, h2, { h1 with stamp := 41 }] = [h1, h2] ∧ older 30 40 = true ∧ olderStamp 40 30 = 30
      ∧ ((findPeer (after (.announce 0 (from_ 2) { announced none with holdings := [h1, h2, { h1 with stamp := 30 }] })
            (hearing (joinedAt 100))).peers 2).map (·.holdings)) = some [{ h1 with stamp := 30 }, h2] := by decide +kernel

/-- R129: a claim whose window has run out stands among the holdings at once, an older entry of its position staying. -/
theorem test_met_announced_claim_has_passed :
    (100 - (187 + 13 - 100) : FrameNo).toNat < 2147483648 ∧ ¬ (100 - (188 + 13 - 100) : FrameNo).toNat < 2147483648
      ∧ ((findPeer (after (.announce 0 (from_ 2) (announced (some (spot 187)))) (hearing (joinedAt 100))).peers 2).map
          (fun r => (r.holdings, r.claim))) = some ([h1, h2, spot 187], none)
      ∧ ((findPeer (after (.announce 0 (from_ 2) (announced (some { h1 with stamp := 187 }))) (hearing (joinedAt 100))).peers 2).map
          (fun r => (r.holdings, r.claim))) = some ([h1, h2], none)
      ∧ (announcing [] (some (spot 187))).pm.claim = some (spot 95) := by decide +kernel

/-- R131: an OBJECT leaves the sender's other holdings. -/
theorem test_met_object_keeps_the_others :
    ((findPeer (after (.object 0 (from_ 2) (at_ 1 5) 5 3) (withPeers [peer 2 [h1, h2]])).peers 2).map (·.holdings))
        = some [h1, { h2 with stamp := 5 }]
      ∧ ((findPeer (after (.object 0 (from_ 2) (at_ 2 6) 5 3) (withPeers [peer 2 [h1, h2]])).peers 2).map (·.holdings))
          = some [h1, h2, spot 5]
      ∧ ((findPeer (after (.object 0 (from_ 3) (at_ 2 6) 5 2) (withPeers [])).peers 3).map
          (fun r => (r.holdings, r.neighbours, r.claim))) = some ([spot 5], 0, none) := by decide +kernel

/-- R156: station 9's claim is due at the second tick that begins frame 100; FRAME_BOUNDARY has left step 4 waiting. -/
def owing (demand : Nat) (hs : List Stamped) : State :=
  let s := hearing (holding hs demand (begun (joinedAt 100)))
  { s with peers := [peer 2 []], pm := { s.pm with claim := some (spot 87), tickOwed := true } }

/-- A message that ends the claim there is followed by step 4: the starvation count, the claim rest cleared, a claim attempt; one
that does not leaves step 4 waiting. -/
theorem test_met_step_4_follows :
    (owing 2 []).line.hearing = true ∧ (owing 2 []).pm.tickOwed = true ∧ (owing 2 []).timing.boundaryOpen = true
      ∧ (after (.frameBoundary 0 false)
          { tickInto 100 2 [] false with pm := { (tickInto 100 2 [] false).pm with claim := some (spot 87) } }).pm.tickOwed = true
      ∧ (after (.claim 0 (from_ 2) (at_ 2 6) 86) (owing 2 [])).pm
          = { (owing 2 []).pm with claim := some { position := at_ 2 0, stamp := 100 }, abandoned := 1, starvation := 1, tickOwed := false }
      ∧ (after (.object 0 (from_ 2) (at_ 2 6) 5 9) (owing 1 [h1])).pm
          = { (owing 1 [h1]).pm with claim := none, abandoned := 1, tickOwed := false }
      ∧ (after (.object 0 (from_ 2) (at_ 2 6) 5 9) (owing 2 [h1])).line.queue.map (·.body) = [.claim (at_ 2 0) 100]
      ∧ (after (.announce 0 (from_ 2) (announced none)) (owing 2 [])).pm = (owing 2 []).pm
      ∧ (after (.announce 0 (from_ 2) { announced none with holdings := [spot 86] }) (owing 2 [])).pm.starvation = 1
      ∧ (after (.claim 0 (from_ 2) (at_ 2 6) 88) (owing 2 [])).pm = (owing 2 []).pm := by decide +kernel

theorem test_met_release :
    ((findPeer (after (.release 0 (from_ 2) (at_ 1 5) .evicted) (withPeers [peer 2 [h1, h2]])).peers 2).map (·.holdings))
        = some [h1]
      ∧ ((findPeer (after (.release 0 (from_ 2) (at_ 1 5) .demand) (withPeers [])).peers 2).map (·.holdings)) = some [] := by
  decide +kernel

theorem test_met_own_number :
    (from_ 9).number = (withPeers []).cfg.number ∧ (hearing (station .listen 1)).loader.station = .listen
      ∧ (hearing (station .duplicateFault 1)).line.hearing = true
      ∧ (after (.release 0 (from_ 9) (at_ 1 5) .demand) (withPeers [])).loader.station = .duplicateFault
      ∧ (after (.release 0 (from_ 9) (at_ 1 5) .demand) (withPeers [])).pm.holdings = []
      ∧ (after (.release 0 (from_ 9) (at_ 1 5) .demand) (hearing (station .listen 1))).link.has .duplicate = true := by
  decide +kernel

/-- R174, R104: from LISTEN the lowest-numbered eligible peer is followed, or the station paces; from JOINED nothing changes. -/
theorem test_met_own_number_and_timing :
    (hearing (station .listen 100)).timing.followed = none ∧ (hearing (station .listen 100)).timing.change = .none
      ∧ (hearing (station .listen 100)).pm.holdings = []
      ∧ (after (.release 0 (from_ 9) (at_ 1 5) .demand) (hearing { station .listen 100 with peers := [peer 3 []] })).timing
          = { (station .listen 100).timing with followed := some 3, state := .acquire, change := .step }
      ∧ (after (.release 0 (from_ 9) (at_ 1 5) .demand)
            (ending (hearing { station .listen 100 with peers := [peer 3 []] }))).timing.change = .stepHeld
      ∧ (after (.release 0 (from_ 9) (at_ 1 5) .demand) (hearing (station .listen 100))).timing
          = { (station .listen 100).timing with state := .pace }
      ∧ (after (.release 0 (from_ 9) (at_ 1 5) .demand) (withPeers [])).timing = (withPeers []).timing := by decide +kernel

def waits (body : WaitingBody) (quiet : Nat) : State :=
  let s := holding [h1] 1 (joinedAt 100)
  { s with line := { s.line with queue := [{ body := body, conflicts := 1, arrival := 0 }], quietMicros := quiet } }

/-- Station 9, one conflict: an OBJECT waits 2 + 9 + 32 bit times, an ANNOUNCE 104 + 9 + 32. -/
theorem test_met_message_start :
    (waits .announce 290).joined = true ∧ (waits .announce 290).line.receiving = true
      ∧ (waits .announce 290).line.busy = false ∧ (waits .announce 290).line.sending = none
      ∧ 104 + (waits .announce 290).cfg.number + 32 * 1 ≤ (waits .announce 290).line.quietMicros / 2
      ∧ (after (.messageStart 0) (waits .announce 290)).line.busy = true
      ∧ (after (.messageStart 0) (waits .announce 289)).line.busy = false
      ∧ (after (.messageStart 0) (waits (.object (at_ 1 2) 1 2 9) 86)).line.sending.map (·.content)
          = some (.object (at_ 1 2) 40 2)
      ∧ (after (.messageStart 0) (waits (.object (at_ 3 2) 1 2 9) 86)).line.queue = []
      ∧ (after (.messageStart 0) (waits (.release (at_ 3 2) .demand) 154)).line.sending.isSome = true
      ∧ (after (.messageStart 0) (waits (.claim (at_ 3 2) 9) 222)).line.sending.isSome = true := by decide +kernel

def speaking (conflicts : Nat) : State :=
  let s := joinedAt 100
  { s with line := { s.line with
      busy := true
      sending := some { waiting := { body := .announce, conflicts := conflicts, arrival := 0 }, sender := from_ 9
                        content := .announce (announced none) } } }

theorem test_met_message_end :
    (speaking 3).line.sending.isSome = true ∧ (speaking 2).line.queue.length < 6
      ∧ (after (.messageComplete 0) (speaking 2)).line.busy = false
      ∧ (after (.lineConflict 0) (speaking 3)).line.dropped = 1
      ∧ (after (.lineConflict 0) (speaking 2)).line.queue = [{ body := .announce, conflicts := 3, arrival := 0 }] := by
  decide +kernel

def waitingAs (body : WaitingBody) (arrival : Nat) : Waiting := { body := body, conflicts := 0, arrival := arrival }

def lineWith (q : List Waiting) : HouseLine := { HouseLine.reset with queue := q }

/-- R116: five and six messages waiting, an ANNOUNCE with and without another. -/
theorem test_met_joining_the_queue :
    (lineWith [waitingAs .announce 0]).join (waitingAs .announce 1) = lineWith [waitingAs .announce 0]
      ∧ ((lineWith (List.replicate 5 (waitingAs (.claim (at_ 1 1) 0) 0))).join (waitingAs .announce 1)).queue.length = 6
      ∧ ((lineWith [waitingAs (.claim (at_ 1 1) 0) 0]).join (waitingAs (.release (at_ 1 1) .demand) 1)).queue.map (·.arrival) = [1, 0]
      ∧ ((lineWith (List.replicate 6 (waitingAs (.claim (at_ 1 1) 0) 0))).join (waitingAs (.claim (at_ 1 1) 0) 1)).dropped = 1
      ∧ ((lineWith (List.replicate 5 (waitingAs (.claim (at_ 1 1) 0) 0) ++ [waitingAs .announce 1])).join
          (waitingAs (.claim (at_ 1 2) 0) 2)).queue.map (·.arrival) = [0, 0, 0, 0, 0, 2]
      ∧ (joinedAt 1).handOver .announce ≠ joinedAt 1 ∧ (station .listen 1).handOver .announce = station .listen 1 := by
  decide +kernel

/-! ## The show link -/

def framed (f : Framing) (idle : Nat) : State :=
  let s := station .listen 1
  { s with link := { s.link with framing := f, idleMicros := idle } }

theorem test_met_receiver :
    (framed .idleWait 2000).link.framing = .idleWait ∧ (framed .hunt 0).link.framing = .hunt
      ∧ (after (.idleWaitEnd 0) (framed .idleWait 2000)).link.framing = .hunt
      ∧ (after (.idleWaitEnd 1) (framed .idleWait 1998)).link.framing = .idleWait
      ∧ (after (.idleWaitByte 1) (framed .idleWait 1998)).link.idleMicros = 0
      ∧ (after (.recordStartMark 1) (framed .hunt 0)).link.framing = .inRecord := by decide

def received (r : Record) (before : Nat) : State :=
  let s := framed .inRecord 0
  after (.recordComplete 0 r.bytes) { s with link := { s.link with rxQueue := List.replicate before .showClear } }

theorem test_met_records_judged :
    (framed .inRecord 0).link.framing = .inRecord ∧ wholeRecord Record.showEnd.bytes = true
      ∧ judgeRecord Record.showEnd.bytes = .ok .showEnd ∧ judgeRecord (frameRecord 12 []) = .error .unknownKind
      ∧ judgeRecord (frameRecord 0 []) = .error .unknownKind ∧ judgeRecord (frameRecord 2 [0]) = .error .badLength
      ∧ checkOk [2, 0, 0, 0, 0] = false ∧ judgeRecord [2, 0, 0, 0, 0] = .error .badCheck
      ∧ (received .showEnd 7).link.rxQueue.length = 8 ∧ (received .showEnd 8).link.overrun = 1
      ∧ (received .showEnd 6).link.holdLine = true ∧ (received .showEnd 5).link.holdLine = false := by decide +kernel

/-- R160, R179: a body length on both sides of what kind and count require. -/
theorem test_met_body_lengths :
    judgeRecord (frameRecord 5 [0, 0, 2, 7]) = .error .badLength ∧ judgeRecord (frameRecord 5 [0, 0, 2, 7, 8, 9]) = .error .badLength
      ∧ judgeRecord (frameRecord 5 [0, 0, 2, 7, 8]) = .ok (.tableLoad 0 0 [7, 8])
      ∧ judgeRecord (frameRecord 10 [0]) = .error .badLength ∧ judgeRecord (frameRecord 10 [0, 1]) = .ok (.clipCancel 1)
      ∧ judgeRecord (frameRecord 6 []) = .error .badLength := by decide +kernel

theorem test_met_records_broken :
    gathering [2, 0] = .open_ ∧ 261 < fieldAt [1, 1, 6] 1 2 ∧ gathering [1, 1, 5] = .open_
      ∧ (after (.recordGap 2022 [2, 0]) (framed .inRecord 0)).link.sending.isSome = true
      ∧ (after (.recordGap 2021 [2, 0]) (framed .inRecord 0)).link.framing = .inRecord
      ∧ (after (.recordGap 2001 []) (framed .inRecord 0)).link.framing = .hunt
      ∧ (after (.recordGap 2000 []) (framed .inRecord 0)).link.framing = .inRecord
      ∧ (after (.recordBroken 0 [2] true) (framed .inRecord 0)).link.framing = .hunt
      ∧ (after (.recordBroken 0 [1, 1, 6] false) (framed .inRecord 0)).link.sending
          = some (.refusal { kind := some 1, reason := .badLength, cue := none, clip := none }) := by decide +kernel

def outbound (q : List Outbound) : State :=
  let s := busy
  { s with link := { s.link with outQueue := q } }

theorem test_met_outbound :
    (outbound []).link.outQueue = [] ∧ (outbound [.status]).link.outQueue = [.status]
      ∧ (after (.outboundRecordSent 0) (outbound [])).link.sending = none
      ∧ (after (.outboundRecordSent 0) (outbound [.status])).link.sending = some (.status busy.statusReport)
      ∧ (after (.outboundRecordSent 0) (outbound
          [.refusal { kind := none, reason := .badCheck, cue := none, clip := none }])).link.outQueue = [] := by decide +kernel

theorem test_met_event_ack :
    (taking (.eventAck 512) busy).link.rxQueue = [.eventAck 512]
      ∧ (after (.eventAck 0) (taking (.eventAck 512) (busy.raise .linkOverrun))).link.has .linkOverrun = false
      ∧ (after (.eventAck 0) (taking (.eventAck 1) (busy.raise .linkOverrun))).link.has .linkOverrun = true := by
  decide +kernel

/-! ## Show control -/

def entry (number kind : Nat) : TrackEntry :=
  { number := number, kind := kind, language := [101, 110, 103], requiredClass := 3, table := 3, carryAlways := true }

theorem test_met_show_load :
    validTracks [entry 8 1] = true ∧ validTracks [] = false ∧ validTracks [entry 9 1] = false
      ∧ (after (.showLoad 0) (taking (.showLoad 1 2147483647 [entry 8 2]) busy)).show_.state = .ready
      ∧ (after (.showLoad 0) (taking (.showLoad 1 2147483647 [entry 8 2]) busy)).show_.binding.e0 = some 8
      ∧ (after (.showLoad 0) (taking (.showLoad 1 2147483648 [entry 8 2]) busy)).show_.state = .running
      ∧ (after (.showLoad 0) (taking (.showLoad 0 0 [entry 8 2]) busy)).show_.state = .running
      ∧ (after (.showLoad 0) (taking (.showLoad 1 0 []) busy)).show_.session = some 7 := by decide +kernel

/-- R2, R3: each range of an entry just missed, and a list that is out of order. -/
theorem test_met_track_lists :
    validTracks [{ entry 1 1 with requiredClass := 4 }] = false ∧ validTracks [{ entry 1 1 with table := 4 }] = false
      ∧ validTracks [{ entry 1 2 with table := 4 }] = true ∧ validTracks [entry 1 3] = false ∧ validTracks [entry 0 1] = false
      ∧ validTracks [{ entry 1 1 with language := [64, 91, 96] }] = false
      ∧ validTracks [{ entry 1 1 with language := [65, 90, 122] }] = true
      ∧ validTracks [{ entry 1 1 with language := [65, 90] }] = false ∧ validTracks [entry 1 1, entry 1 2] = false
      ∧ validTracks ([1, 2, 3, 4, 5].map (fun n => entry n 2)) = false
      ∧ validTracks ([1, 2, 3, 4, 5, 6, 7, 8].map (fun n => entry n 1)) = true
      ∧ (trackTable [entry 3 2, entry 1 1, entry 2 2]).map (·.number) = [1, 2, 3]
      ∧ (bindEngines (trackTable [entry 3 2, entry 1 1, entry 2 2])).toList = [some 2, some 3, none, none] := by decide +kernel

/-- R40, R61, R141: a station with nothing held claims when a new show asks for a slot; counters stay. -/
theorem test_met_new_show :
    (after (.showLoad 0) (taking (.showLoad 1 0 [entry 8 1]) (joinedAt 100))).pm.demand = 1
      ∧ (after (.showLoad 0) (taking (.showLoad 1 0 [entry 8 1]) (joinedAt 100))).pm.claim
          = some { position := at_ 2 0, stamp := 100 }
      ∧ (after (.showLoad 0) (taking (.showLoad 1 0 [entry 8 1])
            { busy with cues := { busy.cues with lateCue := 3 }, clips := { busy.clips with slip := 4 } })).cues.lateCue = 3
      ∧ (after (.showLoad 0) (taking (.showLoad 1 0 [entry 8 1])
            { busy with cues := { busy.cues with lateCue := 3 }, clips := { busy.clips with slip := 4 } })).clips.slip = 4
      ∧ (after (.showClear 0) (taking .showClear busy)).pm.holdings = [h1]
      ∧ (after (.showClear 0) (taking .showClear busy)).pm.demand = 0 := by decide +kernel

theorem test_met_show_end_and_clear :
    (taking .showEnd (playing .ended)).show_.state = .ended ∧ (taking .showEnd busy).show_.state = .running
      ∧ (after (.showEnd 0) (taking .showEnd busy)).show_.endedTimer = some 120000000
      ∧ (after (.showEnd 0) (taking .showEnd (playing .ended))).link.sending.isSome = true
      ∧ (after (.showEnd 0) (taking .showEnd busy)).cues.entries.map (·.state) = [.spent]
      ∧ (after (.showEnd 0) (taking .showEnd busy)).cues.clears.map (·.start) = [4000]
      ∧ busy.cues.clears.length + busy.cues.entries.length ≤ 32
      ∧ (after (.showEnd 0) (taking .showEnd busy)).clips.clips.map (·.state) = [.spent]
      ∧ (after (.showClear 0) (taking .showClear busy)).roster.entries = []
      ∧ (after (.endedTimerExpiry 120000000) (after (.showEnd 0) (taking .showEnd busy))).show_.state = .noShow
      ∧ (after (.endedTimerExpiry 119999999) (after (.showEnd 0) (taking .showEnd busy))).show_.state = .ended := by
  decide +kernel

def marked (st : ShowState) (t : Nat) (running : Bool) : State := after (.mark 0) (taking (.mark t running) (playing st))

theorem test_met_marks :
    (marked .ended 5000 true).show_.state = .ended ∧ (marked .noShow 5000 true).show_.state = .noShow
      ∧ (marked .paused 2147483648 true).show_.state = .paused ∧ (marked .paused 2147483647 true).show_.state = .running
      ∧ (marked .running 5200 true).show_.jumps = 0 ∧ (marked .running 5201 true).show_.jumps = 1
      ∧ (marked .running 4800 true).show_.jumps = 0 ∧ (marked .running 4799 false).show_.jumps = 1
      ∧ (marked .ready 0 false).show_.state = .paused ∧ (marked .ready 0 false).show_.jumps = 0
      ∧ (marked .frozen 5000 true).show_.jumps = 1 ∧ (marked .frozen 5000 true).link.has .jump = true := by decide +kernel

/-- R14: a running mark on an anchored gate after half a second, as a correction and as a jump. -/
def markedGate (t : Nat) : ShowControl :=
  (after (.mark 0) (taking (.mark t true) { playing .running with
    show_ := { showing .running with gate := some { showTime := 4600, localTime := 0 } }
    timing := { (joinedAt 100).timing with localTime := 500000 } })).show_

theorem test_met_mark_gate :
    (markedGate 5100).rate = { num := 1, den := 1 } ∧ (markedGate 5110).rate = { num := 51, den := 50 }
      ∧ (markedGate 5110).gate = some { showTime := 5110, localTime := 500000 } ∧ (markedGate 5200).rateRejects = 1
      ∧ (markedGate 5201).rateRejects = 0 ∧ (markedGate 5201).gate = some { showTime := 5201, localTime := 500000 } := by
  decide +kernel

/-- A mark at show time 6,000 over cues of four ends and clips of two: what each is then. -/
def reevaluated (st : ShowState) : State :=
  after (.mark 0) (taking (.mark 6000 true) { playing st with
    cues := cuesOf [cueAt 4000 6000 .showing (some 90), cueAt 5000 7000 .spent none, cueAt 5001 7000 .showing (some 90),
      cueAt 5002 7000 .showing none, cueAt 6000 7000 .waiting none, cueAt 6001 7000 .showing (some 90)] []
    clips := store [clipAt 5 4000 100 .ready, clipAt 6 5000 51 .spent, { clipAt 7 5000 51 .loading with track := 3, loaded := List.replicate 51 false }] none })

theorem test_met_reevaluation :
    (reevaluated .paused).cues.entries.map (·.state) = [.spent, .spent, .showing, .showing, .showing, .waiting]
      ∧ (reevaluated .paused).cues.clears.map (·.start) = [4000, 6001]
      ∧ (reevaluated .paused).clips.clips.map (·.state) = [.spent, .playing, .late]
      ∧ (reevaluated .paused).clips.engines.e0.current = some { clip := 6, index := 50 }
      ∧ (reevaluated .paused).clips.skipped = 1 ∧ (reevaluated .ready).clips.skipped = 0
      ∧ (reevaluated .frozen).link.has .lateClip = true ∧ (reevaluated .ready).show_.jumps = 0
      ∧ ([clipAt 5 4000 100 .ready, clipAt 6 5000 51 .spent].map (fun c => (c.track, c.start))).Nodup := by decide +kernel

def anchored : ShowControl := { showing .running with gate := some { showTime := 5000, localTime := 0 } }

theorem test_met_rate_gate :
    (showing .running).gate = none ∧ anchored.gate = some { showTime := 5000, localTime := 0 }
      ∧ (anchored.offerGate 5475 499999).gate = anchored.gate
      ∧ (anchored.offerGate 5475 500000).rate = { num := 19, den := 20 }
      ∧ (anchored.offerGate 5525 500000).rate = { num := 21, den := 20 }
      ∧ (anchored.offerGate 5474 500000).rateRejects = 1 ∧ (anchored.offerGate 4999 500000).rateRejects = 1 := by
  decide +kernel

theorem test_met_marks_lost :
    (playing .running).show_.markLoss = some 0
      ∧ (after (.marksLost 3000000) (playing .running)).show_.state = .coasting
      ∧ (after (.marksLost 2999999) (playing .running)).show_.state = .running
      ∧ (after (.frozen 10000000) (playing .paused)).show_.state = .frozen
      ∧ (after (.frozen 10000000) (playing .coasting)).loader.faultLine = true
      ∧ (after (.frozen 9999999) (playing .running)).show_.state = .running := by decide +kernel

/-- Clips of which engine 0 plays clip 5. -/
def withClips (cs : List Clip) : State := { busy with clips := store cs (some { clip := 5, index := 9 }) }

/-- R56, R141: COASTING keeps each engine's current part and every clip; the demand that a state change leaves. -/
theorem test_met_coasting_and_demand :
    (after (.marksLost 3000000) busy).show_.state = .coasting ∧ (after (.marksLost 3000000) busy).clips = busy.clips
      ∧ (after (.marksLost 3000000) (withClips [clipAt 5 4000 99 .playing, clipAt 6 9000 99 .loading])).clips.engines.e0
          = { current := some { clip := 5, index := 9 }, next := some 6 }
      ∧ (after (.showEnd 0) (taking .showEnd { holding [] 0 (playing .running) with peers := [] })).pm.claim
          = some { position := at_ 2 0, stamp := 100 }
      ∧ (after (.showEnd 0) (taking .showEnd (holding [h1] 2 (playing .running)))).pm.demand = 1
      ∧ (after (.frozen 10000000) (holding [h1] 0 (playing .running))).pm.demand = 1 := by decide +kernel

/-- R38, R59: what FROZEN leaves of cues on air, cues whose start is owed, and clips. -/
def frozen : State :=
  after (.frozen 0) { playing .running with
    show_ := { showing .running with markLoss := some 10000000 }
    cues := { CueQueue.reset with entries :=
      [aCue .showing (some 90), { aCue .showing none with start := 4100 }, { aCue .spent none with start := 4200 }] }
    clips := store [clipAt 5 4000 99 .playing, clipAt 6 4500 99 .late, clipAt 7 6000 99 .spent] (some { clip := 5, index := 9 }) }

theorem test_met_frozen :
    frozen.cues.entries.map (·.state) = [.waiting, .waiting, .spent] ∧ frozen.cues.clears.map (·.start) = [4000]
      ∧ frozen.clips.clips.map (·.state) = [.ready, .loading, .spent]
      ∧ frozen.clips.engines.e0 = { current := none, next := some 5 } := by decide +kernel

def loaded (table first : Nat) (values : List Byte) : State := after (.tableLoad 0) (taking (.tableLoad table first values) busy)

theorem test_met_table_load :
    Memory.wf tableDefault busy.show_.tables = true ∧ tableLoadBad 3 255 [7] = false ∧ tableLoadBad 3 255 [7, 7] = true
      ∧ tableLoadBad 4 0 [7] = true ∧ tableLoadBad 0 0 [] = true ∧ tableLoadBad 0 0 (List.replicate 64 7) = false
      ∧ tableLoadBad 0 0 (List.replicate 65 7) = true ∧ (loaded 3 255 [7]).show_.tables = [(1023, 7)]
      ∧ (loaded 3 255 [255]).show_.tables = [] := by decide +kernel

/-! ## Cues and clips -/

def cued (start stop region : Nat) (text : List Byte) (s : State) : State :=
  after (.cue 0) (taking (.cue 1 start stop region true false text) s)

def crowd (state : CueState) : State :=
  { busy with cues := { CueQueue.reset with
      entries := (List.range 256).map (fun n => { aCue state none with start := n + 10000, stop := n + 20000 }) } }

theorem test_met_cues :
    cueRefusal (showing .running) 1 6000 36000 3 120 = none ∧ cueRefusal (showing .running) 1 6000 36001 3 120 = some .badField
      ∧ cueRefusal (showing .running) 2 6000 7000 3 1 = some .noTrack
      ∧ cueRefusal (showing .running) 1 4000 5000 0 1 = some .tooLate
      ∧ cueRefusal (showing .ended) 1 4000 5000 0 1 = some .wrongState
      ∧ busy.cues.find 1 6000 = none ∧ (cued 6000 7000 0 [65] busy).cues.entries.length = 2
      ∧ busy.cues.find 1 4000 = some (aCue .showing (some 120))
      ∧ ((cued 4000 9000 0 [65] busy).cues.find 1 4000).bind (·.refreshDue) = some 100
      ∧ (crowd .waiting).cues.entries.length = 256 ∧ (∀ e ∈ (crowd .waiting).cues.entries, e.state ≠ .spent)
      ∧ (cued 6000 7000 0 [65] (crowd .waiting)).link.has .queueFull = true
      ∧ (cued 6000 7000 0 [65] (crowd .spent)).cues.entries.length = 256 := by decide +kernel

/-- 256 cues, the first and the third SPENT with equal ends, the others WAITING: the first gives way. -/
def packed : State :=
  { busy with cues := { CueQueue.reset with
      entries := (List.range 256).map (fun n =>
        { aCue (if n = 0 ∨ n = 2 then .spent else .waiting) none with start := n + 10000, stop := 20000 }) } }

theorem test_met_full_queue : packed.cues.entries.length = 256 ∧ packed.cues.find 1 6000 = none
    ∧ packed.cues.entries.head?.map (·.state) = some .spent
    ∧ ((cued 6000 7000 0 [65] packed).cues.entries.map (·.start)).take 3 = [6000, 10001, 10002] := by decide +kernel

theorem test_met_full_queue_order : packed.cuesLegal := by
  refine ⟨by decide +kernel, fun track => ?_⟩
  have h : packed.cues.entries.filter (fun e => e.state == .showing) = [] := by decide +kernel
  have h0 : packed.cues.showing track = [] := by
    rw [List.filter_eq_nil_iff] at h
    exact List.filter_eq_nil_iff.2 (fun e he => by simp [h e he])
  rw [h0]
  decide

def cancelled (track start : Nat) : State := after (.cueCancel 0) (taking (.cueCancel track start) busy)

theorem test_met_cue_cancel :
    (cancelled 1 4000).cues.clears.length = 1 ∧ (cancelled 1 4000).cues.entries = [] ∧ (cancelled 8 2147483647).cues = busy.cues
      ∧ (cancelled 9 4000).link.sending.isSome = true ∧ (cancelled 1 2147483648).link.sending.isSome = true
      ∧ (cancelled 0 4000).cues = busy.cues := by decide +kernel

theorem test_met_cue_cancel_whole :
    busy.cues.find 1 4000 = some (aCue .showing (some 120))
      ∧ (cancelled 1 4000).cues = ({ busy.cues with entries := [] }).oweClear 1 4000 3
      ∧ (after (.cueCancel 0) (taking (.cueCancel 1 4000)
            { busy with cues := { busy.cues with entries := [aCue .showing none] } })).cues
          = { busy.cues with entries := [] } := by
  decide +kernel

def headed (id start length : Nat) (s : State) : State :=
  after (.clipHead 0) (taking (.clipHead id 2 start length) s)

/-- 63 clips of 2 pages, on pages 0 to 125, none SPENT; and 64 of them. -/
def stocked (n : Nat) : State :=
  { busy with clips := { ClipStore.reset with
      clips := (List.range n).map (fun k =>
        { aClip .ready [true] with id := k + 10, start := 20000 + k, pages := [2 * k, 2 * k + 1] }) } }

theorem test_met_clip_head :
    clipHeadRefusal (showing .running) busy.clips 6 2 6000 3000 = none
      ∧ clipHeadRefusal (showing .running) busy.clips 6 2 6000 3001 = some .badField
      ∧ clipHeadRefusal (showing .running) busy.clips 5 2 6000 1 = some .duplicate
      ∧ busy.clips.clips.length < 64 ∧ (3000 + 63) / 64 ≤ busy.clips.freePages.length
      ∧ ((headed 6 6000 65 busy).clips.find 6).map (·.pages) = some [1, 2]
      ∧ clipHeadRefusal (showing .running) (stocked 64).clips 6 2 6000 1 = none
      ∧ (stocked 64).clips.makeRoom ((1 + 63) / 64) = none ∧ (stocked 63).clips.makeRoom ((128 + 63) / 64) = some (stocked 63).clips
      ∧ (headed 6 6000 1 (stocked 64)).link.has .clipNoRoom = true := by decide +kernel

/-- 64 clips of 2 pages, three of them SPENT: ids 73 and 72 end together and last, 71 earlier. -/
def spentStock : State :=
  { busy with clips := { ClipStore.reset with
      clips := (List.range 64).map (fun k =>
        { aClip (if k = 61 ∨ k = 62 ∨ k = 63 then .spent else .ready) [true] with
          id := k + 10, start := if k = 61 then 19000 else if k = 62 ∨ k = 63 then 19500 else 20000 + k
          pages := [2 * k, 2 * k + 1] }) } }

/-- R47: no more SPENT clips go than room needs, in order of end and id; a clip of 7 pages can have none. -/
theorem test_met_clip_eviction :
    ((headed 6 6000 128 spentStock).clips.clips.map (·.id)).drop 60 = [70, 72, 73, 6]
      ∧ ((headed 6 6000 129 spentStock).clips.clips.map (·.id)).drop 60 = [70, 73, 6]
      ∧ ((headed 6 6000 384 spentStock).clips.find 6).map (·.pages) = some [122, 123, 124, 125, 126, 127]
      ∧ (headed 6 6000 385 spentStock).clips.clips.length = 64 ∧ (headed 6 6000 385 spentStock).link.has .clipNoRoom = true := by
  decide +kernel

def dataFor (s : State) (first : Nat) (blocks : List (List Byte)) : State :=
  after (.clipData 0) (taking (.clipData 5 first blocks) s)

def loadingClip : State :=
  { busy with clips := { ClipStore.reset with clips := [{ aClip .loading [true, false] with start := 6000 }] } }

theorem test_met_clip_data :
    clipDataRefusal (showing .running) loadingClip.clips 5 1 1 = none
      ∧ clipDataRefusal (showing .running) loadingClip.clips 5 1 2 = some .badField
      ∧ clipDataRefusal (showing .running) loadingClip.clips 6 0 1 = some .unknownClip
      ∧ ((dataFor loadingClip 1 [List.replicate 32 7]).clips.find 5).map (·.state) = some .ready
      ∧ (dataFor loadingClip 1 [List.replicate 32 7]).clips.memory.length = 32 := by decide +kernel

theorem test_met_clip_data_state : loadingClip.clipsLegal ∧ loadingClip.storesCanonical := by
  constructor
  · unfold State.clipsLegal; decide
  · unfold State.storesCanonical; decide

/-- A LATE clip 5 of track 2, block 1 of n missing, at show time 5,000 with expected index 50; cur is engine 0's current part. -/
def lateClip (length : Nat) (cur : Option Current) : State :=
  { busy with
    clips := store
      [{ aClip .late (true :: false :: List.replicate (length - 2) true) with start := 4000 },
       { clipAt 6 4500 90 .playing with pages := [1, 2] }] cur }

def lateDone (length : Nat) (cur : Option Current) : State := dataFor (lateClip length cur) 1 [List.replicate 32 0]

/-- R50's late rule at 10 and 9 remaining blocks; a clip current then is cut (log 34). -/
theorem test_met_late_rule :
    ((lateDone 60 none).clips.find 5).map (·.state) = some .playing
      ∧ (lateDone 60 none).clips.engines.e0.current = some { clip := 5, index := 50 } ∧ (lateDone 60 none).clips.overlap = 0
      ∧ ((lateDone 59 none).clips.find 5).map (·.state) = some .spent ∧ (lateDone 59 none).clips.skipped = 1
      ∧ (lateDone 60 (some { clip := 6, index := 20 })).clips.overlap = 1
      ∧ ((lateDone 60 (some { clip := 6, index := 20 })).clips.find 6).map (·.state) = some .spent := by decide +kernel

theorem test_met_late_rule_state : (lateClip 60 none).clipsLegal ∧ (lateClip 59 none).clipsLegal := by
  constructor <;> (unfold State.clipsLegal; decide +kernel)

def clipCancelled (id : Nat) : State := after (.clipCancel 0) (taking (.clipCancel id) busy)

theorem test_met_clip_cancel :
    busy.clips.find 5 ≠ none ∧ busy.clips.find 6 = none ∧ (clipCancelled 5).clips.clips = []
      ∧ (clipCancelled 5).clips.engines.e0.current = none ∧ (clipCancelled 6).clips = busy.clips
      ∧ (clipCancelled 0).link.sending.isSome = true := by decide +kernel

/-- R51: the clip an engine plays is cancelled; the engine has no current clip though another waits for it. -/
theorem test_met_cancelled_clip_leaves_no_current :
    (after (.clipCancel 0) (taking (.clipCancel 5)
        (withClips [clipAt 5 4000 99 .playing, clipAt 6 4500 99 .ready]))).clips.engines.e0
      = { current := none, next := some 6 } := by decide +kernel

/-- R140: with carry-always CAPTION and DESCRIPTION tracks, 1 + 3 + 1 cells make 1 slot, and a second CAPTION track 2. -/
theorem test_met_demand :
    demandFor .ready .zero (trackTable [entry 1 1, entry 2 2]) 4 = 1
      ∧ demandFor .ready .zero (trackTable [entry 1 1, entry 2 2, entry 3 1]) 4 = 2
      ∧ demandFor .ready .zero (trackTable [entry 1 1, entry 2 2, entry 3 1]) 1 = 1
      ∧ demandFor .ended .zero (trackTable [entry 1 1]) 4 = 1 ∧ demandFor .noShow .zero [] 4 = 0 := by decide

/-- A count report that raises demand from 1 to 2, one that leaves it, and the counts settled after a fall to 0 (R141). -/
def reporting (demand : Nat) (st : ShowState) : State :=
  { holding [h1] demand (playing st) with
    show_ := { showing st with tracks := trackTable [entry 1 1, entry 2 2, entry 3 1] }
    pm := { (holding [h1] demand (playing st)).pm with holdDown := 2, starvation := 3 }
    roster := { Roster.reset with entries := [{ receiver := 3, track := 1, lastRenewed := 0 }] } }

theorem test_met_count_report :
    (reporting 1 .running).countReport.pm.demand = 2
      ∧ (reporting 1 .running).countReport.pm.claim = some { position := at_ 2 0, stamp := 100 }
      ∧ (reporting 2 .running).countReport.pm.claim = none ∧ (reporting 2 .running).countReport.pm.starvation = 0
      ∧ (reporting 2 .noShow).demandNewShow.pm.demand = 0 := by decide +kernel

end Sys2Proof.Tests
end

/-! SUPPORT. Show control's rules: how a record is taken, what demand worked out afresh touches and that working it out twice
changes nothing more, and what the new show and cleared signals leave. -/

namespace Sys2Proof.Machine

/-! ## Taking a record (R163) -/

/-- The head of the queue is taken by its owner. -/
theorem State.takeHead_of_head {effect : Record → Option (State → State)} {s : State} {r : Record} {rest : List Record}
    {f : State → State} (hq : s.link.rxQueue = r :: rest) (hf : effect r = some f) :
    s.takeHead effect = f { s with link := { s.link with rxQueue := rest } } := by
  simp [State.takeHead, State.dropHead, hq, hf]

/-- Taking a record changes nothing that the queue's tail and each owner's part leave alone. -/
theorem State.takeHead_keeps {α : Type} (field : State → α) {effect : Record → Option (State → State)}
    (hdrop : ∀ s : State, field s.dropHead = field s)
    (heffect : ∀ r f, effect r = some f → ∀ s : State, field (f s) = field s) (s : State) :
    field (s.takeHead effect) = field s := by
  unfold State.takeHead
  split
  · rename_i f hf
    obtain ⟨r, -, hr⟩ := Option.bind_eq_some_iff.1 hf
    rw [heffect r f hr, hdrop]
  · rfl

theorem exec_showLoad (dt : Nat) (s : State) :
    exec (.showLoad dt) s = .next (finish ((advance dt s).takeHead Record.showLoadPart)) := rfl

theorem exec_showClear (dt : Nat) (s : State) :
    exec (.showClear dt) s = .next (finish ((advance dt s).takeHead Record.showClearPart)) := rfl

theorem exec_tableLoad (dt : Nat) (s : State) :
    exec (.tableLoad dt) s = .next (finish ((advance dt s).takeHead Record.tableLoadPart)) := rfl

theorem exec_endedTimerExpiry (dt : Nat) (s : State) :
    exec (.endedTimerExpiry dt) s = .next (finish (advance dt s).endedTimerExpiry) := rfl

/-! ## The counts settled (R152, R154) -/

@[simp] theorem settle_demand (joined : Bool) (p : PositionManager) : (settle joined p).demand = p.demand := rfl
@[simp] theorem settle_counts (joined : Bool) (p : PositionManager) : (settle joined p).counts = p.counts := rfl
@[simp] theorem settle_holdings (joined : Bool) (p : PositionManager) : (settle joined p).holdings = p.holdings := rfl
@[simp] theorem settle_claim (joined : Bool) (p : PositionManager) : (settle joined p).claim = p.claim := rfl

/-- The conditions do not read the counts they govern, so settling again changes nothing. -/
@[simp] theorem settle_settle (joined : Bool) (p : PositionManager) : settle joined (settle joined p) = settle joined p := by
  have hold : holdDownRuns joined (settle joined p) = holdDownRuns joined p := rfl
  have starve : starvationRuns joined (settle joined p) = starvationRuns joined p := rfl
  rw [settle, hold, starve]
  cases holds : holdDownRuns joined p <;> cases starves : starvationRuns joined p <;> simp [settle, holds, starves]

/-! ## A claim attempt (R143) -/

/-- A claim attempt issues a claim for the scan's position, if the station may claim and there is one. -/
theorem State.claimAttempt_eq (s : State) :
    s.claimAttempt = (if s.mayClaim then s.scan else none).elim s s.issueClaim := by
  unfold State.claimAttempt
  split
  · cases s.scan <;> rfl
  · rfl

@[simp] theorem State.issueClaim_pm (p : Position) (s : State) : (s.issueClaim p).pm =
    settle s.joined { s.pm with claim := some { position := p, stamp := s.timing.boundaryFrame } } := by
  simp [State.issueClaim]

/-- A claim attempt is an unchanged state or an issued claim. -/
theorem State.claimAttempt_cases (s : State) : s.claimAttempt = s ∨ ∃ p, s.claimAttempt = s.issueClaim p := by
  rw [s.claimAttempt_eq]
  cases (if s.mayClaim then s.scan else none) with
  | none => exact .inl rfl
  | some p => exact .inr ⟨p, rfl⟩

@[simp] theorem State.claimAttempt_demand (s : State) : s.claimAttempt.pm.demand = s.pm.demand := by
  obtain h | ⟨p, h⟩ := s.claimAttempt_cases <;> simp [h]

@[simp] theorem State.claimAttempt_counts (s : State) : s.claimAttempt.pm.counts = s.pm.counts := by
  obtain h | ⟨p, h⟩ := s.claimAttempt_cases <;> simp [h]

@[simp] theorem State.claimAttempt_holdings (s : State) : s.claimAttempt.pm.holdings = s.pm.holdings := by
  obtain h | ⟨p, h⟩ := s.claimAttempt_cases <;> simp [h]

/-- A claim attempt from settled counts leaves settled counts. -/
theorem State.claimAttempt_settled {s : State} (h : settle s.joined s.pm = s.pm) :
    settle s.joined s.claimAttempt.pm = s.claimAttempt.pm := by
  obtain hs | ⟨p, hs⟩ := s.claimAttempt_cases
  · rw [hs, h]
  · simp [hs]

/-! A message handed over, a claim issued or attempted and demand worked out afresh read neither link, cues, clips nor roster,
and change position manager and house line alone. -/

theorem State.handOver_content (b : WaitingBody) (s : State) (k : ShowLink) (q : CueQueue) (c : ClipStore) (r : Roster) :
    State.handOver b { s with link := k, cues := q, clips := c, roster := r } =
      { s with link := k, cues := q, clips := c, roster := r, line := (s.handOver b).line } := by
  change (if s.loader.station == .joined then _ else _) = _
  unfold State.handOver
  split <;> rfl

theorem State.issueClaim_content (p : Position) (s : State) (k : ShowLink) (q : CueQueue) (c : ClipStore) (r : Roster) :
    State.issueClaim p { s with link := k, cues := q, clips := c, roster := r } =
      { s with link := k, cues := q, clips := c, roster := r
               pm := (s.issueClaim p).pm, line := (s.issueClaim p).line } := by
  rw [State.issueClaim_pm]
  exact State.handOver_content _ (s.setPm _) k q c r

theorem State.claimAttempt_content (s : State) (k : ShowLink) (q : CueQueue) (c : ClipStore) (r : Roster) :
    State.claimAttempt { s with link := k, cues := q, clips := c, roster := r } =
      { s with link := k, cues := q, clips := c, roster := r
               pm := s.claimAttempt.pm, line := s.claimAttempt.line } := by
  rw [State.claimAttempt_eq, s.claimAttempt_eq]
  change Option.elim (if s.mayClaim then s.scan else none) _ _ = _
  cases (if s.mayClaim then s.scan else none) with
  | none => rfl
  | some p => exact State.issueClaim_content p s k q c r

/-! ## Demand worked out afresh (R140, R141) -/

/-- A rise makes a claim attempt with the hold-down cleared. -/
theorem State.recomputeDemand_of_rise {s : State}
    (h : s.pm.demand < demandFor s.show_.state s.pm.counts s.show_.tracks s.cfg.maxHoldings) :
    s.recomputeDemand = (s.setPm { s.pm with
      demand := demandFor s.show_.state s.pm.counts s.show_.tracks s.cfg.maxHoldings, holdDown := 0 }).claimAttempt :=
  if_pos h

theorem State.recomputeDemand_of_no_rise {s : State}
    (h : demandFor s.show_.state s.pm.counts s.show_.tracks s.cfg.maxHoldings ≤ s.pm.demand) :
    s.recomputeDemand = s.setPm { s.pm with
      demand := demandFor s.show_.state s.pm.counts s.show_.tracks s.cfg.maxHoldings } :=
  if_neg (Nat.not_lt.2 h)

theorem State.recomputeDemand_content (s : State) (k : ShowLink) (q : CueQueue) (c : ClipStore) (r : Roster) :
    State.recomputeDemand { s with link := k, cues := q, clips := c, roster := r } =
      { s with link := k, cues := q, clips := c, roster := r
               pm := s.recomputeDemand.pm, line := s.recomputeDemand.line } := by
  obtain h | h := Nat.lt_or_ge s.pm.demand (demandFor s.show_.state s.pm.counts s.show_.tracks s.cfg.maxHoldings)
  · rw [State.recomputeDemand_of_rise h]
    exact (State.recomputeDemand_of_rise (s := { s with link := k, cues := q, clips := c, roster := r }) h).trans
      (State.claimAttempt_content (s.setPm _) k q c r)
  · rw [State.recomputeDemand_of_no_rise h]
    exact State.recomputeDemand_of_no_rise h

/-- Demand worked out afresh settles the position manager with its new demand, and a claim attempt may follow. -/
theorem State.recomputeDemand_cases (s : State) : ∃ p : PositionManager,
    (s.recomputeDemand = s.setPm p ∨ s.recomputeDemand = (s.setPm p).claimAttempt)
      ∧ p.demand = demandFor s.show_.state s.pm.counts s.show_.tracks s.cfg.maxHoldings ∧ p.counts = s.pm.counts
      ∧ p.holdings = s.pm.holdings := by
  obtain h | h := Nat.lt_or_ge s.pm.demand (demandFor s.show_.state s.pm.counts s.show_.tracks s.cfg.maxHoldings)
  · exact ⟨_, .inr (State.recomputeDemand_of_rise h), rfl, rfl, rfl⟩
  · exact ⟨_, .inl (State.recomputeDemand_of_no_rise h), rfl, rfl, rfl⟩

@[simp] theorem State.recomputeDemand_demand (s : State) : s.recomputeDemand.pm.demand =
    demandFor s.show_.state s.pm.counts s.show_.tracks s.cfg.maxHoldings := by
  obtain ⟨p, h | h, demand, -, -⟩ := s.recomputeDemand_cases <;> simp [h, demand]

@[simp] theorem State.recomputeDemand_counts (s : State) : s.recomputeDemand.pm.counts = s.pm.counts := by
  obtain ⟨p, h | h, -, counts, -⟩ := s.recomputeDemand_cases <;> simp [h, counts]

@[simp] theorem State.recomputeDemand_holdings (s : State) : s.recomputeDemand.pm.holdings = s.pm.holdings := by
  obtain ⟨p, h | h, -, -, holdings⟩ := s.recomputeDemand_cases <;> simp [h, holdings]

@[simp] theorem State.recomputeDemand_joined (s : State) : s.recomputeDemand.joined = s.joined := by simp [State.joined]

@[simp] theorem State.recomputeDemand_cfg (s : State) : s.recomputeDemand.cfg = s.cfg := by simp [State.cfg]

theorem State.recomputeDemand_settled (s : State) : settle s.joined s.recomputeDemand.pm = s.recomputeDemand.pm := by
  obtain ⟨p, h | h, -, -, -⟩ := s.recomputeDemand_cases
  · rw [h]
    exact settle_settle _ _
  · rw [h]
    exact State.claimAttempt_settled (s := s.setPm p) (settle_settle _ _)

/-- Worked out a second time demand neither rises nor changes, and the counts are settled. -/
@[simp] theorem State.recomputeDemand_idem (s : State) : s.recomputeDemand.recomputeDemand = s.recomputeDemand := by
  have demand : demandFor s.recomputeDemand.show_.state s.recomputeDemand.pm.counts s.recomputeDemand.show_.tracks
      s.recomputeDemand.cfg.maxHoldings = s.recomputeDemand.pm.demand := by simp
  rw [State.recomputeDemand_of_no_rise demand.le, demand]
  have settled : settle s.recomputeDemand.joined s.recomputeDemand.pm = s.recomputeDemand.pm := by
    rw [State.recomputeDemand_joined, State.recomputeDemand_settled]
  exact congrArg (fun p => { s.recomputeDemand with pm := p }) settled

/-! ## The new show and cleared signals (R19, R40, R61, R94, R141) -/

theorem State.demandNewShow_content (s : State) (k : ShowLink) (q : CueQueue) (c : ClipStore) (r : Roster) :
    State.demandNewShow { s with link := k, cues := q, clips := c, roster := r } =
      { s with link := k, cues := q, clips := c, roster := r
               pm := s.demandNewShow.pm, line := s.demandNewShow.line } :=
  State.recomputeDemand_content { s with pm := { s.pm with counts := .zero } } k q c r

@[simp] theorem State.demandNewShow_counts (s : State) : s.demandNewShow.pm.counts = .zero := by
  simp [State.demandNewShow]

@[simp] theorem State.demandNewShow_demand (s : State) : s.demandNewShow.pm.demand =
    demandFor s.show_.state .zero s.show_.tracks s.cfg.maxHoldings := by
  simp [State.demandNewShow, State.cfg]

@[simp] theorem State.demandNewShow_holdings (s : State) : s.demandNewShow.pm.holdings = s.pm.holdings := by
  simp [State.demandNewShow]

theorem State.recomputeDemand_demandNewShow (s : State) : s.demandNewShow.recomputeDemand = s.demandNewShow :=
  State.recomputeDemand_idem _

/-- With every count 0 already, the signal finds nothing more to change. -/
theorem State.demandNewShow_idem (s : State) : s.demandNewShow.demandNewShow = s.demandNewShow := by
  have same : { s.demandNewShow with pm := { s.demandNewShow.pm with counts := .zero } } = s.demandNewShow := by
    rw [← s.demandNewShow_counts]
  rw [State.demandNewShow, same, State.recomputeDemand_demandNewShow]

/-- In NO SHOW demand is 0, which no demand is below: no claim is attempted. -/
theorem State.demandNewShow_of_noShow {s : State} (h : s.show_.state = .noShow) :
    s.demandNewShow = s.setPm { s.pm with counts := .zero, demand := 0 } := by
  have zero : ∀ n, demandFor s.show_.state .zero s.show_.tracks n = 0 := by simp [h, demandFor]
  have same := State.recomputeDemand_of_no_rise (s := { s with pm := { s.pm with counts := .zero } })
    ((zero _).le.trans (Nat.zero_le _))
  rw [zero] at same
  exact same

/-- The count report of an emptied roster is the new show's. -/
theorem State.countReport_of_no_entries {s : State} (h : s.roster.entries = []) : s.countReport = s.demandNewShow := by
  have counts : s.roster.counts = .zero := by simp [Roster.counts, h]; rfl
  rw [State.countReport, counts, State.demandNewShow]

/-- Everything of the old show is gone, and demand is worked out once: the report of the emptied roster and the signal itself
come to the same. -/
theorem State.signalEmpty_eq (s : State) : s.signalEmpty =
    { s with cues := { s.cues with entries := [], clears := [], generation := s.cues.generation + 1 }
             clips := { s.clips with clips := [], engines := .all { current := none, next := none } }
             roster := { s.roster with entries := [], acks := [] }
             pm := s.demandNewShow.pm, line := s.demandNewShow.line } := by
  have emptied := State.demandNewShow_content s s.link s.cues.clearAll s.clips.clearAll
    { s.roster with entries := [], acks := [] }
  rw [State.signalEmpty, State.rosterCleared]
  dsimp only
  split
  · rw [State.countReport_of_no_entries rfl, State.demandNewShow_idem]
    exact emptied
  · exact emptied

/-- Without clips no engine has a next clip to choose. -/
theorem ClipStore.rechoose_clearAll (show_ : ShowControl) (c : ClipStore) : c.clearAll.rechoose show_ = c.clearAll := by
  have none_next : ∀ bound, c.clearAll.chooseNext show_ bound { current := none, next := none } = none := by
    intro bound
    cases bound with
    | none => rfl
    | some track => simp [ClipStore.chooseNext, ClipStore.clearAll, firstBy]
  unfold ClipStore.rechoose
  simp only [ClipStore.clearAll, PerEngine.zip, PerEngine.all] at none_next ⊢
  simp only [none_next, Option.map_none]

/-- After the signal a change of the show state has no more to do: no clip is left, and demand is worked out already. -/
@[simp] theorem State.signalState_signalEmpty (before : ShowState) (s : State) :
    s.signalEmpty.signalState before = s.signalEmpty := by
  have clips : s.signalEmpty.clips.rechoose s.signalEmpty.show_ = s.signalEmpty.clips := by
    rw [s.signalEmpty_eq]; exact ClipStore.rechoose_clearAll _ _
  unfold State.signalState
  split
  · rfl
  · rw [clips]; exact State.recomputeDemand_demandNewShow _

end Sys2Proof.Machine

/-! SUPPORT. Show control's own records: the track list and its table, SHOW LOAD, the clearing of a show, TABLE LOAD, and what
leaves the translation tables alone. -/

namespace Sys2Proof.Machine

/-! ## The track list (R2) -/

theorem isLetter_iff (b : Byte) : isLetter b = true ↔ 65 ≤ b.toNat ∧ b.toNat ≤ 90 ∨ 97 ≤ b.toNat ∧ b.toNat ≤ 122 := by
  simp [isLetter]

theorem isSome_trackKindOf (kind : Nat) : (trackKindOf kind).isSome = true ↔ kind = 1 ∨ kind = 2 := by
  unfold trackKindOf
  split <;> simp_all

theorem TrackEntry.valid_iff (e : TrackEntry) : e.valid = true ↔
    1 ≤ e.number ∧ e.number ≤ 8 ∧ (e.kind = 1 ∨ e.kind = 2) ∧ e.language.length = 3
      ∧ (∀ b ∈ e.language, 65 ≤ b.toNat ∧ b.toNat ≤ 90 ∨ 97 ≤ b.toNat ∧ b.toNat ≤ 122)
      ∧ e.requiredClass ≤ 3 ∧ (e.kind = 1 → e.table ≤ 3) := by
  simp only [TrackEntry.valid, Bool.and_eq_true, Bool.or_eq_true, decide_eq_true_eq, isSome_trackKindOf, beq_iff_eq,
    List.all_eq_true, isLetter_iff, bne_iff_ne, ne_eq, and_assoc, ← imp_iff_not_or]

theorem validTracks_iff (es : List TrackEntry) : validTracks es = true ↔
    1 ≤ es.length ∧ es.length ≤ 8 ∧ (es.map (·.number)).Nodup ∧ (es.filter (fun e => e.kind == 2)).length ≤ 4
      ∧ ∀ e ∈ es, e.valid = true := by
  simp only [validTracks, Bool.and_eq_true, decide_eq_true_eq, List.all_eq_true]
  tauto

/-! ## The table and the binding (R2, R3) -/

/-- The model's insertion is Mathlib's, by the relation "need not follow". -/
theorem insertBy_eq_orderedInsert {α : Type} (before : α → α → Bool) (x : α) (l : List α) :
    insertBy before x l = l.orderedInsert (fun a b => before b a = false) x := by
  induction l with
  | nil => rfl
  | cons y ys ih =>
    rw [insertBy, List.orderedInsert, ih]
    cases before y x <;> rfl

theorem sortBy_eq_insertionSort {α : Type} (before : α → α → Bool) (l : List α) :
    sortBy before l = l.insertionSort (fun a b => before b a = false) := by
  induction l with
  | nil => rfl
  | cons x xs ih => rw [sortBy, ih, insertBy_eq_orderedInsert]; rfl

theorem sortBy_perm {α : Type} (before : α → α → Bool) (l : List α) : (sortBy before l).Perm l := by
  rw [sortBy_eq_insertionSort]
  exact List.perm_insertionSort _ l

/-- Sorted by a number, a list is in ascending order of it. -/
theorem sortBy_pairwise_le {α : Type} (key : α → Nat) (l : List α) :
    (sortBy (fun a b => key a < key b) l).Pairwise (fun a b => key a ≤ key b) := by
  have order : (fun a b => decide (key b < key a) = false) = fun a b => key a ≤ key b := by
    funext a b; simp
  have total : Std.Total (fun a b => key a ≤ key b) := ⟨fun a b => Nat.le_total (key a) (key b)⟩
  have trans : IsTrans α (fun a b => key a ≤ key b) := ⟨fun _ _ _ => Nat.le_trans⟩
  rw [sortBy_eq_insertionSort]
  simp only [order]
  exact List.pairwise_insertionSort _ l

/-- Sorted by numbers that all differ, a list ascends strictly. -/
theorem sortBy_pairwise_lt {α : Type} (key : α → Nat) (l : List α) (h : (l.map key).Nodup) :
    (sortBy (fun a b => key a < key b) l).Pairwise (fun a b => key a < key b) := by
  have distinct : (sortBy (fun a b => key a < key b) l).Pairwise (fun a b => key a ≠ key b) :=
    List.pairwise_map.1 (((sortBy_perm _ l).map key).nodup_iff.2 h)
  exact ((sortBy_pairwise_le key l).and distinct).imp (fun hab => Nat.lt_of_le_of_ne hab.1 hab.2)

/-- An entry of a kind that exists, as the table holds it. -/
theorem TrackEntry.track_of_kind {e : TrackEntry} (h : e.kind = 1 ∨ e.kind = 2) : e.track =
    { number := e.number, kind := if e.kind = 1 then .caption else .description, language := e.language
      requiredClass := e.requiredClass, table := e.table, carryAlways := e.carryAlways } := by
  obtain h | h := h <;> simp [TrackEntry.track, trackKindOf, h]

theorem mem_trackTable (es : List TrackEntry) (k : Track) : k ∈ trackTable es ↔ ∃ e ∈ es, k = e.track := by
  simp [trackTable, mem_sortBy, eq_comm]

theorem trackTable_pairwise (es : List TrackEntry) (h : (es.map (·.number)).Nodup) :
    (trackTable es).Pairwise (fun a b => a.number < b.number) := by
  refine sortBy_pairwise_lt Track.number _ ?_
  rwa [List.map_map]

theorem bindEngines_get (table : List Track) {i : Nat} (h : i < 4) :
    (bindEngines table).get i = ((table.filter (fun k => k.kind == .description)).map (·.number))[i]? := by
  match i, h with
  | 0, _ | 1, _ | 2, _ | 3, _ => rfl

/-! ## A show loaded and a show cleared (R4, R6, R7) -/

theorem showLoadBad_iff (session : BitVec 32) (time : Nat) (es : List TrackEntry) :
    showLoadBad session time es = true ↔ session = 0 ∨ 2147483647 < time ∨ validTracks es = false := by
  have past : decide (Config.maxShowTime < time) = true ↔ 2147483647 < time := decide_eq_true_iff
  simp only [showLoadBad, Bool.or_eq_true, beq_iff_eq, past, Bool.not_eq_true', or_assoc]

theorem State.showLoad_of_bad {session : BitVec 32} {time : Nat} {es : List TrackEntry}
    (h : showLoadBad session time es = true) (s : State) : s.showLoad session time es = s.refusePlain 1 .badField :=
  if_pos h

theorem State.showLoad_of_good {session : BitVec 32} {time : Nat} {es : List TrackEntry}
    (h : showLoadBad session time es = false) (s : State) :
    s.showLoad session time es = State.signalEmpty { s with show_ := s.show_.load session time es } := by
  rw [State.showLoad, h]
  exact State.signalState_signalEmpty _ _

theorem State.clearShow_eq (s : State) : s.clearShow = State.signalEmpty { s with show_ := s.show_.clear } :=
  State.signalState_signalEmpty _ _

/-- The signal after the record has left the queue: the queue alone differs, demand being blind to it. -/
theorem State.signalEmpty_with_link (s : State) (k : ShowLink) :
    State.signalEmpty { s with link := k } = { s.signalEmpty with link := k } := by
  have blind := s.demandNewShow_content k s.cues s.clips s.roster
  rw [State.signalEmpty_eq, State.signalEmpty_eq, blind]

/-! ## Translation tables (R17) -/

theorem tableLoadBad_iff (table first : Nat) (values : List Byte) : tableLoadBad table first values = true ↔
    3 < table ∨ values.length < 1 ∨ 64 < values.length ∨ 255 < first + values.length - 1 := by
  simp [tableLoadBad, or_assoc]

theorem State.tableLoad_of_bad {table first : Nat} {values : List Byte} (h : tableLoadBad table first values = true)
    (s : State) : s.tableLoad table first values = s.refusePlain 5 .badField :=
  if_pos h

theorem State.tableLoad_of_good {table first : Nat} {values : List Byte} (h : tableLoadBad table first values = false)
    (s : State) : s.tableLoad table first values = { s with show_ := { s.show_ with
      tables := Memory.writeRun tableDefault s.show_.tables (table * 256 + first) values } } := by
  rw [State.tableLoad, h]; rfl

@[simp] theorem ShowControl.advance_tables (dt : Nat) (c : ShowControl) : (c.advance dt).tables = c.tables := by
  unfold ShowControl.advance ShowControl.advanceClock
  dsimp only
  split
  · split <;> rfl
  · rfl

@[simp] theorem advance_tables (dt : Nat) (s : State) : (advance dt s).show_.tables = s.show_.tables := by
  unfold advance
  split <;> simp

theorem State.showLoad_tables (session : BitVec 32) (time : Nat) (es : List TrackEntry) (s : State) :
    (s.showLoad session time es).show_.tables = s.show_.tables := by
  unfold State.showLoad
  split <;> simp [ShowControl.load]

theorem State.clearShow_tables (s : State) : s.clearShow.show_.tables = s.show_.tables := by
  simp [State.clearShow_eq, ShowControl.clear]

theorem Record.showLoadPart_tables (r : Record) (f : State → State) (h : r.showLoadPart = some f) (s : State) :
    (f s).show_.tables = s.show_.tables := by
  unfold Record.showLoadPart at h
  split at h <;> cases h
  exact State.showLoad_tables _ _ _ s

theorem Record.showClearPart_tables (r : Record) (f : State → State) (h : r.showClearPart = some f) (s : State) :
    (f s).show_.tables = s.show_.tables := by
  unfold Record.showClearPart at h
  split at h <;> cases h
  exact State.clearShow_tables s

/-- An entry of an unwritten table is its own number. -/
theorem tableDefault_entry (table : Nat) {entry : Nat} (h : entry < 256) :
    tableDefault (table * 256 + entry) = BitVec.ofNat 8 entry := by
  have own : (table * 256 + entry) % 256 = entry := by omega
  rw [tableDefault, own]

end Sys2Proof.Machine

/-! The statements of chapter 01 on loading a show, clearing it, and the translation tables. -/

namespace Sys2Proof.Machine

/-- SHOW LOAD refused: the REFUSAL is all that happens (R4). -/
theorem exec_showLoad_of_bad {dt : Nat} {s u : State} {session : BitVec 32} {time : Nat} {tracks : List TrackEntry}
    {rest : List Record} (hu : u = advance dt s) (hq : u.link.rxQueue = .showLoad session time tracks :: rest)
    (h : showLoadBad session time tracks = true) :
    exec (.showLoad dt) s = .next (finish { u with
      link := ShowLink.handRefusal
        { kind := some 1, reason := .badField, cue := none, clip := none } { u.link with rxQueue := rest } }) := by
  rw [exec_showLoad, ← hu, State.takeHead_of_head hq rfl, State.showLoad_of_bad h]
  rfl

/-- SHOW LOAD taken: show control loads the show, and the new show signal empties the other blocks (R4). -/
theorem exec_showLoad_of_good {dt : Nat} {s u : State} {session : BitVec 32} {time : Nat} {tracks : List TrackEntry}
    {rest : List Record} (hu : u = advance dt s) (hq : u.link.rxQueue = .showLoad session time tracks :: rest)
    (h : showLoadBad session time tracks = false) :
    exec (.showLoad dt) s = .next (finish
      { State.signalEmpty { u with show_ := u.show_.load session time tracks } with
        link := { u.link with rxQueue := rest } }) := by
  rw [exec_showLoad, ← hu, State.takeHead_of_head hq rfl, State.showLoad_of_good h,
    ← State.signalEmpty_with_link]

/-- Settles O48: the signals' several workings-out of demand come to one (State.signalEmpty_eq), validity is taken entry by entry,
and the table is the list sorted by numbers that all differ. -/
theorem showLoadBeginsAShow : Obligations.ShowLoadBeginsAShow := by
  refine ⟨fun dt s u session time tracks rest hu hq => ⟨fun hbad => ?_, fun hsession htime hvalid loaded v hl hv => ?_⟩,
    fun tracks => ⟨?_, fun hvalid => ?_⟩, fun table i hi => bindEngines_get table hi⟩
  · exact exec_showLoad_of_bad hu hq ((showLoadBad_iff _ _ _).2 hbad)
  · have good : showLoadBad session time tracks = false := by
      rw [← Bool.not_eq_true, showLoadBad_iff]
      simp only [hsession, hvalid, Nat.not_lt.2 htime, Bool.true_eq_false, or_self, not_false_eq_true]
    subst hl hv
    refine ⟨?_, ?_, State.demandNewShow_counts _, State.demandNewShow_demand _, State.demandNewShow_holdings _⟩
    · rw [exec_showLoad_of_good hu hq good, State.signalEmpty_eq]
      rfl
    · simp [ClipStore.freePages, Config.pages]
  · simp only [validTracks_iff, TrackEntry.valid_iff]
  · obtain ⟨-, -, distinct, -, entries⟩ := (validTracks_iff tracks).1 hvalid
    refine ⟨trackTable_pairwise tracks distinct, fun k => (mem_trackTable tracks k).trans ?_⟩
    refine exists_congr fun e => and_congr_right fun he => ?_
    obtain ⟨-, -, kind, -⟩ := e.valid_iff.1 (entries e he)
    rw [TrackEntry.track_of_kind kind]

/-- SHOW CLEAR, and the ENDED timer run out, both clear the show (R6, R7). -/
theorem exec_of_clears {dt : Nat} {s u : State} {c : Instr} {rx : List Record} (hu : u = advance dt s)
    (h : (c = .showClear dt ∧ u.link.rxQueue = .showClear :: rx)
      ∨ (c = .endedTimerExpiry dt ∧ u.show_.endedTimer = some 0 ∧ u.link.rxQueue = rx)) :
    exec c s = .next (finish
      { State.signalEmpty { u with show_ := u.show_.clear } with link := { u.link with rxQueue := rx } }) := by
  obtain ⟨rfl, hq⟩ | ⟨rfl, htimer, rfl⟩ := h
  · rw [exec_showClear, ← hu, State.takeHead_of_head hq rfl, State.clearShow_eq, ← State.signalEmpty_with_link]
  · rw [exec_endedTimerExpiry, ← hu, State.endedTimerExpiry, if_pos (beq_iff_eq.2 htimer), State.clearShow_eq,
      ← State.signalEmpty_with_link]

/-- Settles O50: demand 0 attempts no claim, so the line is as it was. -/
theorem theShowIsCleared : Obligations.TheShowIsCleared := by
  intro dt s u c rx hu hc cleared v hcl hv
  have noShow : v = cleared.setPm { cleared.pm with counts := .zero, demand := 0 } := by
    rw [hv]; exact State.demandNewShow_of_noShow (by rw [hcl])
  refine ⟨?_, ?_⟩
  · have line : v.line = u.line := by rw [noShow, hcl]; rfl
    rw [exec_of_clears hu hc, State.signalEmpty_eq, ← line, hv, hcl]
    rfl
  · subst hcl
    simp [noShow]

/-- Settles O54, by the store's rule for a run of writes; neither SHOW LOAD nor SHOW CLEAR has a part that writes the tables. -/
theorem tableLoadWritesItsEntries : Obligations.TableLoadWritesItsEntries := by
  refine ⟨fun table entry _ hentry => tableDefault_entry table hentry,
    fun dt s u table first values rest hu hq hwf => ⟨fun hbad => ?_, fun htable hone hmost hlast => ?_⟩,
    fun dt s t ht => ?_⟩
  · rw [exec_tableLoad, ← hu, State.takeHead_of_head hq rfl,
      State.tableLoad_of_bad ((tableLoadBad_iff _ _ _).2 hbad)]
    rfl
  · have good : tableLoadBad table first values = false := by
      rw [← Bool.not_eq_true, tableLoadBad_iff]
      omega
    refine ⟨Memory.writeRun tableDefault u.show_.tables (table * 256 + first) values, ?_, fun i hi => ?_, fun a ha => ?_⟩
    · rw [exec_tableLoad, ← hu, State.takeHead_of_head hq rfl, State.tableLoad_of_good good]
    · rw [Memory.read_writeRun _ _ _ _ _ hwf, if_pos (by omega)]
      congr 1
      omega
    · rw [Memory.read_writeRun _ _ _ _ _ hwf, if_neg (by omega)]
  · obtain ht | ht := ht
    · rw [exec_showLoad] at ht
      cases ht
      rw [finish_show, State.takeHead_keeps (·.show_.tables) (fun _ => rfl) Record.showLoadPart_tables, advance_tables]
    · rw [exec_showClear] at ht
      cases ht
      rw [finish_show, State.takeHead_keeps (·.show_.tables) (fun _ => rfl) Record.showClearPart_tables, advance_tables]

end Sys2Proof.Machine

/-! SUPPORT. The cue queue's rules for CUE CANCEL: when an entry is on air, what a cancellation removes, and which records are
refused. -/

namespace Sys2Proof.Machine

/-- On air is SHOWING with the start sent (R20). -/
theorem Cue.onAir_iff (e : Cue) : e.onAir = true ↔ e.state = .showing ∧ e.refreshDue ≠ none := by
  rw [Cue.onAir, Bool.and_eq_true, beq_iff_eq, Option.isSome_iff_ne_none]

/-- Off air is in another state, or with the start still owed (R20). -/
theorem Cue.onAir_eq_false_iff (e : Cue) : e.onAir = false ↔ e.state ≠ .showing ∨ e.refreshDue = none := by
  rw [← Bool.not_eq_true, e.onAir_iff, not_and_or, not_not]

/-! ## A cancellation in the queue (R26) -/

theorem CueQueue.cancel_of_missing {q : CueQueue} {track start : Nat} (h : q.find track start = none) :
    q.cancel track start = q := by
  rw [CueQueue.cancel, h]

/-- A cue that is found leaves the queue; whether a clear is owed turns on its being on air. -/
theorem CueQueue.cancel_of_found {q : CueQueue} {track start : Nat} {e : Cue} (h : q.find track start = some e) :
    q.cancel track start =
      if e.onAir then (q.remove track start).oweClear track start e.region else q.remove track start := by
  rw [CueQueue.cancel, h]

/-! ## The record taken (R26) -/

theorem exec_cueCancel (dt : Nat) (s : State) :
    exec (.cueCancel dt) s = .next (finish ((advance dt s).takeHead Record.cueCancelPart)) := rfl

theorem State.cueCancel_of_bad {track start : Nat} (h : Config.maxShowTime < start ∨ track < 1 ∨ 8 < track) (s : State) :
    s.cueCancel track start = s.refuseCue 7 track start .badField := by
  rw [State.cueCancel, if_pos (by simpa only [Bool.or_eq_true, decide_eq_true_eq, or_assoc] using h)]

theorem State.cueCancel_of_good {track start : Nat} (hstart : start ≤ Config.maxShowTime) (hone : 1 ≤ track)
    (height : track ≤ 8) (s : State) :
    s.cueCancel track start = { s with cues := s.cues.cancel track start } := by
  have good : ¬ (Config.maxShowTime < start ∨ track < 1 ∨ 8 < track) := by omega
  rw [State.cueCancel, if_neg (by simpa only [Bool.or_eq_true, decide_eq_true_eq, or_assoc] using good)]

end Sys2Proof.Machine

/-! The statement of chapter 02 on CUE CANCEL. -/

namespace Sys2Proof.Machine

/-- CUE CANCEL refused: the REFUSAL, which names the cue, is all that happens (R26). -/
theorem exec_cueCancel_of_bad {dt : Nat} {s u : State} {track start : Nat} {rest : List Record} (hu : u = advance dt s)
    (hq : u.link.rxQueue = .cueCancel track start :: rest)
    (h : Config.maxShowTime < start ∨ track < 1 ∨ 8 < track) :
    exec (.cueCancel dt) s = .next (finish { u with
      link := ShowLink.handRefusal
        { kind := some 7, reason := .badField, cue := some (track, start), clip := none }
          { u.link with rxQueue := rest } }) := by
  rw [exec_cueCancel, ← hu, State.takeHead_of_head hq rfl, State.cueCancel_of_bad h]
  rfl

/-- CUE CANCEL in range: the record is taken, and the queue's cancellation is all that happens (R26). -/
theorem exec_cueCancel_of_good {dt : Nat} {s u : State} {track start : Nat} {rest : List Record} (hu : u = advance dt s)
    (hq : u.link.rxQueue = .cueCancel track start :: rest) (hstart : start ≤ Config.maxShowTime) (hone : 1 ≤ track)
    (height : track ≤ 8) :
    exec (.cueCancel dt) s = .next (finish { u with
      link := { u.link with rxQueue := rest }, cues := u.cues.cancel track start }) := by
  rw [exec_cueCancel, ← hu, State.takeHead_of_head hq rfl, State.cueCancel_of_good hstart hone height]

/-- Settles O56: the range decides between the refusal and the queue's cancellation, whose outcome turns on the entry found. -/
theorem cueCancelRemovesTheCue : Obligations.CueCancelRemovesTheCue := by
  intro dt s u track start rest hu hq
  refine ⟨exec_cueCancel_of_bad hu hq, fun hstart hone height => ?_⟩
  rw [exec_cueCancel_of_good hu hq hstart hone height]
  refine ⟨fun missing => ?_, fun e removed found hremoved => ?_⟩
  · rw [CueQueue.cancel_of_missing missing]
  · have queue : removed = u.cues.remove track start := hremoved
    rw [CueQueue.cancel_of_found found, queue]
    refine ⟨fun showing sent => ?_, fun offAir => ?_⟩
    · rw [if_pos (e.onAir_iff.2 ⟨showing, sent⟩)]
    · rw [e.onAir_eq_false_iff.2 offAir, if_neg Bool.false_ne_true]

end Sys2Proof.Machine

/-! SUPPORT. The clip store's rules for CLIP CANCEL: what an engine's next clip depends on, what choosing afresh sets, and what
a cancellation leaves on each engine. -/

namespace Sys2Proof.Machine

/-! ## Values kept for each engine -/

theorem PerEngine.get_map {α β : Type} (f : α → β) (v : PerEngine α) (i : Nat) : (v.map f).get i = f (v.get i) := by
  match i with
  | 0 | 1 | 2 | _ + 3 => rfl

theorem PerEngine.get_zip {α β γ : Type} (f : α → β → γ) (v : PerEngine α) (w : PerEngine β) (i : Nat) :
    (PerEngine.zip f v w).get i = f (v.get i) (w.get i) := by
  match i with
  | 0 | 1 | 2 | _ + 3 => rfl

theorem PerEngine.exists_get_of_mem {α : Type} {v : PerEngine α} {a : α} (h : a ∈ v.toList) : ∃ i, v.get i = a := by
  simp only [PerEngine.toList, List.mem_cons, List.not_mem_nil, or_false] at h
  obtain h | h | h | h := h
  · exact ⟨0, h.symm⟩
  · exact ⟨1, h.symm⟩
  · exact ⟨2, h.symm⟩
  · exact ⟨3, h.symm⟩

/-! ## Next clips (R45) -/

/-- The choice reads the clips and the engine's current part alone. -/
theorem ClipStore.chooseNext_congr {s s' : ClipStore} {e e' : Engine} (hclips : s'.clips = s.clips)
    (hcurrent : e'.current = e.current) (show_ : ShowControl) (bound : Option Nat) :
    s'.chooseNext show_ bound e' = s.chooseNext show_ bound e := by
  have start : s'.currentStart e' = s.currentStart e := by
    simp only [ClipStore.currentStart, ClipStore.find, hclips, hcurrent]
  simp only [ClipStore.chooseNext, hclips, start]

theorem ClipStore.mem_of_chooseNext {show_ : ShowControl} {s : ClipStore} {bound : Option Nat} {e : Engine} {c : Clip}
    (h : s.chooseNext show_ bound e = some c) : c ∈ s.clips := by
  unfold ClipStore.chooseNext at h
  split at h
  · cases h
  · split at h
    · cases h
    · exact (List.mem_filter.1 (mem_of_firstBy h)).1

theorem ClipStore.rechoose_get (show_ : ShowControl) (s : ClipStore) (i : Nat) :
    (s.rechoose show_).engines.get i = { s.engines.get i with
      next := (s.chooseNext show_ (show_.binding.get i) (s.engines.get i)).map (·.id) } :=
  PerEngine.get_zip _ _ _ i

/-- Choosing afresh is settled: the choice made again in the store that it leaves is the same. -/
theorem ClipStore.rechoose_next (show_ : ShowControl) (s : ClipStore) (i : Nat) :
    ((s.rechoose show_).engines.get i).next =
      ((s.rechoose show_).chooseNext show_ (show_.binding.get i) ((s.rechoose show_).engines.get i)).map (·.id) := by
  have current : ((s.rechoose show_).engines.get i).current = (s.engines.get i).current := by rw [s.rechoose_get]
  have clips : (s.rechoose show_).clips = s.clips := rfl
  rw [ClipStore.chooseNext_congr clips current, s.rechoose_get]

/-! ## A cancellation in the store (R51) -/

theorem ClipStore.cancel_clips (show_ : ShowControl) (id : Nat) (s : ClipStore) :
    (s.cancel show_ id).clips = s.clips.filter (fun c => c.id != id) := rfl

/-- An engine's current part stays unless it plays the clip. -/
theorem ClipStore.cancel_current (show_ : ShowControl) (id : Nat) (s : ClipStore) (i : Nat) :
    ((s.cancel show_ id).engines.get i).current = (s.engines.get i).current.filter (fun cur => cur.clip != id) := by
  rw [ClipStore.cancel, ClipStore.rechoose_get, PerEngine.get_map]
  cases hcurrent : (s.engines.get i).current with
  | none => simp [hcurrent]
  | some cur =>
    by_cases plays : cur.clip = id
    · simp [plays, Option.filter_some]
    · simp [plays, hcurrent, Option.filter_some]

theorem ClipStore.cancel_next (show_ : ShowControl) (id : Nat) (s : ClipStore) (i : Nat) :
    ((s.cancel show_ id).engines.get i).next =
      ((s.cancel show_ id).chooseNext show_ (show_.binding.get i) ((s.cancel show_ id).engines.get i)).map (·.id) :=
  ClipStore.rechoose_next show_ _ i

/-- No engine waits for the clip: what is chosen stands in the store, and the clip does not. -/
theorem ClipStore.cancel_next_ne (show_ : ShowControl) (id : Nat) (s : ClipStore) (i : Nat) :
    ((s.cancel show_ id).engines.get i).next ≠ some id := by
  intro waits
  rw [s.cancel_next, Option.map_eq_some_iff] at waits
  obtain ⟨c, chosen, hid⟩ := waits
  have stands : c ∈ s.clips.filter (fun c => c.id != id) := ClipStore.mem_of_chooseNext chosen
  exact bne_iff_ne.1 (List.mem_filter.1 stands).2 hid

/-! ## The record taken (R51) -/

theorem exec_clipCancel (dt : Nat) (s : State) :
    exec (.clipCancel dt) s = .next (finish ((advance dt s).takeHead Record.clipCancelPart)) := rfl

theorem State.clipCancel_of_zero (s : State) : s.clipCancel 0 = s.refuseClip 10 0 .badField := rfl

theorem State.clipCancel_of_unknown {id : Nat} {s : State} (nonzero : id ≠ 0) (unknown : s.clips.find id = none) :
    s.clipCancel id = s.refuseClip 10 id .unknownClip := by
  simp [State.clipCancel, nonzero, unknown]

theorem State.clipCancel_of_known {id : Nat} {s : State} (nonzero : id ≠ 0) (known : s.clips.find id ≠ none) :
    s.clipCancel id = { s with clips := s.clips.cancel s.show_ id } := by
  simp [State.clipCancel, nonzero, known]

/-- CLIP CANCEL at the head of the queue: its part acts on the state without the record. -/
theorem exec_clipCancel_of_head {dt : Nat} {s u : State} {id : Nat} {rest : List Record} (hu : u = advance dt s)
    (hq : u.link.rxQueue = .clipCancel id :: rest) :
    exec (.clipCancel dt) s =
      .next (finish (State.clipCancel id { u with link := { u.link with rxQueue := rest } })) := by
  rw [exec_clipCancel, ← hu, State.takeHead_of_head hq rfl]

end Sys2Proof.Machine

/-! The statement of chapter 03 on CLIP CANCEL. -/

namespace Sys2Proof.Machine

/-- Settles O59: the id decides between the two refusals and the store's cancellation, which is then read engine by engine. -/
theorem clipCancelFreesTheClip : Obligations.ClipCancelFreesTheClip := by
  rintro dt s u id rest refused hu hq rfl
  rw [exec_clipCancel_of_head hu hq]
  refine ⟨?zero, fun nonzero unknown => ?unknown, fun nonzero known => ⟨u.clips.cancel u.show_ id, ?step,
    u.clips.cancel_clips u.show_ id, fun i _ cur current plays => ?silenced, fun e he cur current => ?unplayed,
    fun e he => ?unchosen, u.clips.cancel_next u.show_ id, fun i others => ?kept, rfl, rfl, rfl, rfl⟩⟩
  case zero =>
    rintro rfl
    rw [State.clipCancel_of_zero]
    rfl
  case unknown =>
    rw [State.clipCancel_of_unknown nonzero]
    · rfl
    · exact unknown
  case step =>
    rw [State.clipCancel_of_known nonzero]
    exact known
  case silenced => simp [u.clips.cancel_current, current, plays]
  case unplayed =>
    obtain ⟨i, rfl⟩ := PerEngine.exists_get_of_mem he
    rw [u.clips.cancel_current, Option.filter_eq_some_iff] at current
    exact bne_iff_ne.1 current.2
  case unchosen =>
    obtain ⟨i, rfl⟩ := PerEngine.exists_get_of_mem he
    exact u.clips.cancel_next_ne u.show_ id i
  case kept =>
    rw [u.clips.cancel_current]
    ext cur
    rw [Option.filter_eq_some_iff]
    exact and_iff_left_of_imp fun current => bne_iff_ne.2 (others cur current)

end Sys2Proof.Machine

/-! SUPPORT. The roster's rules for replies: listener counts as numbers of entries, an acknowledgement offered, a count report
made from a reply gap, and what RENEW and LEAVE decide. -/

namespace Sys2Proof.Machine

/-! ## Listener counts (R82, R90) -/

theorem PerTrack.get_ofFn (f : Nat → Nat) (n : Nat) :
    (PerTrack.ofFn f).get n = if 1 ≤ n ∧ n ≤ 8 then f n else 0 := by
  match n with
  | 0 | 1 | 2 | 3 | 4 | 5 | 6 | 7 | 8 => rfl
  | n + 9 => exact (if_neg (by omega)).symm

/-- The counts read the entries' tracks alone. -/
theorem Roster.counts_eq (r : Roster) : r.counts = .ofFn (fun n => (r.entries.map (·.track)).count n) := by
  simp only [Roster.counts, List.count, List.countP_map, ← List.countP_eq_length_filter, Function.comp_def]

theorem Roster.counts_of_same_tracks {r r' : Roster} (h : r'.entries.map (·.track) = r.entries.map (·.track)) :
    r'.counts = r.counts := by
  rw [r'.counts_eq, h, r.counts_eq]

/-- An entry more on a track in range adds 1 to that track's count. -/
theorem Roster.counts_get_of_perm_cons {r r' : Roster} {e : RosterEntry} (h : r.entries.Perm (e :: r'.entries))
    (hone : 1 ≤ e.track) (height : e.track ≤ 8) (n : Nat) :
    r.counts.get n = r'.counts.get n + if e.track = n then 1 else 0 := by
  have count : (r.entries.map (·.track)).count n =
      (r'.entries.map (·.track)).count n + if e.track = n then 1 else 0 := by
    rw [(h.map (·.track)).count_eq, List.map_cons, List.count_cons]
    simp only [beq_iff_eq]
  rw [r.counts_eq, r'.counts_eq, PerTrack.get_ofFn, PerTrack.get_ofFn, count]
  split <;> split <;> omega

/-! ## Acknowledgements (R92) -/

@[simp] theorem Roster.offer_entries (a : Ack) (r : Roster) : (r.offer a).entries = r.entries := by
  unfold Roster.offer
  split <;> rfl

@[simp] theorem Roster.offer_counts (a : Ack) (r : Roster) : (r.offer a).counts = r.counts :=
  Roster.counts_of_same_tracks (by rw [r.offer_entries])

/-! ## A count report from a reply gap (R91, R141)

The position manager reads nothing of the radio port. -/

theorem State.handOver_with_radio (b : WaitingBody) (s : State) (p : RadioPort) :
    State.handOver b { s with radio := p } = { s.handOver b with radio := p } := by
  change (if s.loader.station == .joined then _ else _) = _
  unfold State.handOver
  split <;> rfl

theorem State.claimAttempt_with_radio (s : State) (p : RadioPort) :
    State.claimAttempt { s with radio := p } = { s.claimAttempt with radio := p } := by
  rw [State.claimAttempt_eq, s.claimAttempt_eq]
  change Option.elim (if s.mayClaim then s.scan else none) _ _ = _
  cases (if s.mayClaim then s.scan else none) with
  | none => rfl
  | some position => exact State.handOver_with_radio _ (s.setPm _) p

theorem State.recomputeDemand_with_radio (s : State) (p : RadioPort) :
    State.recomputeDemand { s with radio := p } = { s.recomputeDemand with radio := p } := by
  obtain h | h := Nat.lt_or_ge s.pm.demand (demandFor s.show_.state s.pm.counts s.show_.tracks s.cfg.maxHoldings)
  · rw [State.recomputeDemand_of_rise h]
    exact (State.recomputeDemand_of_rise (s := { s with radio := p }) h).trans (State.claimAttempt_with_radio (s.setPm _) p)
  · rw [State.recomputeDemand_of_no_rise h]
    exact State.recomputeDemand_of_no_rise h

/-- A count report depends on the counts reported: on no more of the roster, and not on the radio port. -/
theorem State.countReport_of_same_counts (s : State) (p : RadioPort) {r r' : Roster} (h : r'.counts = r.counts) :
    State.countReport { s with radio := p, roster := r } =
      { s with radio := p, roster := r
               pm := (State.countReport { s with roster := r' }).pm
               line := (State.countReport { s with roster := r' }).line } := by
  have report (x : Roster) := State.recomputeDemand_content { s with pm := { s.pm with counts := x.counts } }
    s.link s.cues s.clips x
  have report' : State.countReport { s with roster := r' } = _ := report r'
  rw [report', h]
  exact (State.recomputeDemand_with_radio { s with pm := { s.pm with counts := r.counts }, roster := r } p).trans
    (congrArg (fun t : State => { t with radio := p }) (report r))

@[simp] theorem State.countReport_holdings (s : State) : s.countReport.pm.holdings = s.pm.holdings := by
  simp [State.countReport]

/-! ## A reply answered (R77, R84, R91) -/

theorem State.handleReply_zero {s : State} (gap : s.radio.activity = .gap)
    (decide_ : Roster → Roster × JoinResult) : s.handleReply 0 decide_ = s.gapUsed := by
  simp [State.handleReply, gap]

theorem State.handleReply_of_gap {s : State} {receiver : BitVec 32} (gap : s.radio.activity = .gap)
    (nonzero : receiver ≠ 0) (decide_ : Roster → Roster × JoinResult) :
    s.handleReply receiver decide_ = s.gapUsed.answer receiver (decide_ s.roster) := by
  rw [State.handleReply, if_pos (beq_iff_eq.2 gap)]
  exact if_neg (mt beq_iff_eq.1 nonzero)

/-- A decision that changes no count is not reported. -/
theorem State.answer_of_same_counts {s : State} {decision : Roster × JoinResult} (receiver : BitVec 32)
    (h : decision.1.counts = s.roster.counts) :
    s.answer receiver decision =
      { s with roster := decision.1.offer { receiver := receiver, result := decision.2 } } := by
  simp [State.answer, h]

/-- A decision that changes a count is reported; the acknowledgement and the gap used make no difference to the report. -/
theorem State.gapUsed_answer_of_changed_counts {s : State} {decision : Roster × JoinResult} {receiver : BitVec 32}
    {roster : Roster} (h : decision.1.counts ≠ s.roster.counts)
    (hroster : roster = decision.1.offer { receiver := receiver, result := decision.2 }) :
    s.gapUsed.answer receiver decision =
      { s.gapUsed with
        roster := roster
        pm := (State.countReport { s with roster := roster }).pm
        line := (State.countReport { s with roster := roster }).line } := by
  have same : roster.counts = decision.1.counts := by rw [hroster, Roster.offer_counts]
  have reported := s.countReport_of_same_counts s.gapUsed.radio same
  have answered : s.gapUsed.answer receiver decision =
      { State.countReport { s.gapUsed with roster := decision.1 } with roster := roster } := by
    simp [State.answer, h, hroster]
  rw [answered]
  exact congrArg (fun t : State => { t with roster := roster }) reported

/-! ## RENEW and LEAVE decided (R87, R88) -/

theorem Roster.has_iff (receiver : BitVec 32) (r : Roster) :
    r.has receiver = true ↔ ∃ e ∈ r.entries, e.receiver = receiver := by
  simp [Roster.has]

theorem Roster.has_eq_false_iff (receiver : BitVec 32) (r : Roster) :
    r.has receiver = false ↔ ∀ e ∈ r.entries, e.receiver ≠ receiver := by
  simp [Roster.has]

theorem Roster.renew_of_entry {r : Roster} {receiver : BitVec 32} (h : ∃ e ∈ r.entries, e.receiver = receiver) :
    r.renew receiver = ({ r with entries := r.entries.map (fun e =>
      if e.receiver == receiver then { e with lastRenewed := r.secondCount } else e) }, .renewed) := by
  rw [Roster.renew, (r.has_iff receiver).2 h]
  rfl

theorem Roster.renew_of_no_entry {r : Roster} {receiver : BitVec 32} (h : ∀ e ∈ r.entries, e.receiver ≠ receiver) :
    r.renew receiver = (r, .unknownReceiver) := by
  rw [Roster.renew, (r.has_eq_false_iff receiver).2 h]
  rfl

/-- A renewed entry keeps its track. -/
theorem Roster.renew_counts (receiver : BitVec 32) (r : Roster) : (r.renew receiver).1.counts = r.counts := by
  unfold Roster.renew
  split
  · refine Roster.counts_of_same_tracks ?_
    rw [Roster.renewed, List.map_map]
    refine List.map_congr_left fun e _ => ?_
    rw [Function.comp_apply]
    split <;> rfl
  · rfl

theorem Roster.leave_of_entry {r : Roster} {receiver : BitVec 32} (h : ∃ e ∈ r.entries, e.receiver = receiver) :
    r.leave receiver = ({ r with entries := r.entries.filter (fun e => e.receiver != receiver) }, .left) := by
  rw [Roster.leave, (r.has_iff receiver).2 h]
  rfl

theorem Roster.leave_of_no_entry {r : Roster} {receiver : BitVec 32} (h : ∀ e ∈ r.entries, e.receiver ≠ receiver) :
    r.leave receiver = (r, .unknownReceiver) := by
  rw [Roster.leave, (r.has_eq_false_iff receiver).2 h]
  rfl

/-- With one entry to a receiver, the entries are the receiver's own and those of the others. -/
theorem perm_cons_filter_receiver {entries : List RosterEntry} {e : RosterEntry} (he : e ∈ entries)
    (distinct : (entries.map (·.receiver)).Nodup) :
    entries.Perm (e :: entries.filter (fun o => o.receiver != e.receiver)) := by
  have others : entries.filter (fun o => o.receiver != e.receiver) = entries.erase e := by
    rw [(distinct.of_map _).erase_eq_filter]
    refine List.filter_congr fun o ho => ?_
    have same : o.receiver = e.receiver ↔ o = e :=
      ⟨fun h => List.inj_on_of_nodup_map distinct ho he h, congrArg _⟩
    rw [Bool.eq_iff_iff, bne_iff_ne, bne_iff_ne, ne_eq, same]
  rw [others]
  exact List.perm_cons_erase he

/-- A receiver that leaves takes 1 from its track's count. -/
theorem Roster.leave_counts_get {r : Roster} {e : RosterEntry} (he : e ∈ r.entries)
    (distinct : (r.entries.map (·.receiver)).Nodup) (hone : 1 ≤ e.track) (height : e.track ≤ 8) (n : Nat) :
    r.counts.get n = (r.leave e.receiver).1.counts.get n + if e.track = n then 1 else 0 := by
  rw [Roster.leave_of_entry ⟨e, he, rfl⟩]
  exact Roster.counts_get_of_perm_cons (perm_cons_filter_receiver he distinct) hone height n

/-! ## The commands -/

theorem exec_renew (dt : Nat) (receiver : BitVec 32) (s : State) :
    exec (.renew dt receiver) s = .next (finish ((advance dt s).handleReply receiver (Roster.renew receiver))) := rfl

theorem exec_leave (dt : Nat) (receiver : BitVec 32) (s : State) :
    exec (.leave dt receiver) s = .next (finish ((advance dt s).handleReply receiver (Roster.leave receiver))) := rfl

end Sys2Proof.Machine

/-! The statements of chapter 05 on RENEW and LEAVE. -/

namespace Sys2Proof.Machine

/-- Settles O33: a renewal changes no track, so nothing is reported and the acknowledgement is all that follows. -/
theorem renewKeepsTheReceiversPlace : Obligations.RenewKeepsTheReceiversPlace := by
  rintro dt s u id answer hu gap rfl
  rw [exec_renew, ← hu]
  refine ⟨?zero, fun nonzero => ?_⟩
  case zero =>
    rintro rfl
    rw [State.handleReply_zero gap]
    rfl
  rw [State.handleReply_of_gap gap nonzero,
    State.answer_of_same_counts (s := u.gapUsed) id (Roster.renew_counts id u.roster)]
  refine ⟨fun known => ⟨_, rfl, ?renewed, ?counts⟩, fun unknown => ?unknown⟩
  case renewed =>
    rw [Roster.renew_of_entry known]
    rfl
  case counts => rw [Roster.offer_counts, Roster.renew_counts]
  case unknown =>
    rw [Roster.renew_of_no_entry unknown]
    rfl

/-- Settles O34: the removed entry's track loses 1, so the counts change and are reported. -/
theorem leaveGivesUpTheReceiversPlace : Obligations.LeaveGivesUpTheReceiversPlace := by
  rintro dt s u id answer hu gap rfl
  rw [exec_leave, ← hu]
  refine ⟨?zero, fun nonzero => ?_⟩
  case zero =>
    rintro rfl
    rw [State.handleReply_zero gap]
    rfl
  rw [State.handleReply_of_gap gap nonzero]
  refine ⟨?known, fun unknown => ?unknown⟩
  case unknown =>
    rw [Roster.leave_of_no_entry unknown, State.answer_of_same_counts (s := u.gapUsed) id rfl]
    rfl
  rintro e he rfl distinct hone height
  have fewer := Roster.leave_counts_get he distinct hone height
  have own : u.roster.counts.get e.track = (u.roster.leave e.receiver).1.counts.get e.track + 1 := by
    rw [fewer, if_pos rfl]
  have changed : (u.roster.leave e.receiver).1.counts ≠ u.roster.counts := by
    intro same
    rw [same] at own
    omega
  refine ⟨_, _, _, congrArg _ (congrArg _ (State.gapUsed_answer_of_changed_counts changed rfl)), ?roster, ?own,
    fun n others => ?others, ?report, State.countReport_holdings _⟩
  case roster =>
    rw [Roster.leave_of_entry ⟨e, he, rfl⟩]
    rfl
  case own => rw [Roster.offer_counts, own]
  case others => rw [Roster.offer_counts, fewer n, if_neg others.symm, Nat.add_zero]
  case report =>
    rintro v rfl
    exact ⟨rfl, rfl⟩

end Sys2Proof.Machine

/-! SUPPORT. The peer table's rules for a message: what finding a record answers after a record is entered or rewritten, what a
message leaves of its sender's record and of the others, and when it has the timing unit review its choice. -/

namespace Sys2Proof.Machine

/-! ## Records found (R125) -/

theorem number_of_findPeer {peers : List PeerRecord} {n : Nat} {r : PeerRecord} (h : findPeer peers n = some r) :
    r.number = n := by
  simpa using List.find?_some h

/-- A rewriting that keeps the number is found as the record rewritten. -/
theorem findPeer_updatePeer {f : PeerRecord → PeerRecord} (number : ∀ r, (f r).number = r.number) (peers : List PeerRecord)
    (n k : Nat) :
    findPeer (updatePeer peers n f) k = (findPeer peers k).map (fun r => if r.number == n then f r else r) := by
  have sameNumber : (fun r : PeerRecord => r.number == k) ∘ (fun r => if r.number == n then f r else r)
      = fun r => r.number == k := by
    funext r
    rw [Function.comp_apply]
    split
    · rw [number]
    · rfl
  rw [findPeer, updatePeer, List.find?_map, sameNumber, findPeer]

theorem findPeer_updatePeer_self {f : PeerRecord → PeerRecord} (number : ∀ r, (f r).number = r.number)
    (peers : List PeerRecord) (n : Nat) : findPeer (updatePeer peers n f) n = (findPeer peers n).map f := by
  rw [findPeer_updatePeer number]
  refine Option.map_congr fun r found => ?_
  rw [if_pos (beq_iff_eq.2 (number_of_findPeer found))]

theorem findPeer_updatePeer_of_ne {f : PeerRecord → PeerRecord} (number : ∀ r, (f r).number = r.number)
    (peers : List PeerRecord) {n k : Nat} (h : k ≠ n) : findPeer (updatePeer peers n f) k = findPeer peers k := by
  rw [findPeer_updatePeer number]
  cases found : findPeer peers k with
  | none => rfl
  | some r => rw [Option.map_some, number_of_findPeer found, if_neg (mt beq_iff_eq.1 h)]

/-- Wherever a record is put, another number is found as before. -/
theorem findPeer_insertBy_of_ne (before : PeerRecord → PeerRecord → Bool) {new : PeerRecord} {k : Nat}
    (h : k ≠ new.number) (peers : List PeerRecord) : findPeer (insertBy before new peers) k = findPeer peers k := by
  have other : (new.number == k) = false := beq_false_of_ne h.symm
  induction peers with
  | nil => simp [findPeer, insertBy, other]
  | cons r rs ih =>
    rw [insertBy]
    split
    · simp only [findPeer, List.find?_cons] at ih ⊢
      rw [ih]
    · simp [findPeer, other]

/-- Wherever a record is put among records of other numbers, it is the one found. -/
theorem findPeer_insertBy_self (before : PeerRecord → PeerRecord → Bool) {new : PeerRecord} {peers : List PeerRecord}
    (h : findPeer peers new.number = none) : findPeer (insertBy before new peers) new.number = some new := by
  rw [findPeer, List.find?_eq_none] at h
  induction peers with
  | nil => simp [findPeer, insertBy]
  | cons r rs ih =>
    obtain ⟨other, rest⟩ := List.forall_mem_cons.1 h
    rw [insertBy]
    split
    · simpa [findPeer, other] using ih rest
    · simp [findPeer]

theorem any_number_eq_isSome_findPeer (peers : List PeerRecord) (n : Nat) :
    peers.any (fun r => r.number == n) = (findPeer peers n).isSome := by
  rw [findPeer, List.isSome_find?]

/-- The sender's record is there: the one before, or a fresh one (R127). -/
theorem findPeer_ensurePeer_self (peers : List PeerRecord) (n : Nat) :
    findPeer (ensurePeer peers n) n = some ((findPeer peers n).getD (.fresh n)) := by
  rw [ensurePeer, any_number_eq_isSome_findPeer]
  cases found : findPeer peers n with
  | none => exact findPeer_insertBy_self _ found
  | some r => exact found

theorem findPeer_ensurePeer_of_ne (peers : List PeerRecord) {n k : Nat} (h : k ≠ n) :
    findPeer (ensurePeer peers n) k = findPeer peers k := by
  unfold ensurePeer
  split
  · rfl
  · exact findPeer_insertBy_of_ne _ h _

/-! ## A message taken (R127)

A CLAIM and a RELEASE rewrite their sender's record alone, by a function that keeps its number and its standing. -/

/-- A record's number and what its eligibility turns on stay (R136). -/
structure KeepsStanding (f : PeerRecord → PeerRecord) : Prop where
  number : ∀ r, (f r).number = r.number
  standing : ∀ r, (f r).standing = r.standing

theorem PeerRecord.takeClaim_keepsStanding (c : Stamped) : KeepsStanding (PeerRecord.takeClaim c) :=
  ⟨fun _ => rfl, fun _ => rfl⟩

theorem PeerRecord.takeRelease_keepsStanding (p : Position) : KeepsStanding (PeerRecord.takeRelease p) :=
  ⟨fun _ => rfl, fun _ => rfl⟩

/-- What every message writes into its sender's record. -/
def PeerRecord.hear (m : Sender) (d : Measurement) (ownFrame : FrameNo) (r : PeerRecord) : PeerRecord :=
  { r with timing := m.timing, offset := d.offset, frameDiff := d.frameDiff, lastHeard := ownFrame }

theorem PeerRecord.hear_number (m : Sender) (d : Measurement) (ownFrame : FrameNo) (r : PeerRecord) :
    (r.hear m d ownFrame).number = r.number := rfl

theorem takeCommon_eq (m : Sender) (d : Measurement) (ownFrame : FrameNo) (peers : List PeerRecord) :
    takeCommon m d ownFrame peers = updatePeer (ensurePeer peers m.number) m.number (PeerRecord.hear m d ownFrame) := rfl

/-- The sender's record once a message is taken: the common part, then the part of its kind. -/
def State.recordHeard (m : Sender) (f : PeerRecord → PeerRecord) (s : State) : PeerRecord :=
  f (((findPeer s.peers m.number).getD (.fresh m.number)).hear m (measure m s.line.heardFrame s.line.heardPhase)
    s.line.heardFrame)

/-- The message has ended on the line, and the peer table has taken it. -/
def State.takeMessage (m : Sender) (f : PeerRecord → PeerRecord) (s : State) : State :=
  { s with
    line := s.line.endMessage
    peers := updatePeer
      (takeCommon m (measure m s.line.heardFrame s.line.heardPhase) s.line.heardFrame s.peers) m.number f }

/-- The timing unit and then the position manager act on the message that the peer table has taken (R124). -/
theorem State.route_of_other {m : Sender} {s : State} (hearing : s.line.hearing = true) (other : m.number ≠ s.cfg.number)
    (f : PeerRecord → PeerRecord) (react : State → State) :
    s.route m false (fun peers => updatePeer peers m.number f) react =
      react ((s.takeMessage m f).timingHears m false (measure m s.line.heardFrame s.line.heardPhase).offset
        (findPeer s.peers m.number)) := by
  rw [State.route, if_pos hearing]
  exact if_neg (mt beq_iff_eq.1 other)

theorem State.findPeer_takeMessage_self {f : PeerRecord → PeerRecord} (keeps : KeepsStanding f) (m : Sender)
    (s : State) : findPeer (s.takeMessage m f).peers m.number = some (s.recordHeard m f) := by
  rw [State.takeMessage, findPeer_updatePeer_self keeps.number, takeCommon_eq,
    findPeer_updatePeer_self (PeerRecord.hear_number m _ _), findPeer_ensurePeer_self]
  rfl

theorem State.findPeer_takeMessage_of_ne {f : PeerRecord → PeerRecord} (keeps : KeepsStanding f) {m : Sender}
    {n : Nat} (other : n ≠ m.number) (s : State) :
    findPeer (s.takeMessage m f).peers n = findPeer s.peers n := by
  rw [State.takeMessage, findPeer_updatePeer_of_ne keeps.number _ other, takeCommon_eq,
    findPeer_updatePeer_of_ne (PeerRecord.hear_number m _ _) _ other, findPeer_ensurePeer_of_ne _ other]

/-! ## The timing unit on a message (R136) -/

@[simp] theorem State.setTiming_timing (t : Timing) (s : State) : (s.setTiming t).timing = t := by
  unfold State.setTiming
  dsimp only
  split
  · rw [State.claimAttempt_timing]
  · rfl

@[simp] theorem State.setTiming_holdings (t : Timing) (s : State) : (s.setTiming t).pm.holdings = s.pm.holdings := by
  unfold State.setTiming
  dsimp only
  split
  · rw [State.claimAttempt_holdings]
  · rfl

/-- A timing state that stays makes no claim attempt. -/
theorem State.setTiming_self (s : State) : s.setTiming s.timing = s := by
  simp [State.setTiming]

@[simp] theorem State.timingHears_holdings (m : Sender) (a : Bool) (o : Int) (b : Option PeerRecord) (s : State) :
    (s.timingHears m a o b).pm.holdings = s.pm.holdings := by simp [State.timingHears]

/-- A message that keeps the stale mark reports on eligibility where its sender's record is new or shows another timing
state. -/
theorem reportsEligibility_hear {f : PeerRecord → PeerRecord} (keeps : KeepsStanding f) (m : Sender)
    (s : State) : reportsEligibility (findPeer s.peers m.number) (some (s.recordHeard m f)) = true ↔
      (findPeer s.peers m.number).map (·.timing) ≠ some m.timing := by
  rw [reportsEligibility, State.recordHeard, Option.map_some, keeps.standing, bne_iff_ne]
  cases findPeer s.peers m.number with
  | none => simp
  | some r => simp [PeerRecord.standing, PeerRecord.hear]

/-- A message other than an ANNOUNCE has the timing unit review its choice, or leaves it. -/
theorem State.timingHears_takeMessage {f : PeerRecord → PeerRecord} (keeps : KeepsStanding f) (m : Sender) (o : Int)
    (s : State) :
    (s.takeMessage m f).timingHears m false o (findPeer s.peers m.number) =
      if (findPeer s.peers m.number).map (·.timing) = some m.timing then s.takeMessage m f
      else (s.takeMessage m f).reviewTiming := by
  rw [State.timingHears, State.findPeer_takeMessage_self keeps]
  by_cases same : (findPeer s.peers m.number).map (·.timing) = some m.timing
  · simp [reportsEligibility_hear keeps, same, State.setTiming_self]
  · simp [reportsEligibility_hear keeps, same, State.reviewTiming]

/-- The review reads the table that holds the message, and the holdings from before it. -/
theorem State.timingHears_takeMessage_timing {f : PeerRecord → PeerRecord} (keeps : KeepsStanding f) (m : Sender) (o : Int)
    (s : State) :
    ((s.takeMessage m f).timingHears m false o (findPeer s.peers m.number)).timing =
      if (findPeer s.peers m.number).map (·.timing) = some m.timing then s.timing
      else s.timing.review s.cfg.number (s.takeMessage m f).peers (!s.pm.holdings.isEmpty) := by
  rw [State.timingHears_takeMessage keeps, apply_ite State.timing, State.reviewTiming, State.setTiming_timing]
  rfl

/-! ## The position manager on a CLAIM (R146, R147) -/

@[simp] theorem State.abandonClaim_holdings (s : State) : s.abandonClaim.pm.holdings = s.pm.holdings := by
  unfold State.abandonClaim
  split <;> rfl

@[simp] theorem State.owedTick_holdings (s : State) : s.owedTick.pm.holdings = s.pm.holdings := by
  unfold State.owedTick
  split
  · exact State.claimAttempt_holdings _
  · rfl

@[simp] theorem State.reactClaim_holdings (n : Nat) (p : Position) (s : State) :
    (s.reactClaim n p).pm.holdings = s.pm.holdings := by
  unfold State.reactClaim
  dsimp only
  split
  · split
    · rw [State.owedTick_holdings, State.abandonClaim_holdings, State.objectTo_pm]
    · rw [State.objectTo_pm]
  · rfl

/-! ## The commands -/

theorem exec_claim (dt : Nat) (m : Sender) (p : Position) (stamp : FrameNo) (s : State) :
    exec (.claim dt m p stamp) s = .next (finish ((advance dt s).route m false
      (fun peers => updatePeer peers m.number (PeerRecord.takeClaim { position := p, stamp := stamp }))
      (State.reactClaim m.number p))) := rfl

theorem exec_release (dt : Nat) (m : Sender) (p : Position) (reason : ReleaseReason) (s : State) :
    exec (.release dt m p reason) s = .next (finish ((advance dt s).route m false
      (fun peers => updatePeer peers m.number (PeerRecord.takeRelease p)) (fun s => s))) := rfl

/-- A CLAIM of another station (R130, R146, R147). -/
theorem exec_claim_of_other {dt : Nat} {s u : State} {m : Sender} (hu : u = advance dt s) (hearing : u.line.hearing = true)
    (other : m.number ≠ u.cfg.number) (p : Position) (stamp : FrameNo) :
    exec (.claim dt m p stamp) s = .next (finish (State.reactClaim m.number p
      ((u.takeMessage m (PeerRecord.takeClaim { position := p, stamp := stamp })).timingHears m false
        (measure m u.line.heardFrame u.line.heardPhase).offset (findPeer u.peers m.number)))) := by
  rw [exec_claim, ← hu, State.route_of_other hearing other]

/-- A RELEASE of another station: the position manager has no part in it (R132). -/
theorem exec_release_of_other {dt : Nat} {s u : State} {m : Sender} (hu : u = advance dt s)
    (hearing : u.line.hearing = true) (other : m.number ≠ u.cfg.number) (p : Position) (reason : ReleaseReason) :
    exec (.release dt m p reason) s = .next (finish
      ((u.takeMessage m (PeerRecord.takeRelease p)).timingHears m false
        (measure m u.line.heardFrame u.line.heardPhase).offset (findPeer u.peers m.number))) := by
  rw [exec_release, ← hu, State.route_of_other hearing other]

end Sys2Proof.Machine

/-! The statements of chapter 08 on CLAIM and RELEASE. -/

namespace Sys2Proof.Machine

/-- Settles O37: the record is the common part with the claim written over it, and no reaction of the timing unit or of the
position manager touches the peer table or a holding. -/
theorem claimSetsTheSendersPendingClaim : Obligations.ClaimSetsTheSendersPendingClaim := by
  intro dt s u m p stamp hu hearing other
  have keeps := PeerRecord.takeClaim_keepsStanding { position := p, stamp := stamp }
  refine ⟨_, u.recordHeard m (PeerRecord.takeClaim { position := p, stamp := stamp }),
    exec_claim_of_other hu hearing other p stamp, ?found, rfl, fun r₀ known => ?known,
    rfl, rfl, rfl, rfl, ?timing, fun unknown => ?unknown, fun n others => ?others, ?blocks⟩
  case found =>
    rw [finish_peers, State.reactClaim_peers, State.timingHears_peers]
    exact State.findPeer_takeMessage_self keeps m u
  case known =>
    rw [State.recordHeard, known]
    exact ⟨rfl, rfl, rfl⟩
  case timing =>
    rw [finish_timing, finish_peers, State.reactClaim_timing, State.reactClaim_peers, State.timingHears_peers]
    exact State.timingHears_takeMessage_timing keeps m _ u
  case unknown =>
    rw [State.recordHeard, unknown]
    exact ⟨rfl, rfl, rfl⟩
  case others =>
    rw [finish_peers, State.reactClaim_peers, State.timingHears_peers]
    exact State.findPeer_takeMessage_of_ne keeps others u
  case blocks => simp [State.takeMessage]

/-- Settles O39: the record is the common part with the position taken from its holdings; where its standing stays, the timing
unit has nothing to review, and the record and the line are all that changes. -/
theorem releaseRemovesTheHolding : Obligations.ReleaseRemovesTheHolding := by
  intro dt s u m p reason hu hearing other
  have keeps := PeerRecord.takeRelease_keepsStanding p
  refine ⟨_, u.recordHeard m (PeerRecord.takeRelease p), exec_release_of_other hu hearing other p reason, ?found,
    fun r₀ known => ?known, rfl, rfl, rfl, rfl, ?timing, fun same => ?same, fun unknown => ?unknown,
    fun n others => ?others, ?blocks⟩
  case found =>
    rw [finish_peers, State.timingHears_peers]
    exact State.findPeer_takeMessage_self keeps m u
  case known =>
    rw [State.recordHeard, known]
    refine ⟨rfl, fun absent => ?_, rfl, rfl, rfl⟩
    exact List.filter_eq_self.2 fun h held => bne_iff_ne.2 (absent h held)
  case timing =>
    rw [finish_timing, finish_peers, State.timingHears_peers]
    exact State.timingHears_takeMessage_timing keeps m _ u
  case same =>
    rw [finish_peers, State.timingHears_takeMessage keeps, if_pos same]
    rfl
  case unknown =>
    rw [State.recordHeard, unknown]
    exact ⟨rfl, rfl, rfl, rfl⟩
  case others =>
    rw [finish_peers, State.timingHears_peers]
    exact State.findPeer_takeMessage_of_ne keeps others u
  case blocks => simp [State.takeMessage]

end Sys2Proof.Machine

/-! SUPPORT. One step taken apart: the time a command says has passed, its effect, and the end of the step; what a message and a
record at the head of the queue lead to. With these a property of the state is shown to outlast every step once. -/

namespace Sys2Proof

open Sys2Proof.Machine

/-- The time that has passed since the command before it. -/
def Instr.micros : Instr → Nat
  | .powerOn dt | .restartLine dt _ | .configReadComplete dt _ | .frameBoundary dt _ | .claimWindowEnd dt
  | .holdDownRelease dt | .starved dt | .rosterExpiry dt | .peerRecordExpiry dt _ | .peerClaimPassed dt _
  | .objectWindowPassed dt | .listenEnd dt | .adoption dt _ | .burstStart dt | .burstSent dt | .slotEnd dt
  | .lockAsserted dt | .lockDropped dt | .garbledReply dt _ _ | .join dt _ _ _ _ _ | .renew dt _ | .leave dt _
  | .houseLineReceiveStart dt | .announce dt _ _ | .claim dt _ _ _ | .object dt _ _ _ _ | .release dt _ _ _
  | .badMessage dt _ _ | .messageStart dt | .messageComplete dt | .lineConflict dt | .idleWaitEnd dt
  | .recordComplete dt _ | .recordGap dt _ | .recordBroken dt _ _ | .outboundRecordSent dt | .showLoad dt | .showEnd dt
  | .showClear dt | .mark dt | .tableLoad dt | .cue dt | .cueCancel dt | .clipHead dt | .clipData dt | .clipCancel dt
  | .eventAck dt | .endedTimerExpiry dt | .marksLost dt | .frozen dt | .powerLoss dt | .restartLineReleased dt
  | .recordStartMark dt | .idleWaitByte dt | .startMarkHeard dt => dt

/-- What a command does once its time has passed. -/
def Instr.effect : Instr → State → State
  | .powerOn _ => State.powerOn
  | .restartLine _ width => State.restartLine width
  | .configReadComplete _ image => State.configReadComplete image
  | .frameBoundary _ releaseFirst => State.frameBoundary releaseFirst
  | .claimWindowEnd _ => State.claimWindowEnd
  | .holdDownRelease _ => State.holdDownRelease
  | .starved _ => State.becomeStarved
  | .rosterExpiry _ => State.rosterExpiry
  | .peerRecordExpiry _ n => State.peerRecordExpiry n
  | .peerClaimPassed _ n => State.peerClaimPassed n
  | .objectWindowPassed _ => State.objectWindowPassed
  | .listenEnd _ => State.listenEnd
  | .adoption _ releaseFirst => State.applyAdoption releaseFirst
  | .burstStart _ => State.burstStart
  | .burstSent _ => State.burstSent
  | .slotEnd _ => State.slotEnd
  | .lockAsserted _ => State.lockAsserted
  | .lockDropped _ => State.lockDropped
  | .garbledReply _ reply inGap => State.garbledReply reply inGap
  | .join _ receiver auditorium session ticketClass track => fun s =>
    s.handleReply receiver (Roster.join s.cfg.number s.show_ receiver { auditorium, session, ticketClass, track })
  | .renew _ receiver => State.handleReply receiver (Roster.renew receiver)
  | .leave _ receiver => State.handleReply receiver (Roster.leave receiver)
  | .houseLineReceiveStart _ => State.receiveStart
  | .announce _ m fields => fun s => s.route m true
      (fun peers => updatePeer peers m.number (PeerRecord.takeAnnounce s.timing.frameNumber fields))
      (State.reactAnnounce m.number fields)
  | .claim _ m position stamp => State.route m false
      (fun peers => updatePeer peers m.number (PeerRecord.takeClaim { position, stamp })) (State.reactClaim m.number position)
  | .object _ m position stamp claimant => fun s => s.route m false
      (fun peers => updatePeer
        (updatePeer peers m.number (PeerRecord.takeObject s.timing.frameNumber { position, stamp }))
        claimant (PeerRecord.loseClaim position))
      (State.reactObject m.number position claimant)
  | .release _ m position _ => State.route m false
      (fun peers => updatePeer peers m.number (PeerRecord.takeRelease position)) (fun s => s)
  | .badMessage _ message brokeOff => State.badMessage message brokeOff
  | .messageStart _ => State.messageStart
  | .messageComplete _ => State.messageComplete
  | .lineConflict _ => State.lineConflict
  | .idleWaitEnd _ => State.idleWaitEnd
  | .recordComplete _ record => State.recordComplete record
  | .recordGap _ gathered => State.recordGap gathered
  | .recordBroken _ gathered framingError => State.recordBroken gathered framingError
  | .outboundRecordSent _ => State.outboundSent
  | .showLoad _ => State.takeHead Record.showLoadPart
  | .showEnd _ => State.takeHead Record.showEndPart
  | .showClear _ => State.takeHead Record.showClearPart
  | .mark _ => State.takeHead Record.markPart
  | .tableLoad _ => State.takeHead Record.tableLoadPart
  | .cue _ => State.takeHead Record.cuePart
  | .cueCancel _ => State.takeHead Record.cueCancelPart
  | .clipHead _ => State.takeHead Record.clipHeadPart
  | .clipData _ => State.takeHead Record.clipDataPart
  | .clipCancel _ => State.takeHead Record.clipCancelPart
  | .eventAck _ => State.takeHead Record.eventAckPart
  | .endedTimerExpiry _ => State.endedTimerExpiry
  | .marksLost _ => State.marksLost
  | .frozen _ => State.freeze
  | .powerLoss _ => State.powerLoss
  | .restartLineReleased _ => State.restartLineReleased
  | .recordStartMark _ => State.recordStartMark
  | .idleWaitByte _ => State.idleWaitByte
  | .startMarkHeard _ => State.startMarkHeard

end Sys2Proof

namespace Sys2Proof.Machine

/-- Every command lets its time pass, has its effect, and ends the step. -/
theorem exec_eq (c : Instr) (s : State) : exec c s = .next (finish (c.effect (advance c.micros s))) := by
  cases c <;> rfl

theorem exec_next_iff {c : Instr} {s t : State} : exec c s = .next t ↔ finish (c.effect (advance c.micros s)) = t := by
  rw [exec_eq]
  exact ⟨fun h => Host.Outcome.next.inj h, congrArg _⟩

/-! ## A record at the head of the queue (R163) -/


/-- What a record does once its owner has taken it from the queue. -/
def Record.taken : Record → State → State
  | .showLoad session time tracks => State.showLoad session time tracks
  | .showEnd => State.showEnd
  | .showClear => State.clearShow
  | .mark time running => State.mark time running
  | .tableLoad table first values => State.tableLoad table first values
  | .cue track start stop region italic speakerChange text => State.cue track start stop region italic speakerChange text
  | .cueCancel track start => State.cueCancel track start
  | .clipHead id track start length => State.clipHead id track start length
  | .clipData id first blocks => State.clipData id first blocks
  | .clipCancel id => State.clipCancel id
  | .eventAck events => State.ackEvents events

/-- Each owner's part applies to its own kind of record, and is what that record does. -/
theorem Record.part_eq_taken {part : Record → Option (State → State)}
    (h : part ∈ [showLoadPart, showEndPart, showClearPart, markPart, tableLoadPart, cuePart, cueCancelPart, clipHeadPart,
      clipDataPart, clipCancelPart, eventAckPart]) {r : Record} {f : State → State} (hf : part r = some f) :
    f = r.taken := by
  simp only [List.mem_cons, List.not_mem_nil, or_false] at h
  obtain rfl | rfl | rfl | rfl | rfl | rfl | rfl | rfl | rfl | rfl | rfl := h
  all_goals
    cases r
    all_goals cases hf
    all_goals rfl

/-- What holds of the state, and of every record taken from the queue, holds after the head was offered to an owner. -/
theorem State.takeHead_induct {P : State → Prop} {part : Record → Option (State → State)} {s : State} (hs : P s)
    (h : part ∈ [Record.showLoadPart, Record.showEndPart, Record.showClearPart, Record.markPart, Record.tableLoadPart,
      Record.cuePart, Record.cueCancelPart, Record.clipHeadPart, Record.clipDataPart, Record.clipCancelPart,
      Record.eventAckPart])
    (taken : ∀ r : Record, P (r.taken s.dropHead)) : P (s.takeHead part) := by
  unfold State.takeHead
  split
  · rename_i f hf
    obtain ⟨r, -, hr⟩ := Option.bind_eq_some_iff.1 hf
    rw [Record.part_eq_taken h hr]
    exact taken r
  · exact hs

/-- The commands whose effect is that of a record at the head of the queue. -/
def takesRecord : Instr → Bool
  | .showLoad _ | .showEnd _ | .showClear _ | .mark _ | .tableLoad _ | .cue _ | .cueCancel _ | .clipHead _ | .clipData _
  | .clipCancel _ | .eventAck _ => true
  | _ => false

/-- A command that takes a record leaves what the record taken leaves, or nothing happens. -/
theorem effect_induct_of_takesRecord {P : State → Prop} {c : Instr} {s : State} (hc : takesRecord c = true) (hs : P s)
    (taken : ∀ r, P (Record.taken r s.dropHead)) : P (c.effect s) := by
  cases c
  case showLoad | showEnd | showClear | mark | tableLoad | cue | cueCancel | clipHead | clipData | clipCancel | eventAck =>
    exact State.takeHead_induct hs (by simp) taken
  all_goals cases hc

/-! ## A message of another station (R123, R124) -/

/-- The peer table has taken a message, and the timing unit has heard it. -/
def State.heard (m : Sender) (isAnnounce : Bool) (update : List PeerRecord → List PeerRecord) (s : State) : State :=
  State.timingHears m isAnnounce (measure m s.line.heardFrame s.line.heardPhase).offset (findPeer s.peers m.number)
    { s with
      line := s.line.endMessage
      peers := update (takeCommon m (measure m s.line.heardFrame s.line.heardPhase) s.line.heardFrame s.peers) }

/-- A message heard is the station's own number, or it is taken by the peer table, the timing unit and the position
manager. -/
theorem State.route_induct {P : State → Prop} {m : Sender} {isAnnounce : Bool}
    {update : List PeerRecord → List PeerRecord} {react : State → State} {s : State} (hs : P s)
    (own : s.line.hearing = true → m.number = s.cfg.number → P (State.ownNumberHeard { s with line := s.line.endMessage }))
    (other : s.line.hearing = true → m.number ≠ s.cfg.number → P (react (s.heard m isAnnounce update))) :
    P (s.route m isAnnounce update react) := by
  unfold State.route
  dsimp only
  split
  · rename_i hearing
    split
    · rename_i same
      exact own hearing (beq_iff_eq.1 same)
    · rename_i differs
      exact other hearing (mt beq_iff_eq.2 differs)
  · exact hs

/-- The sender of the message whose end a command is. -/
def messageSender : Instr → Option Sender
  | .announce _ m _ | .claim _ m _ _ | .object _ m _ _ _ | .release _ m _ _ => some m
  | _ => none

def isAnnounceCommand : Instr → Bool
  | .announce _ _ _ => true
  | _ => false

/-- What a message makes of the peer table beyond the common part, in own frame f (R129 to R132). -/
def messageUpdate (f : FrameNo) : Instr → List PeerRecord → List PeerRecord
  | .announce _ m fields => fun peers => updatePeer peers m.number (PeerRecord.takeAnnounce f fields)
  | .claim _ m position stamp => fun peers => updatePeer peers m.number (PeerRecord.takeClaim { position, stamp })
  | .object _ m position stamp claimant => fun peers =>
    updatePeer (updatePeer peers m.number (PeerRecord.takeObject f { position, stamp })) claimant
      (PeerRecord.loseClaim position)
  | .release _ m position _ => fun peers => updatePeer peers m.number (PeerRecord.takeRelease position)
  | _ => id

/-- What the position manager does on a message (R146 to R150). -/
def messageReaction : Instr → State → State
  | .announce _ m fields => State.reactAnnounce m.number fields
  | .claim _ m position _ => State.reactClaim m.number position
  | .object _ m position _ claimant => State.reactObject m.number position claimant
  | _ => id

theorem effect_of_message {c : Instr} {m : Sender} (hc : messageSender c = some m) (s : State) :
    c.effect s = s.route m (isAnnounceCommand c) (messageUpdate s.timing.frameNumber c) (messageReaction c) := by
  cases c
  all_goals cases hc
  all_goals rfl

/-- What holds before an effect holds after it, if it holds after a record taken, after the own number heard, after another
station's message, and after an effect of any other kind. -/
theorem effect_induct {P : State → Prop} (c : Instr) {s : State} (hs : P s)
    (taken : ∀ r : Record, P (r.taken s.dropHead))
    (own : s.line.hearing = true → P (State.ownNumberHeard { s with line := s.line.endMessage }))
    (other : ∀ m, messageSender c = some m → s.line.hearing = true → m.number ≠ s.cfg.number →
      P (messageReaction c (s.heard m (isAnnounceCommand c) (messageUpdate s.timing.frameNumber c))))
    (rest : takesRecord c = false → messageSender c = none → P (c.effect s)) : P (c.effect s) := by
  cases hc : takesRecord c with
  | true => exact effect_induct_of_takesRecord hc hs taken
  | false =>
    cases hm : messageSender c with
    | none => exact rest hc hm
    | some m =>
      rw [effect_of_message hm]
      exact State.route_induct hs (fun hearing _ => own hearing) (other m hm)

/-! ## A property that every step keeps -/

/-- What a change of the queue of commands, the passing of time, every effect of an admitted command and the end of a step
keep, a step keeps. -/
theorem step_keeps_of {P : State → Prop} {admitted : Instr → Prop} (pending : ∀ q s, P s → P (State.withPending q s))
    (time : ∀ dt s, P s → P (advance dt s)) (effect : ∀ c s, admitted c → P s → P (Instr.effect c s))
    (ending : ∀ s, P s → P (finish s)) {s t : State} (hs : P s) (hc : ∀ c ∈ s.pending.head?, admitted c)
    (h : step s = .next t) : P t := by
  unfold step at h
  split at h
  · cases h
    exact hs
  · rename_i c rest hq
    rw [exec_next_iff] at h
    rw [← h]
    exact ending _ (effect c _ (hc c (by simp [hq])) (time _ _ (pending _ _ hs)))

theorem step_keeps {P : State → Prop} (pending : ∀ q s, P s → P (State.withPending q s))
    (time : ∀ dt s, P s → P (advance dt s)) (effect : ∀ c s, P s → P (Instr.effect c s))
    (ending : ∀ s, P s → P (finish s)) {s t : State} (hs : P s) (h : step s = .next t) : P t :=
  step_keeps_of (admitted := fun _ => True) pending time (fun c s _ => effect c s) ending hs (fun _ _ => trivial) h

end Sys2Proof.Machine

namespace Sys2Proof.Machine

/-! SUPPORT. What the commands leave of the queue of commands, and the end of a step on the two lines. -/

/-- No record taken touches the commands behind it. -/
theorem Record.taken_pending (r : Record) (s : State) : (r.taken s).pending = s.pending := by
  cases r <;> simp [Record.taken, State.ackEvents]

@[simp] theorem State.heard_pending (m : Sender) (isAnnounce : Bool) (update : List PeerRecord → List PeerRecord) (s : State) :
    (s.heard m isAnnounce update).pending = s.pending := by
  simp [State.heard]

theorem messageReaction_pending (c : Instr) (s : State) : (messageReaction c s).pending = s.pending := by
  cases c <;> simp [messageReaction]

/-- No effect touches the commands behind it. -/
theorem effect_pending (c : Instr) (s : State) : (c.effect s).pending = s.pending := by
  refine effect_induct (P := fun t => t.pending = s.pending) c rfl (fun r => Record.taken_pending r _) (fun _ => by simp)
    (fun m _ _ _ => by rw [messageReaction_pending, State.heard_pending]) (fun hc hm => ?_)
  cases c
  all_goals simp_all [Instr.effect, takesRecord, messageSender]

/-- Settles O1: the step is this very case split. -/
theorem stepRunsTheFrontCommand : Obligations.StepRunsTheFrontCommand := fun _ _ _ => rfl

/-- Settles O2: every command answers with its effect's end of the step, and no part of either touches the queue. -/
theorem everyCommandGoesOnAndKeepsTheQueue : Obligations.EveryCommandGoesOnAndKeepsTheQueue := by
  intro c s
  exact ⟨_, exec_eq c s, by rw [finish_pending, effect_pending, advance_pending]⟩

end Sys2Proof.Machine

/-! SUPPORT. The clip store's progress, rule by rule: what the starting and the supply part of an engine do, and what of the
store a composition and show control's signals can change. -/

namespace Sys2Proof.Machine

/-! ## The starting part of an engine (R53) -/

section
variable {show_ : ShowControl} {t i : Nat} {s : ClipStore} {c : Clip} (again : Bool) (fuel : Nat)

theorem ClipStore.startEngine_of_none (h : s.chooseNext show_ (show_.binding.get i) (s.engines.get i) = none) :
    s.startEngine show_ t i again (fuel + 1) = (s, false) := by
  rw [ClipStore.startEngine, h]

theorem ClipStore.startEngine_of_ahead (h : s.chooseNext show_ (show_.binding.get i) (s.engines.get i) = some c)
    (ahead : t < c.start) : s.startEngine show_ t i again (fuel + 1) = (s, false) := by
  rw [ClipStore.startEngine, h]
  exact if_neg (Nat.not_le.2 ahead)

theorem ClipStore.startEngine_of_ready (h : s.chooseNext show_ (show_.binding.get i) (s.engines.get i) = some c)
    (come : c.start ≤ t) (ready : c.state = .ready) : s.startEngine show_ t i again (fuel + 1) =
      (((s.cut i).update c.id Clip.play).setCurrent i (some { clip := c.id, index := 0 })).startEngine show_ t i true fuel := by
  rw [ClipStore.startEngine, h]
  simp only [if_pos come, ready]

theorem ClipStore.startEngine_of_loading (h : s.chooseNext show_ (show_.binding.get i) (s.engines.get i) = some c)
    (come : c.start ≤ t) (loading : c.state = .loading) : s.startEngine show_ t i again (fuel + 1) =
      ((((s.cut i).setState c.id .late).startEngine show_ t i true fuel).1, true) := by
  rw [ClipStore.startEngine, h]
  simp only [if_pos come, loading]

theorem ClipStore.startEngine_of_late (h : s.chooseNext show_ (show_.binding.get i) (s.engines.get i) = some c)
    (come : c.start ≤ t) (late : c.state = .late) :
    s.startEngine show_ t i false (fuel + 1) = (s.cut i).startEngine show_ t i true fuel
      ∧ s.startEngine show_ t i true (fuel + 1) = (s, false) := by
  rw [ClipStore.startEngine, ClipStore.startEngine, h]
  simp only [if_pos come, late, if_true, Bool.false_eq_true, if_false, and_self]

end

/-- The clip chosen next stands in the store, waits, and is of the track served. -/
theorem ClipStore.chooseNext_spec {show_ : ShowControl} {s : ClipStore} {bound : Option Nat} {e : Engine} {c : Clip}
    (h : s.chooseNext show_ bound e = some c) : c ∈ s.clips ∧ bound = some c.track ∧ c.state.waits = true := by
  unfold ClipStore.chooseNext at h
  split at h
  · cases h
  · split at h
    · cases h
    · obtain ⟨hc, hsel⟩ := List.mem_filter.1 (mem_of_firstBy h)
      simp only [Bool.and_eq_true, beq_iff_eq] at hsel
      obtain ⟨⟨rfl, waits⟩, -⟩ := hsel
      exact ⟨hc, rfl, waits⟩

/-- What a cut and what either start of the clip chosen keep, the starting part keeps. -/
theorem ClipStore.startEngine_induct {P : ClipStore → Prop} {show_ : ShowControl} {t i : Nat}
    (cut : ∀ s, P s → P (s.cut i))
    (ready : ∀ s c, P s → s.chooseNext show_ (show_.binding.get i) (s.engines.get i) = some c → c.state = .ready →
      P (((s.cut i).update c.id Clip.play).setCurrent i (some { clip := c.id, index := 0 })))
    (loading : ∀ s c, P s → s.chooseNext show_ (show_.binding.get i) (s.engines.get i) = some c → c.state = .loading →
      P ((s.cut i).setState c.id .late))
    (again : Bool) (fuel : Nat) {s : ClipStore} (hs : P s) : P (s.startEngine show_ t i again fuel).1 := by
  induction fuel generalizing s again with
  | zero => exact hs
  | succ fuel ih =>
    cases h : s.chooseNext show_ (show_.binding.get i) (s.engines.get i) with
    | none => rwa [ClipStore.startEngine_of_none again fuel h]
    | some c =>
      obtain ahead | come := Nat.lt_or_ge t c.start
      · rwa [ClipStore.startEngine_of_ahead again fuel h ahead]
      have waits := (ClipStore.chooseNext_spec h).2.2
      cases state : c.state with
      | ready =>
        rw [ClipStore.startEngine_of_ready again fuel h come state]
        exact ih true (ready s c hs h state)
      | loading =>
        rw [ClipStore.startEngine_of_loading again fuel h come state]
        exact ih true (loading s c hs h state)
      | late =>
        cases again with
        | true => rwa [(ClipStore.startEngine_of_late fuel h come state).2]
        | false =>
          rw [(ClipStore.startEngine_of_late fuel h come state).1]
          exact ih true (cut s hs)
      | playing => simp [state, ClipState.waits] at waits
      | spent => simp [state, ClipState.waits] at waits

/-! ## The parts engine by engine (R52) -/

/-- The starting part takes the engines 0 to 3 in order. -/
theorem ClipStore.starting_eq (show_ : ShowControl) (t : Nat) (s : ClipStore) : ∀ a b c d : ClipStore × Bool,
    a = s.startEngine show_ t 0 false (s.clips.length + 1) →
    b = a.1.startEngine show_ t 1 false (a.1.clips.length + 1) →
    c = b.1.startEngine show_ t 2 false (b.1.clips.length + 1) →
    d = c.1.startEngine show_ t 3 false (c.1.clips.length + 1) →
    s.starting show_ t = (d.1, a.2 || b.2 || c.2 || d.2) := by
  rintro a b c d rfl rfl rfl rfl
  simp [ClipStore.starting]

/-- The supply part takes the engines 0 to 3 in order. -/
theorem ClipStore.supply_eq (t : Nat) (s : ClipStore) : ∀ a b c d : ClipStore × List AudioOffer,
    a = s.supplyEngine t 0 → b = a.1.supplyEngine t 1 → c = b.1.supplyEngine t 2 → d = c.1.supplyEngine t 3 →
    s.supply t = (d.1, a.2 ++ b.2 ++ c.2 ++ d.2) := by
  rintro a b c d rfl rfl rfl rfl
  simp [ClipStore.supply]

theorem ClipStore.starting_induct {P : ClipStore → Prop} {show_ : ShowControl} {t : Nat}
    (engine : ∀ i < 4, ∀ fuel s, P s → P (s.startEngine show_ t i false fuel).1) {s : ClipStore} (hs : P s) :
    P (s.starting show_ t).1 := by
  rw [s.starting_eq show_ t _ _ _ _ rfl rfl rfl rfl]
  exact engine 3 (by decide) _ _ (engine 2 (by decide) _ _ (engine 1 (by decide) _ _ (engine 0 (by decide) _ _ hs)))

theorem ClipStore.supply_induct {P : ClipStore → Prop} {t : Nat}
    (engine : ∀ i < 4, ∀ s, P s → P (s.supplyEngine t i).1) {s : ClipStore} (hs : P s) : P (s.supply t).1 := by
  rw [s.supply_eq t _ _ _ _ rfl rfl rfl rfl]
  exact engine 3 (by decide) _ (engine 2 (by decide) _ (engine 1 (by decide) _ (engine 0 (by decide) _ hs)))

/-- The supply part of an engine leaves the store, counts a slip, hands on to a next block of its clip, or ends the clip. -/
theorem ClipStore.supplyEngine_induct {P : ClipStore → Prop} {t i : Nat} {s : ClipStore} (hs : P s)
    (slip : ∀ s, P s → P { s with slip := bump s.slip })
    (onward : ∀ s cur c n, P s → (s.engines.get i).current = some cur → s.find cur.clip = some c → n < c.length →
      P (s.setCurrent i (some { clip := c.id, index := n })))
    (ended : ∀ s cur c, P s → (s.engines.get i).current = some cur → s.find cur.clip = some c → P (s.endCurrent i c.id)) :
    P (s.supplyEngine t i).1 := by
  unfold ClipStore.supplyEngine
  split
  · exact hs
  rename_i cur hcur
  split
  · exact hs
  rename_i c hc
  have moved (s' : ClipStore) (hs' : P s') (cur' : (s'.engines.get i).current = some cur)
      (found : s'.find cur.clip = some c) (n : Nat) : P (s'.advanceTo i c n) := by
    unfold ClipStore.advanceTo
    split
    · rename_i hn
      exact onward s' cur c n hs' cur' found hn
    · exact ended s' cur c hs' cur' found
  dsimp only
  split
  · exact slip s hs
  · split
    · split
      · exact moved _ (slip s hs) hcur hc _
      · exact ended _ cur c (slip s hs) hcur hc
    · exact moved s hs hcur hc _

/-- The progress step: what its parts keep. -/
theorem ClipStore.progress_induct {P : ClipStore → Prop} {show_ : ShowControl} {s : ClipStore} (hs : P s)
    (retain : ∀ t s, P s → P (s.retain t)) (passing : ∀ t s, P s → P (s.passing t))
    (givingUp : ∀ t s, P s → P (s.givingUp t))
    (starting : ∀ t s, P s → P (s.starting show_ t).1) (supply : ∀ t s, P s → P (s.supply t).1)
    (rechoose : ∀ s, P s → P (s.rechoose show_)) : P (s.progress show_).store := by
  unfold ClipStore.progress
  dsimp only
  split
  · exact rechoose _ (supply _ _ (starting _ _ (givingUp _ _ (passing _ _ (retain _ _ hs)))))
  · exact retain _ _ hs

/-- Clips evicted in order: what the removal of one keeps, making room keeps. -/
theorem ClipStore.evictUntil_induct {P : ClipStore → Prop} {p : Nat} {victims : List Clip} {s s' : ClipStore}
    (evict : ∀ v ∈ victims, ∀ s, P s → P { s with clips := s.clips.filter (fun c => c.id != v.id) }) (hs : P s)
    (h : s.evictUntil p victims = some s') : P s' := by
  induction victims generalizing s with
  | nil =>
    unfold ClipStore.evictUntil at h
    split at h
    · cases h
      exact hs
    · cases h
  | cons v rest ih =>
    unfold ClipStore.evictUntil at h
    split at h
    · cases h
      exact hs
    · exact ih (fun v hv => evict v (List.mem_cons_of_mem _ hv)) (evict v List.mem_cons_self _ hs) h

/-- Room made is room for an entry and its pages. -/
theorem ClipStore.fits_of_evictUntil {p : Nat} {victims : List Clip} {s s' : ClipStore}
    (h : s.evictUntil p victims = some s') : s'.fits p = true := by
  induction victims generalizing s with
  | nil =>
    unfold ClipStore.evictUntil at h
    split at h
    · cases h
      assumption
    · cases h
  | cons v rest ih =>
    unfold ClipStore.evictUntil at h
    split at h
    · cases h
      assumption
    · exact ih h

end Sys2Proof.Machine

namespace Sys2Proof.Machine

/-! SUPPORT. Clip memory and the translation tables through every effect: CLIP DATA alone writes the one, TABLE LOAD alone the
other (R43, R17). -/

/-! ## Clip memory -/

@[simp] theorem ClipStore.startEngine_memory (show_ : ShowControl) (t i fuel : Nat) (again : Bool) (s : ClipStore) :
    (s.startEngine show_ t i again fuel).1.memory = s.memory := by
  refine ClipStore.startEngine_induct (P := fun s' => s'.memory = s.memory) ?_ ?_ ?_ again fuel rfl
  · exact fun s' h => (ClipStore.cut_memory s' i).trans h
  · exact fun s' c h _ _ => (ClipStore.cut_memory s' i).trans h
  · exact fun s' c h _ _ => (ClipStore.cut_memory s' i).trans h

@[simp] theorem ClipStore.progress_memory (show_ : ShowControl) (s : ClipStore) :
    (s.progress show_).store.memory = s.memory := by
  refine ClipStore.progress_induct (P := fun s' => s'.memory = s.memory) rfl (fun _ _ h => h) (fun _ _ h => h)
    (fun _ _ h => h) (fun t s' h => ?_) (fun t s' h => ?_) (fun _ h => h)
  · exact ClipStore.starting_induct (P := fun s' => s'.memory = s.memory)
      (fun i _ fuel s' h => (ClipStore.startEngine_memory show_ t i fuel false s').trans h) h
  · exact ClipStore.supply_induct (P := fun s' => s'.memory = s.memory)
      (fun i _ s' h => ClipStore.supplyEngine_induct (P := fun s' => s'.memory = s.memory) h (fun _ h => h) (fun _ _ _ _ h _ _ _ => h) (fun _ _ _ h _ _ => h)) h

theorem ClipStore.writeBlocks_wf (c : Clip) (blocks : List (List Byte)) (first : Nat) (s : ClipStore)
    (h : Memory.wf clipDefault s.memory = true) : Memory.wf clipDefault (s.writeBlocks c first blocks).memory = true := by
  induction blocks generalizing first s with
  | nil => exact h
  | cons b bs ih => exact ih _ _ (Memory.wf_writeRun _ _ _ _ h)

@[simp] theorem ClipStore.lateRule_memory (show_ : ShowControl) (c : Clip) (s : ClipStore) :
    (s.lateRule show_ c).memory = s.memory := by
  unfold ClipStore.lateRule
  split
  · rfl
  · split
    · exact ClipStore.cut_memory s _
    · rfl

/-- Beyond its blocks written, CLIP DATA leaves clip memory alone. -/
theorem ClipStore.takeData_memory (show_ : ShowControl) (c : Clip) (first : Nat) (blocks : List (List Byte))
    (s : ClipStore) : (s.takeData show_ c first blocks).memory = (s.writeBlocks c first blocks).memory := by
  unfold ClipStore.takeData
  dsimp only
  split
  · split
    · rfl
    · exact ClipStore.lateRule_memory _ _ _
    · rfl
  · rfl

theorem ClipStore.makeRoom_memory {p : Nat} {s s' : ClipStore} (h : s.makeRoom p = some s') : s'.memory = s.memory :=
  ClipStore.evictUntil_induct (P := fun s' => s'.memory = s.memory) (fun _ _ _ h => h) rfl h

@[simp] theorem State.compose_memory (s : State) : s.compose.clips.memory = s.clips.memory := by
  unfold State.compose
  dsimp only
  split <;> simp

@[simp] theorem State.boundaryWork_memory (releaseFirst silent : Bool) (s : State) :
    (s.boundaryWork releaseFirst silent).clips.memory = s.clips.memory := by
  unfold State.boundaryWork
  dsimp only
  (repeat' split) <;> simp

@[simp] theorem State.adopt_memory (releaseFirst : Bool) (s : State) :
    (s.adopt releaseFirst).clips.memory = s.clips.memory := by
  unfold State.adopt
  dsimp only
  (repeat' split) <;> simp

@[simp] theorem State.signalState_memory (before : ShowState) (s : State) :
    (s.signalState before).clips.memory = s.clips.memory := by
  unfold State.signalState
  split
  · rfl
  · simp [ClipStore.rechoose]

@[simp] theorem State.signalEmpty_memory (s : State) : s.signalEmpty.clips.memory = s.clips.memory := by
  simp [State.signalEmpty_eq]

@[simp] theorem State.signalReevaluate_memory (jump : Bool) (s : State) :
    (s.signalReevaluate jump).clips.memory = s.clips.memory := by
  unfold State.signalReevaluate
  dsimp only
  split <;> rfl

@[simp] theorem State.markClock_memory (t : Nat) (s : State) : (s.markClock t).clips.memory = s.clips.memory := by
  unfold State.markClock
  (repeat' split) <;> simp [State.jumpTo]

/-! ## Show control's tables -/

@[simp] theorem ShowControl.offerGate_tables (t now : Nat) (c : ShowControl) : (c.offerGate t now).tables = c.tables := by
  unfold ShowControl.offerGate
  dsimp only
  (repeat' split) <;> rfl

@[simp] theorem State.markClock_tables (t : Nat) (s : State) : (s.markClock t).show_.tables = s.show_.tables := by
  unfold State.markClock
  (repeat' split) <;> simp [State.jumpTo, ShowControl.place]

@[simp] theorem State.takeMark_tables (t : Nat) (running : Bool) (s : State) :
    (s.takeMark t running).show_.tables = s.show_.tables := by
  simp only [State.takeMark, State.signalState_show, ShowControl.applyRunning]
  split <;> simp

/-! ## Both through every effect (R17, R43) -/

/-- A record taken keeps both stores canonical. -/
theorem Record.taken_storesCanonical (r : Record) {s : State} (h : s.storesCanonical) : (r.taken s).storesCanonical := by
  obtain ⟨memory, tables⟩ := h
  unfold State.storesCanonical
  cases r with
  | showLoad session time tracks =>
    rw [Record.taken, State.showLoad_tables]
    refine ⟨?_, tables⟩
    unfold State.showLoad
    split <;> simpa
  | showEnd =>
    simp only [Record.taken, State.showEnd]
    split
    · simpa [State.signalEnded, ClipStore.endShow, ShowControl.endShow] using ⟨memory, tables⟩
    · exact ⟨memory, tables⟩
  | showClear =>
    rw [Record.taken, State.clearShow_tables]
    simpa [State.clearShow] using ⟨memory, tables⟩
  | mark time running =>
    simp only [Record.taken, State.mark]
    (repeat' split)
    · exact ⟨memory, tables⟩
    · exact ⟨memory, tables⟩
    · rw [State.takeMark_tables]
      refine ⟨?_, tables⟩
      simpa [State.takeMark] using memory
  | tableLoad table first values =>
    simp only [Record.taken, State.tableLoad]
    split
    · exact ⟨memory, tables⟩
    · exact ⟨memory, Memory.wf_writeRun _ _ _ _ tables⟩
  | cue | cueCancel => simpa [Record.taken] using ⟨memory, tables⟩
  | clipHead id track start length =>
    rw [Record.taken, State.clipHead_show]
    refine ⟨?_, tables⟩
    unfold State.clipHead
    split
    · exact memory
    · split
      · rename_i room
        simpa [ClipStore.insert, ClipStore.rechoose, ClipStore.makeRoom_memory room] using memory
      · exact memory
  | clipData id first blocks =>
    rw [Record.taken, State.clipData_show]
    refine ⟨?_, tables⟩
    unfold State.clipData
    split
    · exact memory
    · split
      · rw [ClipStore.takeData_memory]
        exact ClipStore.writeBlocks_wf _ _ _ _ memory
      · exact memory
  | clipCancel id =>
    simp only [Record.taken, State.clipCancel]
    (repeat' split) <;> exact ⟨memory, tables⟩
  | eventAck events => exact ⟨memory, tables⟩

theorem coldStart_storesCanonical (s : State) : s.coldStart.storesCanonical := ⟨rfl, rfl⟩

theorem effect_storesCanonical (c : Instr) {s : State} (h : s.storesCanonical) : (c.effect s).storesCanonical := by
  refine effect_induct c h (fun r => Record.taken_storesCanonical r h) (fun _ => by simpa [State.storesCanonical] using h)
    (fun m _ _ _ => ?_) (fun hc hm => ?_)
  · cases c <;> simpa [messageReaction, State.storesCanonical, State.heard] using h
  · cases c
    case powerOn | powerLoss | restartLine | restartLineReleased =>
      simp only [Instr.effect, State.powerOn, State.powerLoss, State.restartLine, State.restartLineReleased]
      (repeat' split) <;> first | exact h | exact coldStart_storesCanonical _
    case frameBoundary => simp only [Instr.effect, State.frameBoundary]; split <;> simpa [State.storesCanonical] using h
    case adoption => simp only [Instr.effect, State.applyAdoption]; split <;> simpa [State.storesCanonical] using h
    case endedTimerExpiry =>
      simp only [Instr.effect, State.endedTimerExpiry]
      split
      · exact Record.taken_storesCanonical .showClear h
      · exact h
    case marksLost =>
      simp only [Instr.effect, State.marksLost]
      split <;> simpa [State.storesCanonical] using h
    case frozen =>
      simp only [Instr.effect, State.freeze]
      split <;> simpa [State.storesCanonical, State.signalFreeze, ClipStore.freeze, ClipStore.rechoose] using h
    all_goals simp_all [Instr.effect, takesRecord, messageSender, State.storesCanonical]

/-- Settles O7: no effect but TABLE LOAD's and CLIP DATA's writes a store, and a write keeps the canonical form. -/
theorem stepKeepsStoresCanonical : Obligations.StepKeepsStoresCanonical := by
  refine fun s t hs h => step_keeps (P := State.storesCanonical) (fun _ _ h => h) (fun dt s h => ?_)
    (fun c s h => effect_storesCanonical c h) (fun s h => ?_) hs h
  · simpa [State.storesCanonical] using h
  · simpa [State.storesCanonical] using h

end Sys2Proof.Machine

namespace Sys2Proof.Machine

/-! The statements on the end of a step, cold start, and the commands that move a receiver or a line. -/

/-! ## The end of a step (R161 to R167, R175) -/

theorem finish_of_sending {s : State} (h : s.link.sending ≠ none) : finish s = s.driveLines := by
  have busy : s.driveLines.link.sending ≠ none := h
  unfold finish State.startOutbound
  split
  · exact absurd ‹_› busy
  · exact absurd ‹_› busy
  · rfl

theorem finish_of_nothing_waiting {s : State} (h : s.link.outQueue = []) : finish s = s.driveLines := by
  have idle : s.driveLines.link.outQueue = [] := h
  unfold finish State.startOutbound
  split
  · rename_i hq
    rw [idle] at hq
    cases hq
  · rename_i hq
    rw [idle] at hq
    cases hq
  · rfl

theorem finish_of_status {s : State} {rest : List Outbound} (free : s.link.sending = none)
    (h : s.link.outQueue = .status :: rest) : finish s = { s.driveLines with
      link := { s.driveLines.link with outQueue := rest, sending := some (.status s.statusReport) } } := by
  have free' : s.driveLines.link.sending = none := free
  have h' : s.driveLines.link.outQueue = .status :: rest := h
  simp only [finish, State.startOutbound, free', h']
  rfl

theorem finish_of_refusal {s : State} {r : RefusalRecord} {rest : List Outbound} (free : s.link.sending = none)
    (h : s.link.outQueue = .refusal r :: rest) : finish s = { s.driveLines with
      link := { s.driveLines.link with outQueue := rest, sending := some (.refusal r) } } := by
  have free' : s.driveLines.link.sending = none := free
  have h' : s.driveLines.link.outQueue = .refusal r :: rest := h
  simp only [finish, State.startOutbound, free', h']

/-- At the end of a step the two lines stand driven, and but for them the transmit side alone has changed. -/
theorem finish_cases (s : State) : ∃ outQueue sending,
    finish s = { s.driveLines with link := { s.driveLines.link with outQueue := outQueue, sending := sending } }
      ∧ (sending = none → outQueue = []) := by
  cases free : s.link.sending with
  | some r =>
    refine ⟨s.link.outQueue, some r, ?_, nofun⟩
    rw [finish_of_sending (by simp [free]), ← free]
    rfl
  | none =>
    match hq : s.link.outQueue with
    | [] =>
      refine ⟨[], none, ?_, fun _ => rfl⟩
      rw [finish_of_nothing_waiting hq, ← hq, ← free]
      rfl
    | .status :: rest => exact ⟨rest, _, finish_of_status free hq, nofun⟩
    | .refusal r :: rest => exact ⟨rest, _, finish_of_refusal free hq, nofun⟩

@[simp] theorem finish_faultLine (s : State) :
    (finish s).loader.faultLine = faultLineAt s.loader.station s.pm.starved s.show_.state := by
  obtain ⟨_, _, h, -⟩ := finish_cases s
  rw [h]
  rfl

@[simp] theorem finish_rxQueue (s : State) : (finish s).link.rxQueue = s.link.rxQueue := by
  obtain ⟨_, _, h, -⟩ := finish_cases s
  rw [h]
  rfl

@[simp] theorem finish_holdLine (s : State) :
    (finish s).link.holdLine = holdLineAt s.loader.station s.link.rxQueue.length := by
  obtain ⟨_, _, h, -⟩ := finish_cases s
  rw [h]
  rfl

@[simp] theorem finish_events (s : State) : (finish s).link.events = s.link.events := by
  obtain ⟨_, _, h, -⟩ := finish_cases s
  rw [h]
  rfl

@[simp] theorem finish_has (s : State) (e : Event) : (finish s).link.has e = s.link.has e := by
  rw [ShowLink.has, finish_events, ShowLink.has]

@[simp] theorem finish_cfg (s : State) : (finish s).cfg = s.cfg := by
  rw [State.cfg, finish_config, State.cfg]

@[simp] theorem finish_joined (s : State) : (finish s).joined = s.joined := by
  rw [State.joined, finish_station, State.joined]

theorem finish_linesDriven (s : State) : (finish s).linesDriven := by
  simp [State.linesDriven]

theorem finish_transmitBusy (s : State) : (finish s).transmitBusy := by
  obtain ⟨_, _, h, busy⟩ := finish_cases s
  rw [State.transmitBusy, h]
  exact busy

/-- Settles O9: the end of every step drives both lines and leaves no record waiting, whatever the command did; without a command
nothing moves. -/
theorem stepKeepsLinesDriven : Obligations.StepKeepsLinesDriven := by
  intro s t lines busy h
  unfold step at h
  split at h
  · cases h
    exact ⟨lines, busy⟩
  · rw [exec_next_iff] at h
    rw [← h]
    exact ⟨finish_linesDriven _, finish_transmitBusy _⟩

/-! ### How a record joins the outbound queue (R164) -/

theorem holdLineAt_iff (station : StationState) (occupied : Nat) :
    holdLineAt station occupied = true ↔ station = .configRead ∨ station = .configFault ∨ 7 ≤ occupied := by
  cases station <;> simp [holdLineAt] <;> exact Iff.rfl

theorem faultLineAt_iff (station : StationState) (starved : Bool) (show_ : ShowState) :
    faultLineAt station starved show_ = true ↔
      station = .configFault ∨ station = .duplicateFault ∨ starved = true ∨ show_ = .frozen := by
  simp [faultLineAt, or_assoc]

theorem ShowLink.handStatus_of_waiting {k : ShowLink} (h : .status ∈ k.outQueue) : k.handStatus = k := by
  rw [ShowLink.handStatus, if_pos (List.contains_iff_mem.2 h)]

theorem ShowLink.handStatus_of_room {k : ShowLink} (h : .status ∉ k.outQueue) (room : k.outQueue.length < Config.maxOutbound) :
    k.handStatus = { k with outQueue := k.outQueue ++ [.status] } := by
  rw [ShowLink.handStatus, if_neg (mt List.contains_iff_mem.1 h), if_pos room]

theorem dropNewestRefusal_append (older : List Outbound) (newest : Outbound) :
    dropNewestRefusal (older ++ [newest]) = older := by
  simp [dropNewestRefusal]

theorem ShowLink.handStatus_of_full {k : ShowLink} {older : List Outbound} {newest : Outbound}
    (hq : k.outQueue = older ++ [newest]) (h : .status ∉ k.outQueue) (full : Config.maxOutbound ≤ k.outQueue.length) :
    k.handStatus = { k with outQueue := older ++ [.status], refusalsDropped := bump k.refusalsDropped } := by
  rw [ShowLink.handStatus, if_neg (mt List.contains_iff_mem.1 h), if_neg (Nat.not_lt.2 full), hq,
    dropNewestRefusal_append]

theorem ShowLink.handRefusal_of_room {k : ShowLink} (r : RefusalRecord) (room : k.outQueue.length < Config.maxOutbound) :
    k.handRefusal r = { k with outQueue := k.outQueue ++ [.refusal r] } := if_pos room

theorem ShowLink.handRefusal_of_full {k : ShowLink} (r : RefusalRecord) (full : Config.maxOutbound ≤ k.outQueue.length) :
    k.handRefusal r = { k with refusalsDropped := bump k.refusalsDropped } := if_neg (Nat.not_lt.2 full)

theorem ShowLink.raise_of_set {k : ShowLink} {e : Event} (h : k.has e = true) : k.raise e = k := if_pos h

theorem ShowLink.raise_of_clear {k : ShowLink} {e : Event} (h : k.has e = false) :
    k.raise e = { k with events := k.events ||| e.bit }.handStatus := by
  rw [ShowLink.raise, h]
  rfl

@[simp] theorem ShowLink.handStatus_events (k : ShowLink) : k.handStatus.events = k.events := by
  unfold ShowLink.handStatus
  (repeat' split) <;> rfl

/-- The place of an event in the event set (R166, R179). -/
def Event.index : Event → Nat
  | .starved => 0
  | .evicted => 1
  | .duplicate => 2
  | .marksLost => 3
  | .frozen => 4
  | .jump => 5
  | .queueFull => 6
  | .clipNoRoom => 7
  | .lateClip => 8
  | .linkOverrun => 9

theorem Event.bit_eq_twoPow (e : Event) : e.bit = BitVec.twoPow 16 e.index := by
  cases e <;> rfl

theorem Event.index_lt (e : Event) : e.index < 16 := by
  cases e <;> decide

theorem Event.index_inj {e f : Event} : e.index = f.index ↔ e = f := by
  cases e <;> cases f <;> decide

/-- A set names an event exactly if the bit at the event's place is set. -/
theorem and_bit_ne_zero (x : BitVec 16) (e : Event) : (x &&& e.bit != 0) = x.getLsbD e.index := by
  rw [e.bit_eq_twoPow, BitVec.and_twoPow]
  have nonzero : BitVec.twoPow 16 e.index ≠ 0#16 := by
    rw [← e.bit_eq_twoPow]
    cases e <;> decide
  cases x.getLsbD e.index with
  | false => simp
  | true => simpa using nonzero

theorem ShowLink.has_eq_getLsbD (k : ShowLink) (e : Event) : k.has e = k.events.getLsbD e.index :=
  and_bit_ne_zero _ _

theorem Event.getLsbD_bit (e f : Event) : e.bit.getLsbD f.index = (e == f) := by
  rw [e.bit_eq_twoPow, BitVec.getLsbD_twoPow, Bool.eq_iff_iff]
  simp [e.index_lt, Event.index_inj]

theorem ShowLink.has_or_bit (k : ShowLink) (e f : Event) :
    ShowLink.has { k with events := k.events ||| e.bit } f = (k.has f || e == f) := by
  rw [ShowLink.has_eq_getLsbD, BitVec.getLsbD_or, Event.getLsbD_bit, ShowLink.has_eq_getLsbD]

/-- Settles O3: finish, case by case of the transmit side and the first waiting record; the two lines, condition by condition; and
the outbound queue, by its length and by whether a STATUS waits. -/
theorem endOfStepDrivesLinesAndStartsARecord : Obligations.EndOfStepDrivesLinesAndStartsARecord := by
  refine ⟨?_, fun station occupied starved show_ => ⟨holdLineAt_iff _ _, faultLineAt_iff _ _ _⟩, fun k => ?_⟩
  · rintro s v rfl
    exact ⟨finish_of_sending, finish_of_nothing_waiting, fun rest => finish_of_status, fun r rest => finish_of_refusal⟩
  · exact ⟨ShowLink.handStatus_of_waiting, ShowLink.handStatus_of_room, fun older newest => ShowLink.handStatus_of_full,
      fun r => ShowLink.handRefusal_of_room r, fun r => ShowLink.handRefusal_of_full r, fun e => ShowLink.raise_of_set,
      fun e => ShowLink.raise_of_clear, k.has_or_bit⟩

/-! ## Cold start (R168) -/

/-- Settles O5, block by block of the reset state. -/
theorem resetHoldsTheColdStartValues : Obligations.ResetHoldsTheColdStartValues := by
  rintro s rfl
  refine ⟨⟨rfl, rfl, rfl, rfl⟩, ⟨rfl, rfl, rfl, rfl, by decide, rfl, rfl, rfl, rfl, rfl⟩, ⟨rfl, rfl, rfl, rfl⟩,
    ⟨rfl, rfl, rfl, rfl, rfl, rfl, rfl, rfl⟩, ⟨rfl, rfl, rfl, rfl, rfl⟩, ⟨rfl, rfl, rfl, rfl, rfl, rfl, rfl, rfl, rfl⟩,
    fun table entry _ h => tableDefault_entry table h, ⟨rfl, rfl, rfl, ?_, rfl, rfl⟩, ⟨rfl, rfl, rfl, rfl, rfl⟩, rfl⟩
  exact List.filter_eq_self.2 fun _ _ => rfl

/-- Settles O6. -/
theorem resetSatisfiesEveryInvariant : Obligations.ResetSatisfiesEveryInvariant := by
  refine ⟨⟨rfl, rfl⟩, ?counters, ?queues, ?tables, ⟨rfl, rfl⟩, fun _ => rfl, ?positions, ⟨.nil, nofun⟩, ⟨.nil, .nil, nofun⟩,
    ?engines, ⟨.nil, fun _ => Nat.zero_le _⟩, ?timing, ?clock⟩
  case counters =>
    have zero : State.reset.statusReport.counters = List.replicate 19 0 := rfl
    intro c hc
    rw [zero, List.mem_replicate] at hc
    omega
  case queues => refine ⟨?_, ?_, ?_, ?_, ?_, ?_, ?_, ?_, ?_⟩ <;> exact Nat.zero_le _
  case tables =>
    exact ⟨Nat.zero_le _, nofun, Nat.zero_le _, Nat.zero_le _, by simp [State.reset, ShowControl.reset], rfl, nofun,
      fun _ => ⟨rfl, rfl⟩, .nil, nofun, Nat.zero_le _⟩
  case positions => exact ⟨fun _ => rfl, Nat.zero_le _, nofun, .nil⟩
  case engines =>
    refine ⟨fun i hi cur h => ?_, nofun, nofun, fun i hi j hj h => ?_, nofun, .nil⟩
    · match i, hi with
      | 0, _ | 1, _ | 2, _ | 3, _ => cases h
    · match i, hi with
      | 0, _ | 1, _ | 2, _ | 3, _ => cases h
  case timing => exact ⟨by decide, by decide, by decide, by decide, nofun, fun _ => rfl⟩
  case clock => exact ⟨by decide, by decide, by decide⟩

theorem coldStart_eq (s : State) :
    s.coldStart = coldState s.pending s.loader.supplyUp s.loader.restartAsserted s.radio.lockIndicator := rfl

theorem finish_coldState (pending : List Instr) (supplyUp restartAsserted lockIndicator : Bool) :
    finish (coldState pending supplyUp restartAsserted lockIndicator)
      = coldState pending supplyUp restartAsserted lockIndicator := by
  rw [finish_of_nothing_waiting rfl]
  rfl

theorem advance_of_held {dt : Nat} {s : State} (h : s.loader.held = true) : advance dt s = s := if_pos h

/-- Settles O14: each of the four events puts the station at cold start, whose lines the end of the step finds as they are. -/
theorem coldStartForgetsEverything : Obligations.ColdStartForgetsEverything := by
  intro dt s
  refine ⟨?_, fun down => ?_, fun width wide released => ?_, fun asserted => ?_, fun width short => ?_, advance_of_held⟩
  · rw [exec_eq]
    simp only [Instr.effect, State.powerLoss, coldStart_eq, finish_coldState]
    simp [State.setSupply]
  · rw [exec_eq]
    simp only [Instr.effect, State.powerOn, advance_loader, down, Bool.false_eq_true, if_false, coldStart_eq,
      finish_coldState]
    simp [State.setSupply]
  · rw [exec_eq]
    simp only [Instr.effect, State.restartLine, advance_loader, wide, released, decide_true, Bool.not_false, Bool.and_self,
      if_true, coldStart_eq, finish_coldState]
    simp [State.setRestart]
  · rw [exec_eq]
    simp only [Instr.effect, State.restartLineReleased, advance_loader, asserted, if_true, coldStart_eq, finish_coldState]
    simp [State.setRestart]
  · rw [exec_eq]
    simp only [Instr.effect, State.restartLine, Nat.not_le.2 short, decide_false, Bool.false_and, Bool.false_eq_true, if_false]
    rfl

end Sys2Proof.Machine

/-! The statements on the single moves of a receiver, the line, the clock and the boundary that one command makes alone. -/

namespace Sys2Proof.Machine

/-- A command of the statements: its effect on the state to which its time has brought the station. -/
theorem exec_at {c : Instr} {s u : State} (hu : u = advance c.micros s) : exec c s = .next (finish (c.effect u)) := by
  rw [exec_eq, hu]

/-- What a command's effect is gives what the command does. -/
theorem exec_of_effect {c : Instr} {s u v : State} (hu : u = advance c.micros s) (h : c.effect u = v) :
    exec c s = .next (finish v) := by
  rw [exec_at hu, h]

/-- Settles O31: the five checks, one after the other. -/
theorem ticketChecksInOrder : Obligations.TicketChecksInOrder := by
  intro number c k
  have live : c.state ≠ .noShow → c.state ≠ .ended → (c.state == .noShow || c.state == .ended) = false := by
    simp +contextual
  have admitted : c.session = some k.session ∨ 3 ≤ k.ticketClass →
      (c.session != some k.session && decide (k.ticketClass ≤ 2)) = false := by
    rintro (same | high)
    · simp [same]
    · simp [Nat.not_le.2 high]
  refine ⟨fun away => ?_, fun here gone => ?_, fun here shown going strange low => ?_,
    fun here shown going ticket missing => ?_, fun t here shown going ticket found => ?_⟩
  · simp [ticketRefusal, away]
  · simp [ticketRefusal, here, gone]
  · simp [ticketRefusal, here, live shown going, strange, low]
  · have none_ : c.tracks.find? (fun t => t.number == k.track) = none := by
      simpa [List.find?_eq_none] using missing
    simp [ticketRefusal, here, live shown going, admitted ticket, none_]
  · simp [ticketRefusal, here, live shown going, admitted ticket, found]

theorem receives_of {station : StationState} (h : station = .listen ∨ station = .joined ∨ station = .duplicateFault) :
    station.receives = true := by
  obtain rfl | rfl | rfl := h
  all_goals rfl

theorem HouseLine.hearing_of {l : HouseLine} (receiving : l.receiving = true) (busy : l.busy = true)
    (free : l.sending = none) : l.hearing = true := by
  simp [HouseLine.hearing, receiving, busy, free]

/-- Settles O35: each of the three commands writes the line alone. -/
theorem lineIsHeardAndBadMessagesCounted : Obligations.LineIsHeardAndBadMessagesCounted := by
  intro dt s u hu
  refine ⟨fun station deaf => exec_of_effect hu ?_, fun receiving quiet free => exec_of_effect hu ?_,
    fun message brokeOff receiving busy free bad => exec_of_effect hu ?_⟩
  · simp [Instr.effect, State.receiveStart, receives_of station, deaf]
  · simp [Instr.effect, State.startMarkHeard, receiving, quiet, free, HouseLine.startMark]
  · have discarded : (brokeOff || (parseMessage message).isNone) = true := by simpa using bad
    have hearing := HouseLine.hearing_of receiving busy free
    simp only [Instr.effect, State.badMessage, hearing, discarded, Bool.and_self, if_true]
    cases brokeOff && u.line.ownConflict <;> rfl

/-- Settles O47. -/
theorem eventAckClearsTheNamedEvents : Obligations.EventAckClearsTheNamedEvents := by
  intro dt s u named rest hu hq
  refine ⟨_, exec_of_effect hu (State.takeHead_of_head hq rfl), rfl, fun e => ?_⟩
  have place : (named &&& e.bit == 0) = !named.getLsbD e.index := by
    rw [← and_bit_ne_zero, bne, Bool.not_not]
  rw [finish_has, ShowLink.has_eq_getLsbD, ShowLink.has_eq_getLsbD, place]
  simp [State.ackEvents, e.index_lt]

theorem gathering_of_long_body {bs : List Byte} (three : bs.length = 3) (long : 261 < fieldAt bs 1 2) :
    gathering bs = .overLength := by
  have tooLong : Config.maxBody < fieldAt bs 1 2 := long
  simp [gathering, three, tooLong]

/-- Settles O44: the framing states, and what breaks a record. -/
theorem receiverFindsAndBreaksRecords : Obligations.ReceiverFindsAndBreaksRecords := by
  refine ⟨fun dt s u hu => ⟨fun waits => exec_of_effect hu ?_, fun waits long => exec_of_effect hu ?_,
    fun waits short => exec_of_effect hu ?_, fun hunts => exec_of_effect hu ?_⟩, ?_⟩
  · simp [Instr.effect, State.idleWaitByte, waits]
  · simp [Instr.effect, State.idleWaitEnd, State.setFraming, waits, long]
  · simp [Instr.effect, State.idleWaitEnd, waits, Nat.not_le.2 short]
  · simp [Instr.effect, State.recordStartMark, hunts]
  · rintro dt s u bs refused hu inside rfl
    refine ⟨fun started => ⟨exec_of_effect hu ?_, fun long => exec_of_effect hu ?_⟩, fun short => exec_of_effect hu ?_,
      fun three long => exec_of_effect hu ?_⟩
    · simp only [Instr.effect, State.recordBroken, inside, started, beq_self_eq_true, if_true]
      rfl
    · simp only [Instr.effect, State.recordGap, byteMicros, inside, started, long, beq_self_eq_true, decide_true,
        Bool.and_self, if_true]
      rfl
    · simp [Instr.effect, State.recordGap, byteMicros, Nat.not_lt.2 short]
    · simp only [Instr.effect, State.recordBroken, inside, gathering_of_long_body three long, beq_self_eq_true, if_true,
        Bool.false_eq_true, if_false]
      rfl

/-- Settles O46: the end of the step finds the transmit side free and takes the oldest waiting record, a STATUS with its contents as
they stand. -/
theorem theOldestWaitingRecordStarts : Obligations.TheOldestWaitingRecordStarts := by
  intro dt s u hu
  refine ⟨fun empty => ⟨_, exec_at hu, ?_⟩, fun rest waits => ?_, fun r rest waits => ⟨_, exec_at hu, ?_⟩⟩
  · rw [finish_of_nothing_waiting (s := (Instr.outboundRecordSent dt).effect u) empty]
    exact ⟨rfl, empty⟩
  · refine ⟨_, u.outboundSent.statusReport, exec_at hu, ?_⟩
    rw [finish_of_status (s := (Instr.outboundRecordSent dt).effect u) (rest := rest) rfl waits]
    exact ⟨rfl, rfl, rfl, rfl, rfl, rfl, rfl, rfl, rfl, rfl, rfl, rfl, rfl, rfl, rfl, rfl, rfl⟩
  · rw [finish_of_refusal (s := (Instr.outboundRecordSent dt).effect u) (r := r) (rest := rest) rfl waits]
    exact ⟨rfl, rfl⟩

/-! ## The show clock (R8) -/

theorem ShowControl.advanceClock_of_stop {c : ShowControl} {dt : Nat}
    (h : Config.maxShowTime ≤ c.clock + (c.fraction + dt * c.rate.num) / (1000 * c.rate.den)) :
    c.advanceClock dt = { c with clock := Config.maxShowTime, fraction := 0 } := if_pos h

theorem ShowControl.advanceClock_of_run {c : ShowControl} {dt : Nat}
    (h : c.clock + (c.fraction + dt * c.rate.num) / (1000 * c.rate.den) < Config.maxShowTime) :
    c.advanceClock dt = { c with clock := c.clock + (c.fraction + dt * c.rate.num) / (1000 * c.rate.den)
                                 fraction := (c.fraction + dt * c.rate.num) % (1000 * c.rate.den) } :=
  if_neg (Nat.not_le.2 h)

/-- What two stretches add to the clock they add together: the fraction carries what the first leaves. -/
theorem ShowControl.advanceClock_add {c : ShowControl} (a b : Nat) (den : 0 < c.rate.den) :
    (c.advanceClock a).advanceClock b = c.advanceClock (a + b) := by
  have unit : 0 < 1000 * c.rate.den := by omega
  have whole : c.fraction + (a + b) * c.rate.num
      = (c.fraction + a * c.rate.num) % (1000 * c.rate.den) + b * c.rate.num
        + (1000 * c.rate.den) * ((c.fraction + a * c.rate.num) / (1000 * c.rate.den)) := by
    have split := Nat.mod_add_div (c.fraction + a * c.rate.num) (1000 * c.rate.den)
    rw [Nat.add_mul]
    omega
  have quotient := congrArg (· / (1000 * c.rate.den)) whole
  have remainder := congrArg (· % (1000 * c.rate.den)) whole
  simp only [Nat.add_mul_div_left _ _ unit] at quotient
  simp only [Nat.add_mul_mod_self_left] at remainder
  obtain stop | run := Nat.lt_or_ge (c.clock + (c.fraction + a * c.rate.num) / (1000 * c.rate.den)) Config.maxShowTime
  · rw [ShowControl.advanceClock_of_run stop]
    simp only [ShowControl.advanceClock, quotient, remainder]
    rw [show c.clock + (c.fraction + a * c.rate.num) / (1000 * c.rate.den)
        + ((c.fraction + a * c.rate.num) % (1000 * c.rate.den) + b * c.rate.num) / (1000 * c.rate.den)
      = c.clock + (((c.fraction + a * c.rate.num) % (1000 * c.rate.den) + b * c.rate.num) / (1000 * c.rate.den)
        + (c.fraction + a * c.rate.num) / (1000 * c.rate.den)) by omega]
  · rw [ShowControl.advanceClock_of_stop run, ShowControl.advanceClock_of_stop (Nat.le_add_right _ _),
      ShowControl.advanceClock_of_stop (quotient ▸ run.trans (Nat.add_le_add_left (Nat.le_add_left _ _) _))]

/-- The clock and its fraction alone move. -/
theorem ShowControl.advanceClock_eq (c : ShowControl) (dt : Nat) :
    c.advanceClock dt = { c with clock := (c.advanceClock dt).clock, fraction := (c.advanceClock dt).fraction } := by
  unfold ShowControl.advanceClock
  dsimp only
  split <;> rfl

theorem ShowControl.advanceClock_le (c : ShowControl) (dt : Nat) : (c.advanceClock dt).clock ≤ Config.maxShowTime := by
  obtain run | stop := Nat.lt_or_ge (c.clock + (c.fraction + dt * c.rate.num) / (1000 * c.rate.den)) Config.maxShowTime
  · rw [ShowControl.advanceClock_of_run run]
    exact run.le
  · rw [ShowControl.advanceClock_of_stop stop]

theorem ShowControl.advance_of_advances {c : ShowControl} (dt : Nat) (h : c.state.advances = true) :
    c.advance dt = { c.advanceClock dt with
      markLoss := c.markLoss.map (· + dt), endedTimer := c.endedTimer.map (· - dt) } := by
  rw [ShowControl.advance, if_pos h, ShowControl.advanceClock_eq]

theorem ShowControl.advance_of_stands {c : ShowControl} (dt : Nat) (h : c.state.advances = false) :
    c.advance dt = { c with markLoss := c.markLoss.map (· + dt), endedTimer := c.endedTimer.map (· - dt) } := by
  rw [ShowControl.advance, h]
  rfl

theorem ShowState.advances_iff (state : ShowState) : state.advances = true ↔ state = .running ∨ state = .coasting := by
  cases state <;> simp [ShowState.advances]

theorem advance_of_not_held {s : State} (dt : Nat) (h : s.loader.held = false) :
    advance dt s = { s with timing := s.timing.advance dt, show_ := s.show_.advance dt, line := s.line.advance dt
                            link := s.link.advance dt } := by
  rw [advance, h]
  rfl

theorem HouseLine.advance_eq (dt : Nat) (l : HouseLine) : l.advance dt = { l with
    quietMicros := if l.receiving = true ∧ l.busy = false then l.quietMicros + dt else l.quietMicros } := by
  by_cases quiet : l.receiving = true ∧ l.busy = false
  · simp [HouseLine.advance, quiet]
  · rw [if_neg quiet, HouseLine.advance, if_neg (by simpa using quiet)]

theorem ShowLink.advance_eq (dt : Nat) (k : ShowLink) : k.advance dt = { k with
    idleMicros := if k.framing = .idleWait ∨ k.framing = .inRecord then k.idleMicros + dt else k.idleMicros } := by
  unfold ShowLink.advance
  split
  · rw [if_pos (.inl ‹_›)]
  · rw [if_pos (.inr ‹_›)]
  · rw [if_neg (not_or.2 ⟨‹_›, ‹_›⟩)]

/-- Settles O4: the clock's total, in units of its fraction, grows by num a microsecond; and the four blocks that time moves. -/
theorem showClockLosesNothing : Obligations.ShowClockLosesNothing := by
  refine ⟨fun a b c den fraction range => ⟨ShowControl.advanceClock_add a b den, ShowControl.advanceClock_eq c a,
    ShowControl.advanceClock_le c a, fun far => ?_, fun short => ?_⟩, fun dt s => ⟨fun held => ?_, fun up free => ?_⟩⟩
  · have unit : 0 < 1000 * c.rate.den := by omega
    have reached : 2147483647 - c.clock ≤ (c.fraction + a * c.rate.num) / (1000 * c.rate.den) := by
      rw [Nat.le_div_iff_mul_le unit, Nat.mul_comm, Nat.mul_sub]
      omega
    have stop : Config.maxShowTime ≤ c.clock + (c.fraction + a * c.rate.num) / (1000 * c.rate.den) := by
      change 2147483647 ≤ _
      omega
    rw [ShowControl.advanceClock_of_stop stop]
    rfl
  · have unit : 0 < 1000 * c.rate.den := by omega
    have run : c.clock + (c.fraction + a * c.rate.num) / (1000 * c.rate.den) < Config.maxShowTime := by
      by_contra stop
      rw [ShowControl.advanceClock_of_stop (Nat.not_lt.1 stop)] at short
      exact absurd short (Nat.lt_irrefl _)
    rw [ShowControl.advanceClock_of_run run]
    refine ⟨?_, Nat.mod_lt _ unit⟩
    calc _ = 1000 * c.rate.den * c.clock + ((c.fraction + a * c.rate.num) % (1000 * c.rate.den)
          + 1000 * c.rate.den * ((c.fraction + a * c.rate.num) / (1000 * c.rate.den))) := by
          simp only [Nat.mul_add]
          omega
      _ = _ := by rw [Nat.mod_add_div, Nat.add_assoc]
  · exact advance_of_held (by simpa [Loader.held] using held)
  · rintro moved quiet idle rfl rfl rfl
    rw [advance_of_not_held dt (by simp [Loader.held, up, free])]
    have show_ : s.show_.advance dt = { (if s.show_.state = .running ∨ s.show_.state = .coasting
        then s.show_.advanceClock dt else s.show_) with
        markLoss := s.show_.markLoss.map (· + dt), endedTimer := s.show_.endedTimer.map (· - dt) } := by
      split
      · exact ShowControl.advance_of_advances dt ((ShowState.advances_iff _).2 ‹_›)
      · exact ShowControl.advance_of_stands dt (Bool.eq_false_iff.2 (mt (ShowState.advances_iff _).1 ‹_›))
    rw [show_, HouseLine.advance_eq, ShowLink.advance_eq]
    rfl

/-! ## The rate gate (R14) -/

theorem ShowControl.offerGate_of_empty {c : ShowControl} (t now : Nat) (h : c.gate = none) :
    c.offerGate t now = { c with gate := some { showTime := t, localTime := now } } := by
  simp [ShowControl.offerGate, h]

theorem ShowControl.offerGate_of_early {c : ShowControl} {a : ShowAnchor} (t : Nat) {now : Nat} (h : c.gate = some a)
    (early : now < a.localTime + 500000) : c.offerGate t now = c := by
  simp [ShowControl.offerGate, h, early]

theorem ShowControl.offerGate_of_measured {c : ShowControl} {a : ShowAnchor} {t now : Nat} {r : Rate} (h : c.gate = some a)
    (late : a.localTime + 500000 ≤ now) (hr : measuredRate (t - a.showTime) (now - a.localTime) = some r) :
    c.offerGate t now = { c with gate := some { showTime := t, localTime := now }, rate := r } := by
  simp [ShowControl.offerGate, h, Nat.not_lt.2 late, hr]

theorem ShowControl.offerGate_of_rejected {c : ShowControl} {a : ShowAnchor} {t now : Nat} (h : c.gate = some a)
    (late : a.localTime + 500000 ≤ now) (hr : measuredRate (t - a.showTime) (now - a.localTime) = none) :
    c.offerGate t now = { c with gate := some { showTime := t, localTime := now }, rate := { num := 1, den := 1 }
                                 rateRejects := bump c.rateRejects } := by
  simp [ShowControl.offerGate, h, Nat.not_lt.2 late, hr]

/-- A rate within the bounds is the quotient measured, in lowest terms. -/
theorem measuredRate_of_within {ms micros : Nat} (low : 95 * micros ≤ 100000 * ms) (high : 100000 * ms ≤ 105 * micros) :
    measuredRate ms micros =
      some { num := 1000 * ms / Nat.gcd (1000 * ms) micros, den := micros / Nat.gcd (1000 * ms) micros } := by
  rw [measuredRate, if_pos]
  simp only [Bool.and_eq_true, decide_eq_true_eq]
  omega

theorem measuredRate_of_outside {ms micros : Nat} (h : 100000 * ms < 95 * micros ∨ 105 * micros < 100000 * ms) :
    measuredRate ms micros = none := by
  rw [measuredRate, if_neg]
  simp only [Bool.and_eq_true, decide_eq_true_eq]
  omega

/-- Settles O52: the gate empty, young, or old enough to measure over. -/
theorem theRateGateMeasuresTheFilm : Obligations.TheRateGateMeasuresTheFilm := by
  refine fun t now c => ⟨ShowControl.offerGate_of_empty t now, fun a => ShowControl.offerGate_of_early t,
    fun a gate late => ?_⟩
  by_cases within : 95 * (now - a.localTime) ≤ 100000 * (t - a.showTime)
    ∧ 100000 * (t - a.showTime) ≤ 105 * (now - a.localTime)
  · rw [ShowControl.offerGate_of_measured gate late (measuredRate_of_within within.1 within.2)]
    have positive : 0 < now - a.localTime := by omega
    refine ⟨_, rfl, rfl, fun _ _ _ => ⟨?_, ?_, rfl⟩, fun out => ?_⟩
    · dsimp only
      rw [Nat.div_mul_right_comm (Nat.gcd_dvd_left _ _), Nat.mul_div_assoc _ (Nat.gcd_dvd_right _ _)]
    · exact Nat.div_pos (Nat.gcd_le_right _ positive) (Nat.gcd_pos_of_pos_right _ positive)
    · omega
  · rw [ShowControl.offerGate_of_rejected gate late (measuredRate_of_outside (by omega))]
    exact ⟨_, rfl, rfl, fun _ low high => absurd ⟨low, high⟩ within, fun _ => ⟨rfl, rfl⟩⟩

/-! ## Demand (R140, R141, R152, R154) -/

theorem settle_eq (joined : Bool) (p : PositionManager) : settle joined p = { p with
    holdDown := if joined ∧ 0 < p.demand ∧ p.demand < p.holdings.length ∧ p.claim = none then p.holdDown else 0
    starvation := if joined ∧ 0 < p.demand ∧ p.holdings = [] then p.starvation else 0
    starved := p.starved && joined && 0 < p.demand && p.holdings.isEmpty } := by
  simp [settle, holdDownRuns, starvationRuns, Bool.and_assoc]

theorem demandFor_of_shown {state : ShowState} (shown : state ≠ .noShow) (going : state ≠ .ended) (counts : PerTrack)
    (tracks : List Track) (most : Nat) :
    demandFor state counts tracks most = min ((cellsWanted counts tracks + 5) / 6) most := by
  cases state
  case noShow => exact absurd rfl shown
  case ended => exact absurd rfl going
  all_goals rfl

theorem cellsWanted_pos (counts : PerTrack) (tracks : List Track) : 1 ≤ cellsWanted counts tracks := by
  unfold cellsWanted
  omega

/-- A change of counts with demand worked out afresh (R141). -/
theorem State.recomputeDemand_with_counts (s : State) (counts : PerTrack) :
    State.recomputeDemand { s with pm := { s.pm with counts := counts } } =
      if s.pm.demand < demandFor s.show_.state counts s.show_.tracks s.cfg.maxHoldings then
        State.claimAttempt { s with pm := settle s.joined { s.pm with
          counts := counts, demand := demandFor s.show_.state counts s.show_.tracks s.cfg.maxHoldings, holdDown := 0 } }
      else { s with pm := settle s.joined { s.pm with
          counts := counts, demand := demandFor s.show_.state counts s.show_.tracks s.cfg.maxHoldings } } := rfl

/-- Settles O60: the cells wanted, six to a slot; and the three ways to demand, each with its own counts. -/
theorem demandFollowsTheShow : Obligations.DemandFollowsTheShow := by
  refine ⟨?_, ?_⟩
  · rintro state counts tracks most cells active rfl hcells
    have wanted : cells = cellsWanted counts tracks := hcells
    have positive := cellsWanted_pos counts tracks
    refine ⟨rfl, rfl, fun shown going room => ⟨(cells + 5) / 6, by omega, by omega, ?_, ?_⟩⟩
    · rw [demandFor_of_shown shown going, wanted]
    · rw [demandFor_of_shown shown going]
      omega
  · rintro s after counts demand settled rfl hsettled rfl
    have same : settled = settle s.joined := hsettled.trans (funext fun p => (settle_eq s.joined p).symm)
    rw [same, ← State.recomputeDemand_with_counts]
    refine ⟨?_, ?_, ?_⟩
    all_goals
      rintro rfl
      rfl

end Sys2Proof.Machine

/-! The statements on what a boundary without a composition does, on the roster's expiry and on the end of LISTEN. -/

namespace Sys2Proof.Machine

/-! ## The boundary (R100) -/

theorem State.frameBoundary_of_reached {s : State} (r : Bool) (h : s.timing.atBoundary = true) :
    s.frameBoundary r = State.boundaryWork r (s.timing.change == .restep) { s with timing := s.timing.nextFrame } :=
  if_pos h

/-- The state after a second tick, where the boundary is one. -/
def State.ticked (s : State) : State := if isSecondTick s.timing.frameNumber then s.secondTick else s

theorem State.boundaryWork_of_away {s : State} (r silent : Bool) (away : s.joined = false) :
    s.boundaryWork r silent = s.ticked := by
  have away' : s.ticked.joined = false := by
    unfold State.ticked
    split <;> exact away
  exact if_neg (Bool.eq_false_iff.1 away')

theorem State.boundaryWork_of_joined {s : State} (r silent : Bool) (joined : s.joined = true) :
    s.boundaryWork r silent =
      if r then (fun t : State => if silent then t.silence else t.compose)
        (s.ticked.scheduleAnnounce.managerBoundary s.timing.frameNumber)
      else (if silent then s.ticked.scheduleAnnounce.silence else s.ticked.scheduleAnnounce.compose).managerBoundary
        s.timing.frameNumber := by
  have joined' : s.ticked.joined = true := by
    unfold State.ticked
    split <;> exact joined
  exact if_pos joined'

/-- A tick changes the second count and the show link, no more. -/
theorem State.ticked_eq (s : State) : ∃ count link,
    s.ticked = { s with roster := { s.roster with secondCount := count }, link := link } := by
  unfold State.ticked
  split
  · exact ⟨_, _, rfl⟩
  · exact ⟨s.roster.secondCount, s.link, rfl⟩

/-- Settles O20: outside JOINED the boundary ends with the tick; in a silent frame the plan is emptied where it would be built. -/
theorem noCompositionOutsideJoinedOrInASilentFrame : Obligations.NoCompositionOutsideJoinedOrInASilentFrame := by
  intro dt r s u hu reached
  refine ⟨fun away => ⟨_, exec_of_effect hu ((State.frameBoundary_of_reached r reached).trans
      (State.boundaryWork_of_away (s := { u with timing := u.timing.nextFrame }) r _ away)), ?_⟩,
    fun joined restep => ⟨_, exec_of_effect hu ((State.frameBoundary_of_reached r reached).trans
      (State.boundaryWork_of_joined (s := { u with timing := u.timing.nextFrame }) r _ joined)), ?_⟩⟩
  · obtain ⟨count, link, h⟩ := State.ticked_eq { u with timing := u.timing.nextFrame }
    simp [h]
  · obtain ⟨count, link, h⟩ := State.ticked_eq { u with timing := u.timing.nextFrame }
    cases r
    all_goals simp [h, restep, State.silence]

/-! ## Roster expiry (R89) -/

/-- A count report changes the position manager and the line alone. -/
theorem State.countReport_eq (s : State) :
    s.countReport = { s with pm := s.countReport.pm, line := s.countReport.line } :=
  State.recomputeDemand_content { s with pm := { s.pm with counts := s.roster.counts } } s.link s.cues s.clips s.roster

@[simp] theorem State.countReport_counts (s : State) : s.countReport.pm.counts = s.roster.counts := by
  simp [State.countReport]

/-- Settles O24: the expired entries are those that the filter drops, and the report is the count report over the rest. -/
theorem oldRosterEntriesExpire : Obligations.OldRosterEntriesExpire := by
  intro dt s u hu issued tick old
  have kept : u.roster.entries.filter (fun e => !e.expired u.roster.secondCount)
      = u.roster.entries.filter (fun e => (u.roster.secondCount - e.lastRenewed).toNat < 60) := by
    refine List.filter_congr fun e _ => ?_
    rw [RosterEntry.expired, ← decide_not, decide_eq_decide, Nat.not_le]
    rfl
  have due : (u.timing.boundaryOpen && isSecondTick u.timing.frameNumber
      && u.roster.entries.any (RosterEntry.expired u.roster.secondCount)) = true := by
    obtain ⟨e, he, aged⟩ := old
    have expired : e.expired u.roster.secondCount = true := decide_eq_true aged
    simp only [issued, isSecondTick, tick, beq_self_eq_true, Bool.true_and]
    exact List.any_eq_true.2 ⟨e, he, expired⟩
  have report := State.countReport_eq { u with roster := { u.roster with
    entries := u.roster.entries.filter (fun e => (u.roster.secondCount - e.lastRenewed).toNat < 60) } }
  refine ⟨_, _, _, exec_of_effect hu ?_, rfl, report.symm, State.countReport_counts _, State.countReport_holdings _⟩
  rw [Instr.effect, State.rosterExpiry, if_pos due, kept]
  exact report

/-! ## The end of LISTEN (R173) -/

theorem State.mayClaim_of_claim {s : State} {c : Stamped} (h : s.pm.claim = some c) : s.mayClaim = false := by
  simp [State.mayClaim, h]

theorem State.claimAttempt_of_not_mayClaim {s : State} (h : s.mayClaim = false) : s.claimAttempt = s := by
  simp [State.claimAttempt, h]

/-- A second attempt finds the claim that the first has issued, or again nothing to claim. -/
theorem State.claimAttempt_idem (s : State) : s.claimAttempt.claimAttempt = s.claimAttempt := by
  obtain h | ⟨p, h⟩ := s.claimAttempt_cases
  · rw [h, h]
  · refine State.claimAttempt_of_not_mayClaim (State.mayClaim_of_claim (c := ⟨p, s.timing.boundaryFrame⟩) ?_)
    simp [h]

/-- The choice of a timing, with the attempt that a new timing state may bring, followed by an attempt of its own. -/
theorem State.claimAttempt_setTiming (t : Timing) (s : State) :
    (s.setTiming t).claimAttempt = State.claimAttempt { s with timing := t } := by
  unfold State.setTiming
  dsimp only
  split
  · exact State.claimAttempt_idem _
  · rfl

theorem State.listenEnd_of_due {s : State} (station : s.loader.station = .listen) (inBoundary : s.timing.inBoundary = true)
    (due : 150 ≤ s.timing.boundaryFrame.toNat) :
    s.listenEnd = State.claimAttempt { s with
      loader := { s.loader with station := .joined }, timing := s.timing.endListen s.peers s.holds } := by
  have due' : Config.listenFrames ≤ s.timing.boundaryFrame.toNat := due
  simp only [State.listenEnd, station, inBoundary, due', beq_self_eq_true, decide_true, Bool.and_self, if_true]
  exact State.claimAttempt_setTiming _ _

/-- Following another station, or none, touches neither the frame timer nor the timing state. -/
theorem Timing.follow_eq (n : Option Nat) (t : Timing) :
    t.follow n = { t with followed := n, gate := (t.follow n).gate, lockCount := (t.follow n).lockCount } := by
  unfold Timing.follow
  split
  · rename_i same
    rw [← beq_iff_eq.1 same]
  · rfl

theorem Timing.decide_step {t : Timing} (h : t.change = .none) :
    t.decide_ false = { t with state := .acquire, change := if t.atBoundary then .stepHeld else .step } := by
  cases t
  cases h
  rfl

/-- Settles O26: the choice at the end of LISTEN, with one claim attempt behind it. -/
theorem listenEndsInJoined : Obligations.ListenEndsInJoined := by
  intro dt s u hu station inBoundary due noChange nothing
  have holds : u.holds = false := by simp [State.holds, nothing]
  have effect : (Instr.listenEnd dt).effect u = _ := State.listenEnd_of_due station inBoundary due
  refine ⟨_, exec_of_effect hu effect, ?_⟩
  have timing : ∀ t : Timing, t = u.timing.endListen u.peers u.holds →
      t.frameNumber = u.timing.frameNumber ∧ t.frameElapsed = u.timing.frameElapsed ∧ t.trim = u.timing.trim
      ∧ (∀ n, lowestEligible u.peers = some n → t.state = .acquire ∧ t.followed = some n
            ∧ t.change = (if u.timing.atBoundary then .stepHeld else .step))
      ∧ (lowestEligible u.peers = none → t.state = .pace ∧ t.followed = none ∧ t.change = .none) := by
    rintro t rfl
    rw [holds]
    cases lowest : lowestEligible u.peers with
    | none =>
      simp only [Timing.endListen, lowest, Timing.enterPace]
      rw [Timing.follow_eq]
      simp [noChange]
    | some n =>
      simp only [Timing.endListen, lowest]
      rw [Timing.follow_eq, Timing.decide_step (by exact noChange)]
      exact ⟨rfl, rfl, rfl, fun m h => ⟨rfl, h, rfl⟩, nofun⟩
  obtain ⟨number, elapsed, trim, some_, none_⟩ := timing _ rfl
  refine ⟨by simp, by simp, by simp, by simp, by simp, by simp, by simp, by simpa using number, by simpa using elapsed,
    by simpa using trim, by simpa using some_, by simpa using none_, fun lowest alone => ?_⟩
  have pace : u.timing.endListen u.peers u.holds = { u.timing with state := .pace } := by
    simp [Timing.endListen, lowest, Timing.enterPace, Timing.follow, alone]
  rw [pace]

end Sys2Proof.Machine

/-! The timing unit and the show clock stay legal at every step. -/

namespace Sys2Proof.Machine

/-- A command that can put the station at cold start does so, or does nothing. -/
theorem effect_of_coldStart {P : State → Prop} {s : State} (h : P s) (cold : ∀ s' : State, P s'.coldStart) (width : Nat) :
    P s.powerOn ∧ P s.powerLoss ∧ P (s.restartLine width) ∧ P s.restartLineReleased := by
  refine ⟨?_, cold _, ?_, ?_⟩
  · unfold State.powerOn
    split
    · exact h
    · exact cold _
  · unfold State.restartLine
    split
    · exact cold _
    · exact h
  · unfold State.restartLineReleased
    split
    · exact cold _
    · exact h

/-! ## The adoption taken apart (R109, R110) -/

/-- What the station adopts. -/
def State.adopted (s : State) : Adopted :=
  adoptedFrom s.timing.frameNumber (s.timing.followed.bind (findPeer s.peers))

/-- The state with its timing adopted and everything dated carried into it. -/
def State.carried (s : State) : State :=
  let t := State.managerAdopt s.adopted.difference { s with timing := s.timing.adopt s.adopted }
  { t with
    peers := s.peers.map (PeerRecord.atAdoption (s.timing.change == .restepSilent) s.adopted)
    cues := s.cues.adopt s.adopted.difference
    line := t.line.adopt s.adopted.difference }

theorem State.adopt_eq (r : Bool) (s : State) : s.adopt r =
    (fun t : State => if s.adopted.phase == 0 then t.boundaryWork r false else t.scheduleAnnounce)
      (if s.timing.change == .restepSilent then s.carried.reviewTiming.handOver .announce else s.carried) := by
  unfold State.adopt State.carried State.adopted
  dsimp only
  simp only [State.managerAdopt_peers, State.managerAdopt_cues]

/-- What holds once everything dated is carried over holds after the adoption, if the review of a restep, the work at a boundary
and a scheduled ANNOUNCE keep it. -/
theorem State.adopt_induct {P : State → Prop} (r : Bool) {s : State} (carried : P s.carried)
    (review : ∀ t : State, P t → P (t.reviewTiming.handOver .announce)) (work : ∀ t : State, P t → P (t.boundaryWork r false))
    (schedule : ∀ t : State, P t → P t.scheduleAnnounce) : P (s.adopt r) := by
  rw [State.adopt_eq]
  dsimp only
  split
  · refine work _ ?_
    split
    · exact review _ carried
    · exact carried
  · refine schedule _ ?_
    split
    · exact review _ carried
    · exact carried

end Sys2Proof.Machine

namespace Sys2Proof.Machine

/-! ## The timing unit (R99, R103, R107) -/

/-- Trim and lock count lie in their ranges. -/
def Timing.ranged (t : Timing) : Prop := -200 ≤ t.trim ∧ t.trim ≤ 200 ∧ t.lockCount ≤ 3

/-- What a legal state says of the timing unit of a station with this number. -/
def Timing.legal (own : Nat) (t : Timing) : Prop :=
  t.ranged ∧ (t.followed.isSome = true ↔ t.state = .acquire ∨ t.state = .locked)
    ∧ (t.state = .locked → ∀ n, t.followed = some n → n < own)

theorem State.timingLegal_iff (s : State) :
    s.timingLegal ↔ s.timing.legal s.cfg.number ∧ (s.loader.station.receives = false → s.timing.state = .listen) := by
  simp only [State.timingLegal, Timing.legal, Timing.ranged, and_assoc]

section
variable {own : Nat} {t : Timing}

theorem Timing.legal.ranged (h : t.legal own) : t.ranged := h.1

theorem Timing.follow_ranged (n : Option Nat) (h : t.ranged) : (t.follow n).ranged := by
  unfold Timing.follow
  split
  · exact h
  · exact ⟨h.1, h.2.1, Nat.zero_le _⟩

theorem Timing.follow_followed (n : Option Nat) (t : Timing) : (t.follow n).followed = n := by
  rw [Timing.follow_eq]

/-- A timing that follows a station in ACQUIRE. -/
theorem Timing.legal_of_acquire (h : t.ranged) (state : t.state = .acquire) (followed : t.followed.isSome = true) :
    t.legal own := by
  refine ⟨h, ?_, ?_⟩
  · simp [state, followed]
  · rw [state]
    nofun

/-- A timing that follows no station, in LISTEN or PACE. -/
theorem Timing.legal_of_alone (h : t.ranged) (state : t.state = .listen ∨ t.state = .pace) (followed : t.followed = none) :
    t.legal own := by
  refine ⟨h, ?_, ?_⟩
  · obtain state | state := state <;> simp [state, followed]
  · rw [followed]
    nofun

/-- A timing locked on a station with a lower number. -/
theorem Timing.legal_of_locked (h : t.ranged) (state : t.state = .locked) {n : Nat} (followed : t.followed = some n)
    (below : n < own) : t.legal own := by
  refine ⟨h, ?_, fun _ m hm => ?_⟩
  · simp [state, followed]
  · rw [followed] at hm
    cases hm
    exact below

theorem Timing.decide_eq (holds : Bool) (t : Timing) :
    t.decide_ holds = { t with state := .acquire, change := (t.decide_ holds).change } := by
  unfold Timing.decide_
  dsimp only
  (repeat' split) <;> rfl

theorem Timing.decide_legal (holds : Bool) (h : t.ranged) (followed : t.followed.isSome = true) :
    (t.decide_ holds).legal own := by
  rw [Timing.decide_eq]
  exact Timing.legal_of_acquire h rfl followed

theorem Timing.acquire_legal (peers : List PeerRecord) (holds : Bool) (n : Nat) (h : t.ranged) :
    (t.acquire_ peers holds n).legal own := by
  have ranged : Timing.ranged { t.follow (some n) with state := .acquire } := Timing.follow_ranged _ h
  have followed : (t.follow (some n)).followed.isSome = true := by rw [Timing.follow_followed]; rfl
  unfold Timing.acquire_
  dsimp only
  split
  · exact Timing.decide_legal holds ranged followed
  · exact Timing.legal_of_acquire ranged rfl followed

theorem Timing.enterPace_legal (h : t.ranged) : t.enterPace.legal own :=
  Timing.legal_of_alone (Timing.follow_ranged _ h) (.inr rfl) (Timing.follow_followed _ _)

theorem Timing.chooseAny_legal (peers : List PeerRecord) (holds : Bool) (h : t.ranged) :
    (t.chooseAny peers holds).legal own := by
  unfold Timing.chooseAny
  split
  · exact Timing.acquire_legal peers holds _ h
  · exact Timing.enterPace_legal h

theorem lowestEligibleBelow_lt {peers : List PeerRecord} {n : Nat} (h : lowestEligibleBelow peers own = some n) : n < own := by
  obtain ⟨r, hr, rfl⟩ := Option.map_eq_some_iff.1 h
  have member := mem_of_firstBy hr
  simp only [List.mem_filter, decide_eq_true_eq] at member
  exact member.1.2

theorem Timing.followLocked_legal {n : Nat} (h : t.ranged) (below : n < own) :
    Timing.legal own { t.follow (some n) with state := .locked } :=
  Timing.legal_of_locked (Timing.follow_ranged _ h) rfl (Timing.follow_followed _ _) below

theorem Timing.chooseLocked_legal (peers : List PeerRecord) (holds : Bool) (h : t.ranged) (locked : t.state = .locked) :
    (t.chooseLocked own peers holds).legal own := by
  unfold Timing.chooseLocked
  split
  · have below := lowestEligibleBelow_lt ‹_›
    (repeat' split)
    · exact Timing.legal_of_locked h locked (beq_iff_eq.1 ‹_›) below
    · exact Timing.acquire_legal peers holds _ h
    · exact Timing.followLocked_legal h below
  · exact Timing.enterPace_legal h

theorem Timing.review_legal (peers : List PeerRecord) (holds : Bool) (h : t.legal own) :
    (t.review own peers holds).legal own := by
  unfold Timing.review
  split
  · exact h
  · split
    · split
      · exact Timing.acquire_legal peers holds _ h.ranged
      · exact Timing.followLocked_legal h.ranged (lowestEligibleBelow_lt ‹_›)
    · exact h
  · split
    · exact Timing.chooseAny_legal peers holds h.ranged
    · (repeat' split)
      · exact Timing.acquire_legal peers holds _ h.ranged
      · exact h
      · exact h
  · exact Timing.chooseLocked_legal peers holds h.ranged ‹_›

theorem Timing.review_of_listen (own : Nat) (peers : List PeerRecord) (holds : Bool) (h : t.state = .listen) :
    t.review own peers holds = t := by
  simp [Timing.review, h]

theorem Timing.endListen_legal (peers : List PeerRecord) (holds : Bool) (h : t.ranged) :
    (t.endListen peers holds).legal own := by
  unfold Timing.endListen
  split
  · exact Timing.decide_legal holds (Timing.follow_ranged _ h) (by rw [Timing.follow_followed]; rfl)
  · exact Timing.enterPace_legal h

theorem newTrim_range (offset anchor trim : Int) : -200 ≤ newTrim offset anchor trim ∧ newTrim offset anchor trim ≤ 200 := by
  unfold newTrim
  omega

/-- The gate moves trim and lock count within their ranges, and neither state nor followed station. -/
theorem Timing.feedGate_ranged (offset : Int) (frame : FrameNo) (h : t.ranged) :
    (t.feedGate offset frame).ranged ∧ (t.feedGate offset frame).state = t.state
      ∧ (t.feedGate offset frame).followed = t.followed := by
  obtain ⟨low, high, lock⟩ := h
  unfold Timing.feedGate
  dsimp only
  split
  · exact ⟨⟨low, high, lock⟩, rfl, rfl⟩
  · split
    · have trim := newTrim_range offset ‹FrameAnchor›.offset t.trim
      refine ⟨⟨trim.1, trim.2, ?_⟩, rfl, rfl⟩
      dsimp only
      split <;> omega
    · exact ⟨⟨low, high, Nat.zero_le _⟩, rfl, rfl⟩

theorem Timing.feedGate_legal (offset : Int) (frame : FrameNo) (h : t.legal own) : (t.feedGate offset frame).legal own := by
  obtain ⟨ranged, state, followed⟩ := Timing.feedGate_ranged offset frame h.ranged
  refine ⟨ranged, ?_⟩
  rw [state, followed]
  exact h.2

theorem Timing.lockIn_legal (peers : List PeerRecord) (holds : Bool) (h : t.legal own) :
    (t.lockIn own peers holds).legal own := by
  unfold Timing.lockIn
  split
  · exact Timing.chooseLocked_legal peers holds h.ranged rfl
  · exact h

theorem Timing.hearFollowed_legal (peers : List PeerRecord) (holds : Bool) (n : Nat) (offset : Int) (frame : FrameNo)
    (h : t.legal own) : (t.hearFollowed own peers holds n offset frame).legal own := by
  unfold Timing.hearFollowed
  dsimp only
  have locked := Timing.lockIn_legal peers holds (Timing.feedGate_legal offset frame h)
  split
  · split
    · rename_i strayed
      simp only [Bool.and_eq_true, beq_iff_eq] at strayed
      exact Timing.decide_legal holds locked.ranged (by simp [strayed])
    · exact locked
  · exact h

/-- A station in LISTEN follows no one and hears no one. -/
theorem Timing.hearFollowed_of_listen (peers : List PeerRecord) (holds : Bool) (n : Nat) (offset : Int) (frame : FrameNo)
    (h : t.legal own) (listen : t.state = .listen) : t.hearFollowed own peers holds n offset frame = t := by
  have alone : t.followed = none := by
    have following := h.2.1
    simpa [listen] using following
  simp [Timing.hearFollowed, alone]

theorem Timing.adopt_legal (a : Adopted) (h : t.legal own) : (t.adopt a).legal own := by
  obtain ⟨⟨low, high, -⟩, following, locked⟩ := h
  cases followed : t.followed with
  | some n => exact Timing.legal_of_acquire ⟨low, high, Nat.zero_le _⟩ (by simp [Timing.adopt, followed]) (by simp [Timing.adopt, followed])
  | none =>
    refine ⟨⟨low, high, Nat.zero_le _⟩, ?_, ?_⟩
    · simpa [Timing.adopt, followed] using following
    · simp [Timing.adopt, followed]

theorem Timing.adopt_of_listen (a : Adopted) (h : t.legal own) (listen : t.state = .listen) : (t.adopt a).state = .listen := by
  have alone : t.followed = none := by
    have following := h.2.1
    simpa [listen] using following
  simp [Timing.adopt, alone, listen]

end

/-- The timing unit replaced by a legal one, where LISTEN stays LISTEN. -/
theorem State.timingLegal_of_timing {s t : State} (loader : t.loader = s.loader) (h : s.timingLegal)
    (legal : t.timing.legal s.cfg.number) (listen : s.timing.state = .listen → t.timing.state = .listen) : t.timingLegal := by
  rw [State.timingLegal_iff] at h ⊢
  rw [State.cfg, loader]
  exact ⟨legal, fun deaf => listen (h.2 deaf)⟩

theorem State.timingLegal_of_same {s t : State} (loader : t.loader = s.loader) (timing : t.timing = s.timing)
    (h : s.timingLegal) : t.timingLegal :=
  State.timingLegal_of_timing loader h (timing ▸ (s.timingLegal_iff.1 h).1) (fun listen => timing ▸ listen)

theorem coldStart_timingLegal (s : State) : s.coldStart.timingLegal :=
  (State.timingLegal_iff _).2 ⟨Timing.legal_of_alone ⟨(by decide : (-200 : Int) ≤ 0), (by decide : (0 : Int) ≤ 200),
    Nat.zero_le _⟩ (.inl rfl) rfl, fun _ => rfl⟩

theorem State.reviewTiming_timingLegal {s : State} (h : s.timingLegal) : s.reviewTiming.timingLegal := by
  refine State.timingLegal_of_timing (by simp) h ?_ fun listen => ?_
  · rw [State.reviewTiming, State.setTiming_timing]
    exact Timing.review_legal _ _ (s.timingLegal_iff.1 h).1
  · rw [State.reviewTiming, State.setTiming_timing, Timing.review_of_listen _ _ _ listen, listen]

theorem State.timingHears_timingLegal (m : Sender) (isAnnounce : Bool) (offset : Int) (before : Option PeerRecord) {s : State}
    (h : s.timingLegal) : (s.timingHears m isAnnounce offset before).timingLegal := by
  have legal := (s.timingLegal_iff.1 h).1
  have heard : ∀ t : Timing, t = (if isAnnounce then
      s.timing.hearFollowed s.cfg.number s.peers s.holds m.number offset m.frame else s.timing) →
      t.legal s.cfg.number ∧ (s.timing.state = .listen → t.state = .listen) := by
    rintro t rfl
    split
    · exact ⟨Timing.hearFollowed_legal _ _ _ _ _ legal,
        fun listen => by rw [Timing.hearFollowed_of_listen _ _ _ _ _ legal listen, listen]⟩
    · exact ⟨legal, id⟩
  refine State.timingLegal_of_timing (by simp) h ?_ fun listen => ?_
  · simp only [State.timingHears, State.setTiming_timing]
    split
    · exact Timing.review_legal _ _ (heard _ rfl).1
    · exact (heard _ rfl).1
  · simp only [State.timingHears, State.setTiming_timing]
    split
    · rw [Timing.review_of_listen _ _ _ ((heard _ rfl).2 listen)]
      exact (heard _ rfl).2 listen
    · exact (heard _ rfl).2 listen

/-- The choice at the end of LISTEN, in a station state in which the station receives. -/
theorem State.setTiming_endListen_timingLegal {s t : State} (h : s.timingLegal) (cfg : t.loader.config = s.loader.config)
    (receives : t.loader.station.receives = true) (peers : List PeerRecord) (holds : Bool) :
    (t.setTiming (s.timing.endListen peers holds)).timingLegal := by
  have same : (t.setTiming (s.timing.endListen peers holds)).cfg = s.cfg := by simp [State.cfg, cfg]
  rw [State.timingLegal_iff, State.setTiming_timing, same]
  refine ⟨Timing.endListen_legal _ _ (s.timingLegal_iff.1 h).1.ranged, fun deaf => ?_⟩
  rw [State.setTiming_loader, receives] at deaf
  cases deaf

theorem State.ownNumberHeard_timingLegal {s : State} (h : s.timingLegal) : s.ownNumberHeard.timingLegal := by
  unfold State.ownNumberHeard
  split
  · rename_i joined
    rw [State.timingLegal_iff] at h ⊢
    exact ⟨by simpa [State.cfg] using h.1, by simp [StationState.receives]⟩
  · exact State.timingLegal_of_same (by simp) (by simp)
      (State.setTiming_endListen_timingLegal (t := { s with loader := { s.loader with station := .duplicateFault } }) h rfl
        rfl s.peers s.holds)
  · exact h

theorem State.carried_timingLegal {s : State} (h : s.timingLegal) : s.carried.timingLegal := by
  refine State.timingLegal_of_timing (by simp [State.carried]) h ?_ fun listen => ?_
  · simpa [State.carried] using Timing.adopt_legal s.adopted (s.timingLegal_iff.1 h).1
  · simpa [State.carried] using Timing.adopt_of_listen s.adopted (s.timingLegal_iff.1 h).1 listen

theorem State.adopt_timingLegal (r : Bool) {s : State} (h : s.timingLegal) : (s.adopt r).timingLegal :=
  State.adopt_induct (P := State.timingLegal) r (State.carried_timingLegal h)
    (fun _ h => State.timingLegal_of_same (by simp) (by simp) (State.reviewTiming_timingLegal h))
    (fun _ => State.timingLegal_of_same (by simp) (by simp)) (fun _ => State.timingLegal_of_same (by simp) (by simp))

theorem State.listenEnd_timingLegal {s : State} (h : s.timingLegal) : s.listenEnd.timingLegal := by
  unfold State.listenEnd
  split
  · exact State.timingLegal_of_same (by simp) (by simp)
      (State.setTiming_endListen_timingLegal (t := { s with loader := { s.loader with station := .joined } }) h rfl rfl
        s.peers s.holds)
  · exact h

theorem State.configReadComplete_timingLegal (image : List Byte) {s : State} (h : s.timingLegal) :
    (s.configReadComplete image).timingLegal := by
  have ⟨legal, listen⟩ := s.timingLegal_iff.1 h
  unfold State.configReadComplete
  split
  · rename_i reading
    have deaf : s.timing.state = .listen := by
      refine listen ?_
      simp only [Loader.reading, Bool.and_eq_true, beq_iff_eq] at reading
      rw [reading.2]
      rfl
    have alone : s.timing.followed = none := by
      have following := legal.2.1
      simpa [deaf] using following
    split
    · exact (State.timingLegal_iff _).2 ⟨Timing.legal_of_alone legal.ranged (.inl deaf) alone, fun _ => deaf⟩
    · exact (State.timingLegal_iff _).2 ⟨legal, fun _ => deaf⟩
  · exact h

theorem effect_timingLegal (c : Instr) {s : State} (h : s.timingLegal) : (c.effect s).timingLegal := by
  refine effect_induct c h (fun r => ?_) (fun _ => ?_) (fun m _ _ _ => ?_) (fun hc hm => ?_)
  · exact State.timingLegal_of_same (by cases r <;> simp [Record.taken]) (by cases r <;> simp [Record.taken]) h
  · exact State.ownNumberHeard_timingLegal (State.timingLegal_of_same rfl rfl h)
  · have heard : (s.heard m (isAnnounceCommand c) (messageUpdate s.timing.frameNumber c)).timingLegal :=
      State.timingHears_timingLegal _ _ _ _ (State.timingLegal_of_same rfl rfl h)
    exact State.timingLegal_of_same (by cases c <;> simp [messageReaction]) (by cases c <;> simp [messageReaction]) heard
  · cases c
    case powerOn => exact (effect_of_coldStart h coldStart_timingLegal 0).1
    case powerLoss => exact coldStart_timingLegal _
    case restartLine _ width => exact (effect_of_coldStart h coldStart_timingLegal width).2.2.1
    case restartLineReleased => exact (effect_of_coldStart h coldStart_timingLegal 0).2.2.2
    case configReadComplete image => exact State.configReadComplete_timingLegal image h
    case frameBoundary =>
      simp only [Instr.effect, State.frameBoundary]
      split
      · exact State.timingLegal_of_same (s := { s with timing := s.timing.nextFrame }) (by simp) (by simp)
          (State.timingLegal_of_timing rfl h (s.timingLegal_iff.1 h).1 id)
      · exact h
    case peerRecordExpiry =>
      simp only [Instr.effect, State.peerRecordExpiry]
      split
      · exact State.reviewTiming_timingLegal (State.timingLegal_of_same rfl rfl h)
      · exact h
    case listenEnd => exact State.listenEnd_timingLegal h
    case adoption =>
      simp only [Instr.effect, State.applyAdoption]
      split
      · exact State.adopt_timingLegal _ h
      · exact h
    case announce | claim | object | release => cases hm
    case showLoad | showEnd | showClear | mark | tableLoad | cue | cueCancel | clipHead | clipData | clipCancel | eventAck =>
      cases hc
    all_goals exact State.timingLegal_of_same (by simp [Instr.effect]) (by simp [Instr.effect]) h

/-! ## The show clock (R8, R10 to R14) -/

/-- The show clock lies in its range, and its fraction is less than a millisecond. -/
def ShowControl.clockLegal (c : ShowControl) : Prop :=
  c.clock ≤ Config.maxShowTime ∧ 0 < c.rate.den ∧ c.fraction < 1000 * c.rate.den

theorem State.clockLegal_iff (s : State) : s.clockLegal ↔ s.show_.clockLegal := Iff.rfl

theorem State.clockLegal_of_same {s t : State} (h : t.show_ = s.show_) (legal : s.clockLegal) : t.clockLegal := by
  rw [State.clockLegal_iff, h]
  exact legal

theorem ShowControl.advanceClock_clockLegal (dt : Nat) {c : ShowControl} (h : c.clockLegal) :
    (c.advanceClock dt).clockLegal := by
  obtain ⟨-, den, -⟩ := h
  refine ⟨ShowControl.advanceClock_le c dt, ?_, ?_⟩
  · rw [ShowControl.advanceClock_eq]
    exact den
  · unfold ShowControl.advanceClock
    dsimp only
    split
    · exact Nat.mul_pos (by decide) den
    · exact Nat.mod_lt _ (Nat.mul_pos (by decide) den)

theorem ShowControl.advance_clockLegal (dt : Nat) {c : ShowControl} (h : c.clockLegal) : (c.advance dt).clockLegal := by
  unfold ShowControl.advance
  dsimp only
  split
  · exact ShowControl.advanceClock_clockLegal dt h
  · exact h

theorem ShowControl.place_clockLegal {t : Nat} {c : ShowControl} (range : t ≤ Config.maxShowTime) (h : c.clockLegal) :
    (c.place t).clockLegal := ⟨range, h.2.1, Nat.mul_pos (by decide) h.2.1⟩

theorem measuredRate_den_pos {ms micros : Nat} {r : Rate} (positive : 0 < micros) (h : measuredRate ms micros = some r) :
    0 < r.den := by
  unfold measuredRate at h
  dsimp only at h
  split at h
  · cases h
    exact Nat.div_pos (Nat.gcd_le_right _ positive) (Nat.gcd_pos_of_pos_right _ positive)
  · cases h

/-- The rate that the gate sets has a denominator; with the fraction at 0 the clock stays legal. -/
theorem ShowControl.offerGate_clockLegal (t now : Nat) {c : ShowControl} (whole : c.fraction = 0) (h : c.clockLegal) :
    (c.offerGate t now).clockLegal := by
  obtain ⟨range, den, fraction⟩ := h
  cases gate : c.gate with
  | none =>
    rw [ShowControl.offerGate_of_empty t now gate]
    exact ⟨range, den, fraction⟩
  | some a =>
    obtain early | late := Nat.lt_or_ge now (a.localTime + 500000)
    · rw [ShowControl.offerGate_of_early t gate early]
      exact ⟨range, den, fraction⟩
    · cases measured : measuredRate (t - a.showTime) (now - a.localTime) with
      | none =>
        rw [ShowControl.offerGate_of_rejected gate late measured]
        exact ⟨range, Nat.one_pos, by rw [whole]; exact (by decide : 0 < 1000 * 1)⟩
      | some r =>
        rw [ShowControl.offerGate_of_measured gate late measured]
        have positive := measuredRate_den_pos (by omega) measured
        exact ⟨range, positive, by rw [whole]; exact Nat.mul_pos (by decide) positive⟩

theorem ShowControl.applyRunning_clockLegal (t now : Nat) (running : Bool) {c : ShowControl} (whole : c.fraction = 0)
    (h : c.clockLegal) : (c.applyRunning t now running).clockLegal := by
  unfold ShowControl.applyRunning
  split
  · exact ShowControl.offerGate_clockLegal t now whole h
  · exact h

/-- A MARK sets the clock to its time, whichever way it is taken. -/
theorem State.markClock_show (t : Nat) (s : State) : ∃ gate jumps,
    (s.markClock t).show_ = { s.show_.place t with gate := gate, jumps := jumps } := by
  unfold State.markClock
  split
  · exact ⟨s.show_.gate, s.show_.jumps, by simp [ShowControl.place]⟩
  · exact ⟨none, _, by simp [State.jumpTo]; rfl⟩
  · split
    · exact ⟨s.show_.gate, s.show_.jumps, rfl⟩
    · exact ⟨none, _, by simp [State.jumpTo]; rfl⟩

theorem State.takeMark_clockLegal {t : Nat} (running : Bool) {s : State} (range : t ≤ Config.maxShowTime) (h : s.clockLegal) :
    (s.takeMark t running).clockLegal := by
  obtain ⟨gate, jumps, placed⟩ := State.markClock_show t { s with show_ := { s.show_ with markLoss := some 0 } }
  refine State.clockLegal_of_same (s := { s with show_ := _ }) (by simp [State.takeMark]; rfl) ?_
  rw [placed]
  exact ShowControl.applyRunning_clockLegal _ _ _ rfl
    (ShowControl.place_clockLegal (c := { s.show_ with markLoss := some 0 }) range h)

theorem Record.taken_clockLegal (r : Record) {s : State} (h : s.clockLegal) : (r.taken s).clockLegal := by
  cases r with
  | showLoad session time tracks =>
    simp only [Record.taken, State.showLoad]
    split
    · exact h
    · rename_i good
      refine State.clockLegal_of_same (s := { s with show_ := s.show_.load session time tracks }) (by simp) ⟨?_, ?_, ?_⟩
      · simp only [showLoadBad, Bool.or_eq_true, decide_eq_true_eq, not_or, Nat.not_lt] at good
        exact good.1.2
      · exact Nat.one_pos
      · exact (by decide : 0 < 1000 * 1)
  | showEnd =>
    simp only [Record.taken, State.showEnd]
    split
    · exact State.clockLegal_of_same (s := { s with show_ := s.show_.endShow }) (by simp) h
    · exact h
  | showClear => exact State.clockLegal_of_same (s := { s with show_ := s.show_.clear }) (by simp [Record.taken, State.clearShow]) h
  | mark t running =>
    simp only [Record.taken, State.mark]
    (repeat' split)
    · exact h
    · exact h
    · exact State.takeMark_clockLegal running (Nat.not_lt.1 ‹_›) h
  | tableLoad table first values =>
    simp only [Record.taken, State.tableLoad]
    split <;> exact h
  | _ => exact State.clockLegal_of_same (by simp [Record.taken]) h

theorem coldStart_clockLegal (s : State) : s.coldStart.clockLegal :=
  ⟨Nat.zero_le _, Nat.one_pos, (by decide : 0 < 1000 * 1)⟩

theorem effect_clockLegal (c : Instr) {s : State} (h : s.clockLegal) : (c.effect s).clockLegal := by
  refine effect_induct c h (fun r => Record.taken_clockLegal r h) (fun _ => State.clockLegal_of_same (by simp) h)
    (fun m _ _ _ => State.clockLegal_of_same (by cases c <;> simp [messageReaction, State.heard]) h) (fun hc hm => ?_)
  cases c
  case powerOn => exact (effect_of_coldStart h coldStart_clockLegal 0).1
  case powerLoss => exact coldStart_clockLegal _
  case restartLine _ width => exact (effect_of_coldStart h coldStart_clockLegal width).2.2.1
  case restartLineReleased => exact (effect_of_coldStart h coldStart_clockLegal 0).2.2.2
  case endedTimerExpiry =>
    simp only [Instr.effect, State.endedTimerExpiry]
    split
    · exact Record.taken_clockLegal .showClear h
    · exact h
  case marksLost =>
    simp only [Instr.effect, State.marksLost]
    split
    · exact State.clockLegal_of_same (s := { s with show_ := { s.show_ with state := .coasting } }) (by simp) h
    · exact h
  case frozen =>
    simp only [Instr.effect, State.freeze]
    split
    · exact State.clockLegal_of_same
        (s := { s with show_ := { s.show_ with state := .frozen, gate := none, markLoss := none } }) (by simp) h
    · exact h
  case announce | claim | object | release => cases hm
  case showLoad | showEnd | showClear | mark | tableLoad | cue | cueCancel | clipHead | clipData | clipCancel | eventAck =>
    cases hc
  all_goals exact State.clockLegal_of_same (by simp [Instr.effect]) h

/-- Settles O13: the two invariants are about blocks of their own, each kept by every effect. -/
theorem stepKeepsTimingAndClockLegal : Obligations.StepKeepsTimingAndClockLegal := by
  refine fun s t timing clock h => ⟨?_, ?_⟩
  · refine step_keeps (P := State.timingLegal) (fun _ _ h => h) (fun dt s h => ?_) (fun c s => effect_timingLegal c)
      (fun s h => ?_) timing h
    · unfold advance
      split
      · exact h
      · exact State.timingLegal_of_timing rfl h (s.timingLegal_iff.1 h).1 id
    · exact (State.timingLegal_iff _).2 (by simpa using s.timingLegal_iff.1 h)
  · refine step_keeps (P := State.clockLegal) (fun _ _ h => h) (fun dt s h => ?_) (fun c s => effect_clockLegal c)
      (fun s h => State.clockLegal_of_same (by simp) h) clock h
    unfold advance
    split
    · exact h
    · exact ShowControl.advance_clockLegal dt h

end Sys2Proof.Machine

/-! What the position manager does is made of a few moves: a rule about the state that the moves keep, all of it keeps. -/

namespace Sys2Proof.Machine

/-- The position manager with fewer positions or the same ones, an eviction or an abandoned claim counted or not. -/
structure FewerPositions (p q : PositionManager) : Prop where
  positions : q.positions.Sublist p.positions
  evictions : q.evictions = p.evictions ∨ q.evictions = bump p.evictions
  abandoned : q.abandoned = p.abandoned ∨ q.abandoned = bump p.abandoned

/-- The moves of the position manager keep a property of the state. -/
structure ManagerKeeps (Q : State → Prop) : Prop where
  fewer : ∀ {s : State} {p : PositionManager}, FewerPositions s.pm p → Q s → Q { s with pm := p }
  claim : ∀ {s : State} {p : Position}, s.mayClaim = true → s.isCandidate p = true → Q s → Q (s.issueClaim p)
  hand : ∀ {s : State} (b : WaitingBody), Q s → Q (s.handOver b)
  withdraw : ∀ {s : State} (c : Stamped), Q s → Q { s with line := s.line.withdrawClaim c }
  cancel : ∀ {s : State} (p : Position), Q s → Q (s.cancelBurst p)
  raise : ∀ {s : State} (e : Event), Q s → Q (s.raise e)
  timing : ∀ {s : State} (t : Timing), Q s → Q { s with timing := t }

@[simp] theorem positions_settle (joined : Bool) (p : PositionManager) : (settle joined p).positions = p.positions := rfl

/-- Holdings dropped, the claim kept. -/
theorem positions_sublist {p q : PositionManager} (holdings : q.holdings.Sublist p.holdings) (claim : q.claim = p.claim) :
    q.positions.Sublist p.positions := by
  unfold PositionManager.positions
  rw [claim]
  exact (holdings.append (.refl _)).map _

theorem positions_without_claim (p : PositionManager) :
    (PositionManager.positions { p with claim := none }).Sublist p.positions := by
  simp [PositionManager.positions]

namespace ManagerKeeps

variable {Q : State → Prop} {s : State}

/-- The holdings and the claim, and what counts their loss, as they were. -/
theorem same (k : ManagerKeeps Q) {p : PositionManager} (holdings : p.holdings = s.pm.holdings) (claim : p.claim = s.pm.claim)
    (evictions : p.evictions = s.pm.evictions) (abandoned : p.abandoned = s.pm.abandoned) (h : Q s) :
    Q { s with pm := p } :=
  k.fewer ⟨positions_sublist (holdings ▸ .refl _) claim, .inl evictions, .inl abandoned⟩ h

theorem claimAttempt (k : ManagerKeeps Q) (h : Q s) : Q s.claimAttempt := by
  unfold State.claimAttempt
  split
  · split
    · exact k.claim ‹_› (List.find?_some ‹_›) h
    · exact h
  · exact h

theorem recomputeDemand (k : ManagerKeeps Q) (h : Q s) : Q s.recomputeDemand := by
  unfold State.recomputeDemand
  dsimp only
  split
  · exact k.claimAttempt (k.same rfl rfl rfl rfl h)
  · exact k.same rfl rfl rfl rfl h

theorem countReport (k : ManagerKeeps Q) (h : Q s) : Q s.countReport :=
  k.recomputeDemand (k.same rfl rfl rfl rfl h)

theorem demandNewShow (k : ManagerKeeps Q) (h : Q s) : Q s.demandNewShow :=
  k.recomputeDemand (k.same rfl rfl rfl rfl h)

theorem setTiming (k : ManagerKeeps Q) (t : Timing) (h : Q s) : Q (s.setTiming t) := by
  unfold State.setTiming
  dsimp only
  split
  · exact k.claimAttempt (k.timing t h)
  · exact k.timing t h

theorem reviewTiming (k : ManagerKeeps Q) (h : Q s) : Q s.reviewTiming := k.setTiming _ h

theorem abandonClaim (k : ManagerKeeps Q) (h : Q s) : Q s.abandonClaim := by
  unfold State.abandonClaim
  split
  · exact k.withdraw _ (k.fewer ⟨positions_without_claim s.pm, .inl rfl, .inr rfl⟩ h)
  · exact h

theorem evictOnly (k : ManagerKeeps Q) (x : Stamped) (h : Q s) : Q (s.evictOnly x) :=
  k.raise _ (k.hand _ (k.cancel _ (k.fewer ⟨positions_sublist List.filter_sublist rfl, .inr rfl, .inl rfl⟩ h)))

theorem releaseHolding (k : ManagerKeeps Q) (x : Stamped) (h : Q s) : Q (s.releaseHolding x) :=
  k.hand _ (k.fewer ⟨positions_sublist List.filter_sublist rfl, .inl rfl, .inl rfl⟩ h)

theorem evictWhere (k : ManagerKeeps Q) (asked : Stamped → Bool) (h : Q s) : Q (s.evictWhere asked) := by
  unfold State.evictWhere
  dsimp only
  split
  · exact h
  · exact k.claimAttempt (List.foldlRecOn _ _ h fun _ h x _ => k.evictOnly x h)

theorem releaseAtZero (k : ManagerKeeps Q) (h : Q s) : Q s.releaseAtZero := by
  unfold State.releaseAtZero
  split
  · exact List.foldlRecOn _ _ h fun _ h x _ => k.releaseHolding x h
  · exact h

theorem holdDownTick (k : ManagerKeeps Q) (f : FrameNo) (h : Q s) : Q (s.holdDownTick f) := by
  unfold State.holdDownTick
  split
  · exact k.same rfl rfl rfl rfl h
  · exact h

theorem tickAttempt (k : ManagerKeeps Q) (h : Q s) : Q s.tickAttempt :=
  k.claimAttempt (k.same rfl rfl rfl rfl h)

theorem owedTick (k : ManagerKeeps Q) (h : Q s) : Q s.owedTick := by
  unfold State.owedTick
  split
  · exact k.tickAttempt (k.same rfl rfl rfl rfl h)
  · exact h

theorem managerFirst (k : ManagerKeeps Q) (f : FrameNo) (h : Q s) : Q (s.managerFirst f) :=
  k.holdDownTick f (k.releaseAtZero h)

theorem managerBoundary (k : ManagerKeeps Q) (f : FrameNo) (h : Q s) : Q (s.managerBoundary f) := by
  have first : Q (State.managerFirst f { s with pm := { s.pm with tickOwed := false } }) :=
    k.managerFirst f (k.same rfl rfl rfl rfl h)
  unfold State.managerBoundary
  dsimp only
  (repeat' split)
  · exact k.same rfl rfl rfl rfl h
  · exact k.same rfl rfl rfl rfl first
  · exact k.tickAttempt first
  · exact first

/-- A claim that enters the holdings stands among the positions where it stood. -/
theorem enterClaim (k : ManagerKeeps Q) (h : Q s) : Q s.enterClaim := by
  unfold State.enterClaim
  split
  · rename_i c claim
    refine k.evictWhere _ (k.fewer ⟨?_, .inl rfl, .inl rfl⟩ h)
    simp [PositionManager.positions, claim]
  · exact h

theorem managerAdopt (k : ManagerKeeps Q) (d : FrameNo) (h : Q s) : Q (s.managerAdopt d) := by
  refine k.abandonClaim (k.fewer ⟨?_, .inl rfl, .inl rfl⟩ h)
  simp [PositionManager.positions, Function.comp_def]

theorem claimWindowEnd (k : ManagerKeeps Q) (h : Q s) : Q s.claimWindowEnd := by
  have marked : ∀ t : State, Q t → Q t.markSteps := fun _ h => k.same rfl rfl rfl rfl h
  unfold State.claimWindowEnd
  dsimp only
  split
  · split
    · refine marked _ ?_
      split
      · exact k.tickAttempt (k.enterClaim (k.managerFirst _ h))
      · exact k.claimAttempt (k.enterClaim (k.managerFirst _ h))
    · split
      · exact k.tickAttempt (k.enterClaim (k.same rfl rfl rfl rfl h))
      · exact k.claimAttempt (k.enterClaim (k.same rfl rfl rfl rfl h))
  · exact h

theorem releaseNewest (k : ManagerKeeps Q) (h : Q s) : Q s.releaseNewest := by
  unfold State.releaseNewest
  split
  · exact k.releaseHolding _ (k.same rfl rfl rfl rfl h)
  · exact h

theorem holdDownRelease (k : ManagerKeeps Q) (h : Q s) : Q s.holdDownRelease := by
  unfold State.holdDownRelease
  dsimp only
  (repeat' split)
  · exact k.releaseNewest h
  · exact k.same rfl rfl rfl rfl (k.tickAttempt (k.releaseNewest h))
  · exact h
  · exact h

theorem becomeStarved (k : ManagerKeeps Q) (h : Q s) : Q s.becomeStarved := by
  unfold State.becomeStarved
  split
  · exact k.raise _ (k.same rfl rfl rfl rfl h)
  · exact h

theorem reactAnnounce (k : ManagerKeeps Q) (n : Nat) (a : AnnounceFields) (h : Q s) : Q (s.reactAnnounce n a) := by
  unfold State.reactAnnounce
  dsimp only
  refine k.owedTick (k.evictWhere _ ?_)
  split
  · exact k.abandonClaim h
  · exact h

theorem objectTo (k : ManagerKeeps Q) (n : Nat) (p : Position) (h : Q s) : Q (s.objectTo n p) := by
  unfold State.objectTo
  split
  · exact k.hand _ h
  · exact h

theorem reactClaim (k : ManagerKeeps Q) (n : Nat) (p : Position) (h : Q s) : Q (s.reactClaim n p) := by
  unfold State.reactClaim
  dsimp only
  (repeat' split)
  · exact k.owedTick (k.abandonClaim (k.objectTo n p h))
  · exact k.objectTo n p h
  · exact h

theorem reactObject (k : ManagerKeeps Q) (n : Nat) (p : Position) (claimant : Nat) (h : Q s) :
    Q (s.reactObject n p claimant) := by
  unfold State.reactObject
  dsimp only
  refine k.owedTick (k.evictWhere _ ?_)
  split
  · exact k.abandonClaim h
  · exact h

theorem messageReaction (k : ManagerKeeps Q) (c : Instr) (h : Q s) : Q (messageReaction c s) := by
  cases c
  case announce => exact k.reactAnnounce _ _ h
  case claim => exact k.reactClaim _ _ h
  case object => exact k.reactObject _ _ _ h
  all_goals exact h

theorem scheduleAnnounce (k : ManagerKeeps Q) (h : Q s) : Q s.scheduleAnnounce := by
  unfold State.scheduleAnnounce
  split
  · exact k.hand _ h
  · exact h

/-- The work at a boundary, where the tick, the composition and the silent frame keep the property too. -/
theorem boundaryWork (k : ManagerKeeps Q) (r silent : Bool) (tick : Q s.ticked) (compose : ∀ t : State, Q t → Q t.compose)
    (silence : ∀ t : State, Q t → Q t.silence) : Q (s.boundaryWork r silent) := by
  have composed : ∀ t : State, Q t → Q (if silent then t.silence else t.compose) := by
    intro t ht
    split
    · exact silence t ht
    · exact compose t ht
  cases joined : s.joined with
  | false => exact State.boundaryWork_of_away r silent joined ▸ tick
  | true =>
    rw [State.boundaryWork_of_joined r silent joined]
    split
    · exact composed _ (k.managerBoundary _ (k.scheduleAnnounce tick))
    · exact k.managerBoundary _ (composed _ (k.scheduleAnnounce tick))

/-- An adoption, where carrying over what is dated and the work at a boundary keep the property too. -/
theorem adopt (k : ManagerKeeps Q) (r : Bool) (carry : ∀ t : State, t.loader = s.loader → t.peers = s.peers → Q t → Q { t with
      peers := s.peers.map (PeerRecord.atAdoption (s.timing.change == .restepSilent) s.adopted)
      cues := s.cues.adopt s.adopted.difference
      line := t.line.adopt s.adopted.difference })
    (work : ∀ t : State, Q t → Q (t.boundaryWork r false)) (h : Q s) : Q (s.adopt r) :=
  State.adopt_induct (P := Q) r (carry _ (by simp) (by simp) (k.managerAdopt _ (k.timing _ h))) (fun _ h => k.hand _ (k.reviewTiming h)) work
    (fun _ h => k.scheduleAnnounce h)

end ManagerKeeps

end Sys2Proof.Machine

/-! What the station holds and claims stays legal at every step, and so does the roster. -/

namespace Sys2Proof.Machine

/-! ## A property of what is held and claimed -/

/-- A property of the station's state, its image, and what the position manager holds and claims: the moves of the position manager
keep it, and so do a cold start and the commands that move the station to another state. -/
structure HoldingsKeep (Q : State → Prop) : Prop where
  manager : ManagerKeeps Q
  same : ∀ {s t : State}, Q s → t.loader = s.loader → t.pm = s.pm → Q t
  ending : ∀ {s : State}, Q s → Q (finish s)
  cold : ∀ s : State, Q s.coldStart
  own : ∀ {s : State}, Q s → Q s.ownNumberHeard
  listenEnd : ∀ {s : State}, Q s → Q s.listenEnd
  configRead : ∀ {s : State} (image : List Byte), Q s → Q (s.configReadComplete image)

namespace HoldingsKeep

variable {Q : State → Prop} {s : State}

theorem boundaryWork (k : HoldingsKeep Q) (r silent : Bool) (h : Q s) : Q (s.boundaryWork r silent) := by
  refine k.manager.boundaryWork r silent ?_ (fun _ h => k.same h (by simp) (by simp))
    (fun _ h => k.same h (by simp) (by simp))
  obtain ⟨_, _, ticked⟩ := State.ticked_eq s
  exact k.same h (by simp [ticked]) (by simp [ticked])

theorem adopt (k : HoldingsKeep Q) (r : Bool) (h : Q s) : Q (s.adopt r) :=
  k.manager.adopt r (fun _ _ _ h => k.same h rfl rfl) (fun _ => k.boundaryWork r false) h

theorem answer (k : HoldingsKeep Q) (receiver : BitVec 32) (decision : Roster × JoinResult) (h : Q s) :
    Q (s.answer receiver decision) := by
  have decided : Q { s with roster := decision.1 } := k.same h rfl rfl
  have reported : Q (if decision.1.counts == s.roster.counts then { s with roster := decision.1 }
      else State.countReport { s with roster := decision.1 }) := by
    split
    · exact decided
    · exact k.manager.countReport decided
  exact k.same reported rfl rfl

theorem handleReply (k : HoldingsKeep Q) (receiver : BitVec 32) (decide_ : Roster → Roster × JoinResult) (h : Q s) :
    Q (s.handleReply receiver decide_) := by
  have used : Q s.gapUsed := k.same h rfl rfl
  unfold State.handleReply
  dsimp only
  (repeat' split)
  · exact used
  · exact k.answer receiver _ used
  · exact h

theorem signalEmpty (k : HoldingsKeep Q) (h : Q s) : Q s.signalEmpty := by
  rw [State.signalEmpty_eq]
  exact k.same (k.manager.demandNewShow h) (by simp) rfl

theorem signalState (k : HoldingsKeep Q) (before : ShowState) (h : Q s) : Q (s.signalState before) := by
  unfold State.signalState
  split
  · exact h
  · exact k.manager.recomputeDemand (k.same h rfl rfl)

theorem clearShow (k : HoldingsKeep Q) (h : Q s) : Q s.clearShow := by
  rw [State.clearShow_eq]
  exact k.signalEmpty (k.same h rfl rfl)

theorem taken (k : HoldingsKeep Q) (r : Record) (h : Q s) : Q (r.taken s) := by
  cases r with
  | showLoad session time tracks =>
    simp only [Record.taken, State.showLoad]
    split
    · exact k.same h rfl rfl
    · exact k.signalState _ (k.signalEmpty (k.same h rfl rfl))
  | showEnd =>
    simp only [Record.taken, State.showEnd]
    split
    · exact k.signalState _ (k.manager.recomputeDemand (k.same h rfl rfl))
    · exact k.same h rfl rfl
  | showClear => exact k.clearShow h
  | mark t running =>
    simp only [Record.taken, State.mark]
    (repeat' split)
    · exact k.same h rfl rfl
    · exact k.same h rfl rfl
    · exact k.signalState _ (k.same h (by simp) (by simp))
  | tableLoad table first values => exact k.same h (by simp [Record.taken]) (by simp [Record.taken])
  | _ => exact k.same h (by simp [Record.taken]) (by simp [Record.taken])

theorem effect (k : HoldingsKeep Q) (c : Instr) (h : Q s) : Q (c.effect s) := by
  refine effect_induct c h (fun r => k.taken r (k.same h rfl rfl)) (fun _ => k.own (k.same h rfl rfl))
    (fun m _ _ _ => k.manager.messageReaction c (k.manager.setTiming _ (k.same h rfl rfl))) (fun hc hm => ?_)
  cases c
  case powerOn => exact (effect_of_coldStart h k.cold 0).1
  case powerLoss => exact k.cold _
  case restartLine _ width => exact (effect_of_coldStart h k.cold width).2.2.1
  case restartLineReleased => exact (effect_of_coldStart h k.cold 0).2.2.2
  case configReadComplete image => exact k.configRead image h
  case frameBoundary =>
    simp only [Instr.effect, State.frameBoundary]
    split
    · exact k.boundaryWork _ _ (k.same h rfl rfl)
    · exact h
  case claimWindowEnd => exact k.manager.claimWindowEnd h
  case holdDownRelease => exact k.manager.holdDownRelease h
  case starved => exact k.manager.becomeStarved h
  case rosterExpiry =>
    simp only [Instr.effect, State.rosterExpiry]
    split
    · exact k.manager.countReport (k.same h rfl rfl)
    · exact h
  case peerRecordExpiry n =>
    simp only [Instr.effect, State.peerRecordExpiry]
    split
    · exact k.manager.reviewTiming (k.same h rfl rfl)
    · exact h
  case peerClaimPassed n =>
    simp only [Instr.effect, State.peerClaimPassed]
    (repeat' split)
    · exact k.manager.evictWhere _ (k.same h rfl rfl)
    · exact h
    · exact h
    · exact h
  case listenEnd => exact k.listenEnd h
  case adoption =>
    simp only [Instr.effect, State.applyAdoption]
    split
    · exact k.adopt _ h
    · exact h
  case join | renew | leave => exact k.handleReply _ _ h
  case endedTimerExpiry =>
    simp only [Instr.effect, State.endedTimerExpiry]
    split
    · exact k.clearShow h
    · exact h
  case marksLost =>
    simp only [Instr.effect, State.marksLost]
    split
    · exact k.signalState _ (k.same h rfl rfl)
    · exact h
  case frozen =>
    simp only [Instr.effect, State.freeze]
    split
    · exact k.signalState _ (k.same h rfl rfl)
    · exact h
  case announce | claim | object | release => cases hm
  case showLoad | showEnd | showClear | mark | tableLoad | cue | cueCancel | clipHead | clipData | clipCancel | eventAck =>
    cases hc
  all_goals exact k.same h (by simp [Instr.effect]) (by simp [Instr.effect])

/-- Time and the end of a step move neither, so a step keeps such a property. -/
theorem step (k : HoldingsKeep Q) {s t : State} (hs : Q s) (h : step s = .next t) : Q t :=
  step_keeps (P := Q) (fun _ _ h => k.same h rfl rfl) (fun _ _ h => k.same h (by simp) (by simp)) (fun c _ => k.effect c)
    (fun _ => k.ending) hs h

end HoldingsKeep

/-! ## Positions held and claimed (R139, R142) -/

/-- Positions that a station in this state may hold and claim under this image. -/
def legalPositions (joined : Bool) (cfg : ConfigImage) (ps : List Position) : Prop :=
  (joined = false → ps = []) ∧ ps.length ≤ cfg.maxHoldings ∧ (∀ p ∈ ps, cfg.carriers.getLsbD p.carrier.val = true)
    ∧ ps.Pairwise (fun p q => p ≠ q ∧ spaced p q = true)

theorem State.positionsLegal_iff (s : State) : s.positionsLegal ↔ legalPositions s.joined s.cfg s.pm.positions := Iff.rfl

theorem legalPositions_nil (joined : Bool) (cfg : ConfigImage) : legalPositions joined cfg [] :=
  ⟨fun _ => rfl, Nat.zero_le _, nofun, .nil⟩

theorem legalPositions.sublist {joined : Bool} {cfg : ConfigImage} {ps qs : List Position} (h : legalPositions joined cfg ps)
    (sub : qs.Sublist ps) : legalPositions joined cfg qs := by
  obtain ⟨away, length, licensed, apart⟩ := h
  exact ⟨fun h => List.sublist_nil.1 (away h ▸ sub), sub.length_le.trans length, fun p hp => licensed p (sub.subset hp),
    apart.sublist sub⟩

theorem spaced_comm (p q : Position) : spaced p q = spaced q p := by
  have slots : cyclicDistance p.slot q.slot = cyclicDistance q.slot p.slot := by
    unfold cyclicDistance
    dsimp only
    split <;> split <;> omega
  simp only [spaced, slots, Bool.beq_comm]

/-- Fewer positions, or the same ones, are legal where the station's state and image are what they were. -/
theorem State.positionsLegal_of_sublist {s t : State} (loader : t.loader = s.loader)
    (sub : t.pm.positions.Sublist s.pm.positions) (h : s.positionsLegal) : t.positionsLegal := by
  rw [State.positionsLegal_iff, State.joined, State.cfg, loader]
  exact legalPositions.sublist h sub

theorem State.positionsLegal_of_same {s t : State} (loader : t.loader = s.loader) (pm : t.pm = s.pm)
    (h : s.positionsLegal) : t.positionsLegal :=
  State.positionsLegal_of_sublist loader (pm ▸ .refl _) h

section
variable {s : State}

/-- A claim on a candidate is legal beside what is held. -/
theorem State.issueClaim_positionsLegal {p : Position} (may : s.mayClaim = true) (candidate : s.isCandidate p = true)
    (h : s.positionsLegal) : (s.issueClaim p).positionsLegal := by
  simp only [State.mayClaim, Bool.and_eq_true, decide_eq_true_eq] at may
  simp only [State.isCandidate, Bool.and_eq_true, List.all_eq_true, bne_iff_ne, ne_eq] at candidate
  obtain ⟨⟨⟨⟨⟨joined, -⟩, -⟩, -⟩, room⟩, -⟩ := may
  obtain ⟨⟨licensed, apart⟩, -⟩ := candidate
  have held : legalPositions s.joined s.cfg (s.pm.holdings.map (·.position)) :=
    legalPositions.sublist h ((List.sublist_append_left _ _).map _)
  have same : (s.issueClaim p).loader = s.loader := by simp
  have positions : (s.issueClaim p).pm.positions = s.pm.holdings.map (·.position) ++ [p] := by
    simp [PositionManager.positions]
  rw [State.positionsLegal_iff, positions, State.joined, State.cfg, same]
  obtain ⟨-, -, heldLicensed, heldApart⟩ := held
  refine ⟨fun away => ?_, by simpa [State.cfg] using room, fun q hq => ?_, ?_⟩
  · exact absurd (joined.symm.trans away) (by decide)
  · simp only [List.mem_append, List.mem_singleton] at hq
    obtain hq | rfl := hq
    · exact heldLicensed q hq
    · exact licensed
  · refine List.pairwise_append.2 ⟨heldApart, .cons nofun .nil, fun a ha b hb => ?_⟩
    obtain ⟨x, hx, rfl⟩ := List.mem_map.1 ha
    cases List.mem_singleton.1 hb
    exact ⟨(apart x hx).1, spaced_comm p x.position ▸ (apart x hx).2⟩

theorem positionsLegal_managerKeeps : ManagerKeeps State.positionsLegal where
  fewer less := State.positionsLegal_of_sublist rfl less.positions
  claim := State.issueClaim_positionsLegal
  hand _ := State.positionsLegal_of_same (by simp) (by simp)
  withdraw _ := State.positionsLegal_of_same rfl rfl
  cancel _ := State.positionsLegal_of_same (by simp) (by simp)
  raise _ := State.positionsLegal_of_same rfl rfl
  timing _ := State.positionsLegal_of_same rfl rfl

theorem State.ownNumberHeard_positionsLegal (h : s.positionsLegal) : s.ownNumberHeard.positionsLegal := by
  unfold State.ownNumberHeard
  split
  · have none_ : (State.raise .duplicate
        { s.leaveJoined with loader := { s.loader with station := .duplicateFault } }).pm.positions = [] := by
      simp [State.leaveJoined, PositionManager.leaveJoined, PositionManager.positions]
    rw [State.positionsLegal_iff, none_]
    exact legalPositions_nil _ _
  · rename_i listen
    have away : s.pm.positions = [] := h.1 (by rw [State.joined, listen]; rfl)
    have moved : State.positionsLegal { s with loader := { s.loader with station := .duplicateFault } } := by
      rw [State.positionsLegal_iff]
      exact (away : s.pm.positions = []) ▸ legalPositions_nil _ _
    exact State.positionsLegal_of_same (by simp) (by simp)
      (positionsLegal_managerKeeps.setTiming (s.timing.endListen s.peers s.holds) moved)
  · exact h

theorem State.configReadComplete_positionsLegal (image : List Byte) (h : s.positionsLegal) :
    (s.configReadComplete image).positionsLegal := by
  unfold State.configReadComplete
  split
  · rename_i reading
    have away : s.pm.positions = [] := by
      refine h.1 ?_
      simp only [Loader.reading, Bool.and_eq_true, beq_iff_eq] at reading
      rw [State.joined, reading.2]
      rfl
    split
    · rw [State.positionsLegal_iff]
      exact (away : s.pm.positions = []) ▸ legalPositions_nil _ _
    · rw [State.positionsLegal_iff]
      exact (away : s.pm.positions = []) ▸ legalPositions_nil _ _
  · exact h

theorem State.listenEnd_positionsLegal (h : s.positionsLegal) : s.listenEnd.positionsLegal := by
  unfold State.listenEnd
  split
  · rename_i due
    have away : s.pm.positions = [] := by
      refine h.1 ?_
      simp only [Bool.and_eq_true, beq_iff_eq] at due
      rw [State.joined, due.1.1]
      rfl
    have moved : State.positionsLegal { s with loader := { s.loader with station := .joined } } := by
      rw [State.positionsLegal_iff]
      exact (away : s.pm.positions = []) ▸ legalPositions_nil _ _
    exact positionsLegal_managerKeeps.claimAttempt (positionsLegal_managerKeeps.setTiming _ moved)
  · exact h

end

theorem positionsLegal_holdingsKeep : HoldingsKeep State.positionsLegal where
  manager := positionsLegal_managerKeeps
  same h loader pm := State.positionsLegal_of_same loader pm h
  ending {s} h := by
    rw [State.positionsLegal_iff, finish_joined, finish_cfg, finish_pm]
    exact h
  cold s := legalPositions_nil false s.coldStart.cfg
  own := State.ownNumberHeard_positionsLegal
  listenEnd := State.listenEnd_positionsLegal
  configRead := State.configReadComplete_positionsLegal

/-- Settles O10: positions are entered by a claim on a candidate alone; every other change drops some or carries them over. -/
theorem stepKeepsPositionsLegal : Obligations.StepKeepsPositionsLegal :=
  fun _ _ => positionsLegal_holdingsKeep.step

/-! ## The roster (R82, R84) -/

/-- Each receiver has at most one entry, none has receiver id 0, and every entry's track is in the table. -/
def legalEntries (tracks : List Track) (entries : List RosterEntry) : Prop :=
  (entries.map (·.receiver)).Nodup ∧ ∀ e ∈ entries, e.receiver ≠ 0 ∧ ∃ k ∈ tracks, k.number = e.track

theorem State.rosterLegal_iff (s : State) : s.rosterLegal ↔ legalEntries s.show_.tracks s.roster.entries := Iff.rfl

theorem State.rosterLegal_of_same {s t : State} (tracks : t.show_.tracks = s.show_.tracks)
    (entries : t.roster.entries = s.roster.entries) (h : s.rosterLegal) : t.rosterLegal := by
  rw [State.rosterLegal_iff, tracks, entries]
  exact h

theorem State.rosterLegal_of_empty {s : State} (h : s.roster.entries = []) : s.rosterLegal := by
  rw [State.rosterLegal_iff, h]
  exact ⟨.nil, nofun⟩

section
variable {tracks : List Track} {r : Roster}

theorem legalEntries.sublist {entries kept : List RosterEntry} (h : legalEntries tracks entries)
    (sub : kept.Sublist entries) : legalEntries tracks kept :=
  ⟨h.1.sublist (sub.map _), fun e he => h.2 e (sub.subset he)⟩

/-- A renewal keeps every receiver's one entry, on its own track or on the track given. -/
theorem Roster.renewed_legal {receiver : BitVec 32} {track : Option Nat}
    (known : ∀ n ∈ track, ∃ k ∈ tracks, k.number = n) (h : legalEntries tracks r.entries) :
    legalEntries tracks (r.renewed receiver track).entries := by
  have receivers : (r.renewed receiver track).entries.map (·.receiver) = r.entries.map (·.receiver) := by
    rw [Roster.renewed, List.map_map]
    refine List.map_congr_left fun e _ => ?_
    simp only [Function.comp]
    split <;> rfl
  refine ⟨receivers ▸ h.1, fun e' he' => ?_⟩
  obtain ⟨e, he, rfl⟩ := List.mem_map.1 he'
  obtain ⟨nonzero, onTrack⟩ := h.2 e he
  split
  · refine ⟨nonzero, ?_⟩
    cases track with
    | none => exact onTrack
    | some n => exact known n rfl
  · exact ⟨nonzero, onTrack⟩

theorem Roster.enroll_legal {receiver : BitVec 32} {track : Nat} (nonzero : receiver ≠ 0)
    (known : ∃ k ∈ tracks, k.number = track) (h : legalEntries tracks r.entries) :
    legalEntries tracks (r.enroll receiver track).1.entries := by
  unfold Roster.enroll
  (repeat' split)
  · refine Roster.renewed_legal (fun n hn => ?_) h
    cases hn
    exact known
  · rename_i new _
    have absent := (Roster.has_eq_false_iff receiver r).1 (Bool.eq_false_iff.2 new)
    refine ⟨?_, fun e he => ?_⟩
    · rw [List.map_append, List.nodup_append]
      refine ⟨h.1, List.nodup_singleton _, fun a ha b hb => ?_⟩
      obtain ⟨e, he, rfl⟩ := List.mem_map.1 ha
      obtain rfl : b = receiver := List.mem_singleton.1 hb
      exact absent e he
    · simp only [List.mem_append, List.mem_singleton] at he
      obtain he | rfl := he
      · exact h.2 e he
      · exact ⟨nonzero, known⟩
  · exact h

/-- A ticket that passes the checks names a track of the table. -/
theorem exists_track_of_ticket {number : Nat} {c : ShowControl} {k : Ticket} (h : ticketRefusal number c k = none) :
    ∃ t ∈ c.tracks, t.number = k.track := by
  unfold ticketRefusal at h
  (repeat' split at h)
  all_goals cases h
  rename_i found _
  exact ⟨_, List.mem_of_find?_eq_some found, by simpa using List.find?_some found⟩

theorem Roster.join_legal {number : Nat} {c : ShowControl} {receiver : BitVec 32} {k : Ticket} (nonzero : receiver ≠ 0)
    (h : legalEntries c.tracks r.entries) : legalEntries c.tracks (r.join number c receiver k).1.entries := by
  unfold Roster.join
  split
  · exact h
  · exact Roster.enroll_legal nonzero (exists_track_of_ticket ‹_›) h

theorem Roster.renew_legal (receiver : BitVec 32) (h : legalEntries tracks r.entries) :
    legalEntries tracks (r.renew receiver).1.entries := by
  unfold Roster.renew
  split
  · exact Roster.renewed_legal nofun h
  · exact h

theorem Roster.leave_legal (receiver : BitVec 32) (h : legalEntries tracks r.entries) :
    legalEntries tracks (r.leave receiver).1.entries := by
  unfold Roster.leave
  split
  · exact h.sublist List.filter_sublist
  · exact h

end

section
variable {s : State}

/-- A reply is decided for a receiver whose id is not 0. -/
theorem State.handleReply_rosterLegal {receiver : BitVec 32} {decide_ : Roster → Roster × JoinResult}
    (decided : receiver ≠ 0 → legalEntries s.show_.tracks (decide_ s.roster).1.entries) (h : s.rosterLegal) :
    (s.handleReply receiver decide_).rosterLegal := by
  unfold State.handleReply
  dsimp only
  (repeat' split)
  · exact h
  · rename_i nonzero
    have same : (s.gapUsed.answer receiver (decide_ s.gapUsed.roster)).roster.entries = (decide_ s.roster).1.entries := by
      simp only [State.answer, Roster.offer_entries]
      split <;> simp [State.gapUsed]
    rw [State.rosterLegal_iff, same, State.answer_show]
    exact decided fun zero => nonzero (beq_iff_eq.2 zero)
  · exact h

@[simp] theorem State.compose_entries (s : State) : s.compose.roster.entries = s.roster.entries := by
  unfold State.compose
  dsimp only
  split <;> simp

@[simp] theorem State.boundaryWork_entries (r silent : Bool) (s : State) :
    (s.boundaryWork r silent).roster.entries = s.roster.entries := by
  obtain ⟨count, link, ticked⟩ := State.ticked_eq s
  cases joined : s.joined with
  | false => rw [State.boundaryWork_of_away r silent joined, ticked]
  | true =>
    rw [State.boundaryWork_of_joined r silent joined, ticked]
    cases r
    all_goals
      cases silent
      all_goals simp

@[simp] theorem State.adopt_entries (r : Bool) (s : State) : (s.adopt r).roster.entries = s.roster.entries :=
  State.adopt_induct (P := fun t => t.roster.entries = s.roster.entries) r (by simp [State.carried])
    (fun _ h => by simpa using h) (fun _ h => by simpa using h) (fun _ h => by simpa using h)

theorem State.signalEmpty_entries (s : State) : s.signalEmpty.roster.entries = [] := by
  rw [State.signalEmpty_eq]

theorem ShowControl.applyRunning_tracks (t now : Nat) (running : Bool) (c : ShowControl) :
    (c.applyRunning t now running).tracks = c.tracks := by
  unfold ShowControl.applyRunning ShowControl.offerGate
  dsimp only
  (repeat' split) <;> rfl

theorem State.takeMark_tracks (t : Nat) (running : Bool) (s : State) :
    (s.takeMark t running).show_.tracks = s.show_.tracks := by
  obtain ⟨gate, jumps, placed⟩ := State.markClock_show t { s with show_ := { s.show_ with markLoss := some 0 } }
  simp only [State.takeMark, State.signalState_show, placed, ShowControl.applyRunning_tracks]
  rfl

theorem Record.taken_rosterLegal (r : Record) (h : s.rosterLegal) : (r.taken s).rosterLegal := by
  cases r with
  | showLoad session time tracks =>
    simp only [Record.taken, State.showLoad]
    split
    · exact h
    · exact State.rosterLegal_of_empty (by rw [State.signalState_roster, State.signalEmpty_entries])
  | showEnd =>
    simp only [Record.taken, State.showEnd]
    split
    · exact State.rosterLegal_of_same (s := { s with show_ := s.show_.endShow }) (by simp) (by simp [State.signalEnded]) h
    · exact h
  | showClear => exact State.rosterLegal_of_empty (by rw [Record.taken, State.clearShow_eq, State.signalEmpty_entries])
  | mark t running =>
    simp only [Record.taken, State.mark]
    (repeat' split)
    · exact h
    · exact h
    · exact State.rosterLegal_of_same (State.takeMark_tracks t running s) (by simp) h
  | tableLoad table first values =>
    simp only [Record.taken, State.tableLoad]
    split <;> exact h
  | _ => exact State.rosterLegal_of_same (by simp [Record.taken]) (by simp [Record.taken]) h

theorem effect_rosterLegal (c : Instr) (h : s.rosterLegal) : (c.effect s).rosterLegal := by
  have cold : ∀ t : State, t.coldStart.rosterLegal := fun _ => State.rosterLegal_of_empty rfl
  refine effect_induct c h (fun r => Record.taken_rosterLegal r h)
    (fun _ => State.rosterLegal_of_same (by simp) (by simp) h)
    (fun m _ _ _ => State.rosterLegal_of_same (by cases c <;> simp [messageReaction, State.heard])
      (by cases c <;> simp [messageReaction, State.heard]) h) (fun hc hm => ?_)
  cases c
  case powerOn => exact (effect_of_coldStart h cold 0).1
  case powerLoss => exact cold _
  case restartLine _ width => exact (effect_of_coldStart h cold width).2.2.1
  case restartLineReleased => exact (effect_of_coldStart h cold 0).2.2.2
  case configReadComplete image =>
    simp only [Instr.effect, State.configReadComplete]
    (repeat' split) <;> exact h
  case frameBoundary =>
    simp only [Instr.effect, State.frameBoundary]
    split
    · exact State.rosterLegal_of_same (by simp) (by simp) h
    · exact h
  case adoption =>
    simp only [Instr.effect, State.applyAdoption]
    split
    · exact State.rosterLegal_of_same (by simp) (by simp) h
    · exact h
  case rosterExpiry =>
    simp only [Instr.effect, State.rosterExpiry]
    split
    · rw [State.rosterLegal_iff, State.countReport_roster, State.countReport_show]
      exact legalEntries.sublist h List.filter_sublist
    · exact h
  case join => exact State.handleReply_rosterLegal (fun nonzero => Roster.join_legal nonzero h) h
  case renew => exact State.handleReply_rosterLegal (fun _ => Roster.renew_legal _ h) h
  case leave => exact State.handleReply_rosterLegal (fun _ => Roster.leave_legal _ h) h
  case endedTimerExpiry =>
    simp only [Instr.effect, State.endedTimerExpiry]
    split
    · exact Record.taken_rosterLegal .showClear h
    · exact h
  case marksLost =>
    simp only [Instr.effect, State.marksLost]
    split
    · exact State.rosterLegal_of_same (s := { s with show_ := { s.show_ with state := .coasting } }) (by simp) (by simp) h
    · exact h
  case frozen =>
    simp only [Instr.effect, State.freeze]
    split
    · exact State.rosterLegal_of_same
        (s := { s with show_ := { s.show_ with state := .frozen, gate := none, markLoss := none } }) (by simp) (by simp) h
    · exact h
  case announce | claim | object | release => cases hm
  case showLoad | showEnd | showClear | mark | tableLoad | cue | cueCancel | clipHead | clipData | clipCancel | eventAck =>
    cases hc
  all_goals exact State.rosterLegal_of_same (by simp [Instr.effect]) (by simp [Instr.effect]) h

end

theorem advance_tracks (dt : Nat) (s : State) : (advance dt s).show_.tracks = s.show_.tracks := by
  unfold advance
  split
  · rfl
  · unfold ShowControl.advance ShowControl.advanceClock
    dsimp only
    (repeat' split) <;> rfl

/-- Settles O11: a reply that passed the checks names a track of the table, and a new table finds the roster empty. -/
theorem stepKeepsRosterLegal : Obligations.StepKeepsRosterLegal :=
  fun _ _ hs h => step_keeps (P := State.rosterLegal) (fun _ _ h => h)
    (fun dt s h => State.rosterLegal_of_same (advance_tracks dt s) (by simp) h) (fun c _ h => effect_rosterLegal c h)
    (fun _ h => State.rosterLegal_of_same (by simp) (by simp) h) hs h

end Sys2Proof.Machine

/-! Every counter stays a 16-bit count, and every queue within its size, block by block. -/

namespace Sys2Proof.Machine

/-! ## The blocks' counters and queues (R21, R22, R47, R82, R92, R115, R161, R164, R165) -/

def HouseLine.bounded (l : HouseLine) : Prop :=
  l.lineConflict ≤ Config.counterMax ∧ l.dropped ≤ Config.counterMax ∧ l.bad ≤ Config.counterMax
    ∧ l.queue.length ≤ Config.maxMessages

def PositionManager.bounded (p : PositionManager) : Prop :=
  p.evictions ≤ Config.counterMax ∧ p.abandoned ≤ Config.counterMax

def ShowLink.bounded (k : ShowLink) : Prop :=
  k.overrun ≤ Config.counterMax ∧ k.refusalsDropped ≤ Config.counterMax ∧ k.rxQueue.length ≤ Config.maxRecords
    ∧ k.outQueue.length ≤ Config.maxOutbound ∧ (k.outQueue.filter (· == .status)).length ≤ 1

def ShowControl.bounded (c : ShowControl) : Prop := c.jumps ≤ Config.counterMax ∧ c.rateRejects ≤ Config.counterMax

def CueQueue.bounded (q : CueQueue) : Prop :=
  q.lateCue ≤ Config.counterMax ∧ q.skippedCue ≤ Config.counterMax ∧ q.entries.length ≤ Config.maxCues
    ∧ q.clears.length ≤ Config.maxClears

def ClipStore.bounded (c : ClipStore) : Prop :=
  c.skipped ≤ Config.counterMax ∧ c.overlap ≤ Config.counterMax ∧ c.slip ≤ Config.counterMax
    ∧ c.clips.length ≤ Config.maxClips

def RadioPort.bounded (r : RadioPort) : Prop := r.lockSkip ≤ Config.counterMax ∧ r.garbled ≤ Config.counterMax

def Roster.bounded (r : Roster) : Prop :=
  r.ackLost ≤ Config.counterMax ∧ r.joinRefusals ≤ Config.counterMax ∧ r.acks.length ≤ Config.maxAcks
    ∧ r.entries.length ≤ Config.maxRoster

/-- Every block's counters and queues are within their bounds. -/
def State.bounded (s : State) : Prop :=
  s.line.bounded ∧ s.pm.bounded ∧ s.link.bounded ∧ s.show_.bounded ∧ s.cues.bounded ∧ s.clips.bounded
    ∧ s.plan.underrun ≤ Config.counterMax ∧ s.radio.bounded ∧ s.roster.bounded

theorem State.bounded_iff (s : State) : s.bounded ↔ s.countersBounded ∧ s.queuesBounded := by
  simp only [State.bounded, State.countersBounded, State.queuesBounded, State.statusReport, List.forall_mem_cons,
    List.not_mem_nil, HouseLine.bounded, PositionManager.bounded, ShowLink.bounded, ShowControl.bounded, CueQueue.bounded,
    ClipStore.bounded, RadioPort.bounded, Roster.bounded]
  tauto

/-! ## The house line -/

theorem HouseLine.join_bounded (m : Waiting) {l : HouseLine} (h : l.bounded) : (l.join m).bounded := by
  obtain ⟨conflict, dropped, bad, queue⟩ := h
  have length := HouseLine.length_join m l queue
  unfold HouseLine.join at length ⊢
  (repeat' split)
  · exact ⟨conflict, dropped, bad, queue⟩
  · simp_all [HouseLine.bounded]
  · exact ⟨conflict, dropped, bad, queue⟩
  · exact ⟨conflict, bump_le _, bad, queue⟩
  · simp_all [HouseLine.bounded, bump_le]

theorem HouseLine.hand_bounded (b : WaitingBody) {l : HouseLine} (h : l.bounded) : (l.hand b).bounded :=
  HouseLine.join_bounded _ h

theorem HouseLine.withdrawClaim_bounded (c : Stamped) {l : HouseLine} (h : l.bounded) : (l.withdrawClaim c).bounded :=
  ⟨h.1, h.2.1, h.2.2.1, (List.length_filter_le _ _).trans h.2.2.2⟩

theorem HouseLine.dropPassed_bounded (f : FrameNo) {l : HouseLine} (h : l.bounded) : (l.dropPassed f).bounded := by
  unfold HouseLine.dropPassed
  split
  · exact ⟨h.1, bump_le _, h.2.2.1, (List.length_erase_le).trans h.2.2.2⟩
  · exact h

theorem HouseLine.adopt_bounded (d : FrameNo) {l : HouseLine} (h : l.bounded) : (l.adopt d).bounded :=
  ⟨h.1, h.2.1, h.2.2.1, by simpa [HouseLine.adopt] using h.2.2.2⟩

theorem HouseLine.returnMessage_bounded (w : Waiting) {l : HouseLine} (h : l.bounded) : (l.returnMessage w).bounded := by
  unfold HouseLine.returnMessage
  split
  · exact ⟨h.1, bump_le _, h.2.2⟩
  · exact HouseLine.join_bounded _ h

theorem HouseLine.stop_bounded {l : HouseLine} (h : l.bounded) : l.stop.bounded :=
  ⟨h.1, h.2.1, h.2.2.1, Nat.zero_le _⟩

/-! ## The show link -/

theorem ShowLink.handStatus_keeps_bounded {k : ShowLink} (h : k.bounded) : k.handStatus.bounded := by
  obtain ⟨overrun, dropped, rx, out, one⟩ := h
  have queue := ShowLink.handStatus_bounded k out one
  unfold ShowLink.handStatus at queue ⊢
  (repeat' split) <;> simp_all [ShowLink.bounded, bump_le]

theorem ShowLink.handRefusal_keeps_bounded (r : RefusalRecord) {k : ShowLink} (h : k.bounded) :
    (k.handRefusal r).bounded := by
  obtain ⟨overrun, dropped, rx, out, one⟩ := h
  have queue := ShowLink.handRefusal_bounded r k out one
  unfold ShowLink.handRefusal at queue ⊢
  split <;> simp_all [ShowLink.bounded, bump_le]

theorem ShowLink.raise_bounded (e : Event) {k : ShowLink} (h : k.bounded) : (k.raise e).bounded := by
  unfold ShowLink.raise
  split
  · exact h
  · exact ShowLink.handStatus_keeps_bounded h

/-! ## The cue queue -/

theorem CueQueue.oweClear_bounded (track start region : Nat) {q : CueQueue} (h : q.bounded) :
    (q.oweClear track start region).bounded := by
  obtain ⟨late, skipped, entries, clears⟩ := h
  unfold CueQueue.oweClear
  dsimp only
  (repeat' split)
  · exact ⟨late, skipped, entries, clears⟩
  · refine ⟨late, skipped, entries, ?_⟩
    simp only [List.length_append, List.length_singleton]
    omega
  · refine ⟨late, skipped, entries, ?_⟩
    simp only [List.length_append, List.length_singleton, List.length_tail]
    have some_ : 1 ≤ Config.maxClears := by decide
    omega

theorem CueQueue.oweClears_bounded (es : List Cue) {q : CueQueue} (h : q.bounded) : (q.oweClears es).bounded :=
  List.foldlRecOn _ _ h fun _ h _ _ => CueQueue.oweClear_bounded _ _ _ h

/-- No more entries than before, the clears and counters as they were. -/
theorem CueQueue.bounded_of_entries {q : CueQueue} {es : List Cue} (length : es.length ≤ q.entries.length) (h : q.bounded) :
    CueQueue.bounded { q with entries := es } := ⟨h.1, h.2.1, length.trans h.2.2.1, h.2.2.2⟩

theorem CueQueue.update_bounded (track start : Nat) (f : Cue → Cue) {q : CueQueue} (h : q.bounded) :
    (q.update track start f).bounded := CueQueue.bounded_of_entries (List.length_map _).le h

theorem CueQueue.remove_bounded (track start : Nat) {q : CueQueue} (h : q.bounded) : (q.remove track start).bounded :=
  CueQueue.bounded_of_entries (List.length_filter_le _ _) h

theorem CueQueue.moveAll_bounded (f : Cue → Cue) {q : CueQueue} (h : q.bounded) : (q.moveAll f).bounded :=
  CueQueue.oweClears_bounded _ (CueQueue.bounded_of_entries (List.length_map _).le h)

theorem CueQueue.dropClear_bounded (track start : Nat) {q : CueQueue} (h : q.bounded) : (q.dropClear track start).bounded :=
  ⟨h.1, h.2.1, h.2.2.1, (List.length_filter_le _ _).trans h.2.2.2⟩

theorem CueQueue.startOne_bounded (f : FrameNo) (e : Cue) {q : CueQueue} (h : q.bounded) : (q.startOne f e).bounded := by
  unfold CueQueue.startOne
  dsimp only
  refine CueQueue.update_bounded _ _ _ ?_
  split
  · split
    · exact CueQueue.update_bounded _ _ _ h
    · exact h
  · exact h

theorem CueQueue.starting_bounded (t : Nat) (f : FrameNo) {q : CueQueue} (h : q.bounded) : (q.starting t f).bounded :=
  CueQueue.oweClears_bounded _ (List.foldlRecOn _ _ h fun _ h _ _ => CueQueue.startOne_bounded f _ h)

theorem CueQueue.skipped_bounded (k : Nat) {q : CueQueue} (h : q.bounded) (c : Nat) :
    CueQueue.bounded { q with skippedCue := bumpBy k c } := ⟨h.1, bumpBy_le _ _, h.2.2⟩

theorem CueQueue.progress_bounded (state : ShowState) (t : Nat) (f : FrameNo) {q : CueQueue} (h : q.bounded) :
    (q.progress state t f).bounded := by
  have retained : (q.retain t).bounded := CueQueue.bounded_of_entries (List.length_filter_le _ _) h
  unfold CueQueue.progress
  dsimp only
  split
  · have ended : ((q.retain t).ending t).bounded :=
      CueQueue.skipped_bounded _ (CueQueue.moveAll_bounded (Cue.endBy t) retained) _
    have started := CueQueue.starting_bounded t f ended
    exact ⟨bumpBy_le _ _, started.2.1, (List.length_map _).le.trans started.2.2.1, started.2.2.2⟩
  · exact retained

theorem CueQueue.built_bounded (f : FrameNo) {q : CueQueue} (h : q.bounded) : (q.built f).bounded :=
  CueQueue.bounded_of_entries (List.length_map _).le h

theorem CueQueue.placed_bounded (f : FrameNo) (item : PlacedItem) {q : CueQueue} (h : q.bounded) :
    (q.placed f item).bounded := by
  have dropped := CueQueue.dropClear_bounded item.track item.start h
  unfold CueQueue.placed
  dsimp only
  (repeat' split)
  · exact h
  · exact CueQueue.update_bounded _ _ _ dropped
  · exact CueQueue.oweClear_bounded _ _ _ dropped
  · exact CueQueue.oweClear_bounded _ _ _ dropped

theorem CueQueue.clearSent_bounded (serial : Nat) {q : CueQueue} (h : q.bounded) : (q.clearSent serial).bounded :=
  ⟨h.1, h.2.1, h.2.2.1, (List.length_filter_le _ _).trans h.2.2.2⟩

theorem CueQueue.reevaluate_bounded (t : Nat) (jump : Bool) (f : FrameNo) {q : CueQueue} (h : q.bounded) :
    (q.reevaluate t jump f).bounded := CueQueue.skipped_bounded _ (CueQueue.moveAll_bounded _ h) _

theorem CueQueue.adopt_bounded (d : FrameNo) {q : CueQueue} (h : q.bounded) : (q.adopt d).bounded :=
  CueQueue.bounded_of_entries (List.length_map _).le h

theorem CueQueue.clearAll_bounded {q : CueQueue} (h : q.bounded) : q.clearAll.bounded :=
  ⟨h.1, h.2.1, Nat.zero_le _, Nat.zero_le _⟩

theorem CueQueue.mem_of_find {q : CueQueue} {track start : Nat} {e : Cue} (h : q.find track start = some e) :
    e ∈ q.entries := List.mem_of_find?_eq_some h

theorem CueQueue.mem_of_victim {q : CueQueue} {v : Cue} (h : q.victim = some v) : v ∈ q.entries :=
  List.mem_of_mem_filter (mem_of_firstBy h)

theorem Cue.is_self (e : Cue) : e.is e.track e.start = true := by simp [Cue.is]

/-- A full queue loses its victim before it takes a new entry. -/
theorem CueQueue.length_remove_lt {q : CueQueue} {v : Cue} (h : v ∈ q.entries) :
    (q.remove v.track v.start).entries.length < q.entries.length := by
  refine List.length_filter_lt_length_iff_exists.2 ⟨v, h, ?_⟩
  simp [Cue.is_self]

theorem CueQueue.take_bounded (f : FrameNo) (new : Cue) {q q' : CueQueue} (h : q.bounded) (taken : q.take f new = some q') :
    q'.bounded := by
  unfold CueQueue.take at taken
  split at taken
  · cases taken
    exact CueQueue.update_bounded _ _ _ h
  · split at taken
    · cases taken
      refine ⟨h.1, h.2.1, ?_, h.2.2.2⟩
      dsimp only
      rw [length_insertBy]
      omega
    · split at taken
      · rename_i v hv
        cases taken
        refine ⟨h.1, h.2.1, ?_, h.2.2.2⟩
        have fewer := CueQueue.length_remove_lt (CueQueue.mem_of_victim hv)
        have entries := h.2.2.1
        dsimp only
        rw [length_insertBy]
        omega
      · cases taken

theorem CueQueue.cancel_bounded (track start : Nat) {q : CueQueue} (h : q.bounded) : (q.cancel track start).bounded := by
  unfold CueQueue.cancel
  dsimp only
  (repeat' split)
  · exact CueQueue.oweClear_bounded _ _ _ (CueQueue.remove_bounded _ _ h)
  · exact CueQueue.remove_bounded _ _ h
  · exact h

/-! ## The clip store -/

/-- No more clips than before, memory and engines as they may be, the counters as they were. -/
theorem ClipStore.bounded_of_clips {s s' : ClipStore} (clips : s'.clips.length ≤ s.clips.length)
    (skipped : s'.skipped = s.skipped) (overlap : s'.overlap = s.overlap) (slip : s'.slip = s.slip) (h : s.bounded) :
    s'.bounded := ⟨skipped ▸ h.1, overlap ▸ h.2.1, slip ▸ h.2.2.1, clips.trans h.2.2.2⟩

theorem ClipStore.rechoose_bounded (show_ : ShowControl) {s : ClipStore} (h : s.bounded) : (s.rechoose show_).bounded := h

theorem ClipStore.update_bounded (id : Nat) (f : Clip → Clip) {s : ClipStore} (h : s.bounded) : (s.update id f).bounded :=
  ClipStore.bounded_of_clips (List.length_map _).le rfl rfl rfl h

theorem ClipStore.setCurrent_bounded (i : Nat) (cur : Option Current) {s : ClipStore} (h : s.bounded) :
    (s.setCurrent i cur).bounded := h

theorem ClipStore.cut_bounded (i : Nat) {s : ClipStore} (h : s.bounded) : (s.cut i).bounded := by
  unfold ClipStore.cut
  split
  · exact ⟨h.1, bump_le _, h.2.2.1, (List.length_map _).le.trans h.2.2.2⟩
  · exact h

theorem ClipStore.endCurrent_bounded (i id : Nat) {s : ClipStore} (h : s.bounded) : (s.endCurrent i id).bounded :=
  ClipStore.update_bounded _ _ h

theorem ClipStore.startEngine_bounded (show_ : ShowControl) (t i : Nat) (again : Bool) (fuel : Nat) {s : ClipStore}
    (h : s.bounded) : (s.startEngine show_ t i again fuel).1.bounded :=
  ClipStore.startEngine_induct (P := ClipStore.bounded) (fun _ h => ClipStore.cut_bounded i h)
    (fun _ _ h _ _ => ClipStore.update_bounded _ _ (ClipStore.cut_bounded i h))
    (fun _ _ h _ _ => ClipStore.update_bounded _ _ (ClipStore.cut_bounded i h)) again fuel h

theorem ClipStore.supplyEngine_bounded (t i : Nat) {s : ClipStore} (h : s.bounded) : (s.supplyEngine t i).1.bounded :=
  ClipStore.supplyEngine_induct (P := ClipStore.bounded) h (fun _ h => ⟨h.1, h.2.1, bump_le _, h.2.2.2⟩)
    (fun _ _ _ _ h _ _ _ => h) (fun _ _ _ h _ _ => ClipStore.endCurrent_bounded _ _ h)

theorem ClipStore.progress_bounded (show_ : ShowControl) {s : ClipStore} (h : s.bounded) : (s.progress show_).store.bounded :=
  ClipStore.progress_induct (P := ClipStore.bounded) h
    (fun _ _ => ClipStore.bounded_of_clips (List.length_filter_le _ _) rfl rfl rfl)
    (fun _ _ h => ⟨bumpBy_le _ _, h.2.1, h.2.2.1, (List.length_map _).le.trans h.2.2.2⟩)
    (fun _ _ h => ⟨bumpBy_le _ _, h.2.1, h.2.2.1, (List.length_map _).le.trans h.2.2.2⟩)
    (fun t _ h => ClipStore.starting_induct (P := ClipStore.bounded)
      (fun i _ fuel _ h => ClipStore.startEngine_bounded show_ t i false fuel h) h)
    (fun t _ h => ClipStore.supply_induct (P := ClipStore.bounded) (fun i _ _ h => ClipStore.supplyEngine_bounded t i h) h)
    (fun _ h => h)

theorem ClipStore.reevaluate_bounded (show_ : ShowControl) (t : Nat) (jump : Bool) {s : ClipStore} (h : s.bounded) :
    (s.reevaluate show_ t jump).1.bounded := ⟨bumpBy_le _ _, h.2.1, h.2.2.1, (List.length_map _).le.trans h.2.2.2⟩

theorem ClipStore.freeze_bounded (show_ : ShowControl) {s : ClipStore} (h : s.bounded) : (s.freeze show_).bounded :=
  ClipStore.bounded_of_clips (s := s) (List.length_map _).le rfl rfl rfl h

theorem ClipStore.endShow_bounded {s : ClipStore} (h : s.bounded) : s.endShow.bounded :=
  ClipStore.bounded_of_clips (s := s) (List.length_map _).le rfl rfl rfl h

theorem ClipStore.clearAll_bounded {s : ClipStore} (h : s.bounded) : s.clearAll.bounded :=
  ⟨h.1, h.2.1, h.2.2.1, Nat.zero_le _⟩

theorem ClipStore.makeRoom_bounded {p : Nat} {s s' : ClipStore} (h : s.bounded) (room : s.makeRoom p = some s') :
    s'.bounded ∧ s'.clips.length < Config.maxClips := by
  refine ⟨ClipStore.evictUntil_induct (P := ClipStore.bounded)
    (fun _ _ _ => ClipStore.bounded_of_clips (List.length_filter_le _ _) rfl rfl rfl) h room, ?_⟩
  have fits := ClipStore.fits_of_evictUntil room
  simp only [ClipStore.fits, Bool.and_eq_true, decide_eq_true_eq] at fits
  exact fits.1

theorem ClipStore.insert_bounded (show_ : ShowControl) (id track start length : Nat) {s : ClipStore} (h : s.bounded)
    (room : s.clips.length < Config.maxClips) : (s.insert show_ id track start length).bounded := by
  refine ⟨h.1, h.2.1, h.2.2.1, ?_⟩
  simp only [ClipStore.insert, ClipStore.rechoose, List.length_append, List.length_singleton]
  omega

theorem ClipStore.writeBlocks_bounded (c : Clip) (first : Nat) (blocks : List (List Byte)) {s : ClipStore} (h : s.bounded) :
    (s.writeBlocks c first blocks).bounded := by
  induction blocks generalizing first s with
  | nil => exact h
  | cons b bs ih => exact ih (first + 1) h

theorem ClipStore.lateRule_bounded (show_ : ShowControl) (c : Clip) {s : ClipStore} (h : s.bounded) :
    (s.lateRule show_ c).bounded := by
  unfold ClipStore.lateRule
  split
  · have spent := ClipStore.update_bounded c.id (fun c => { c with state := .spent }) h
    exact ⟨bump_le _, spent.2⟩
  · split
    · exact ClipStore.update_bounded _ _ (ClipStore.cut_bounded _ h)
    · exact h

theorem ClipStore.takeData_bounded (show_ : ShowControl) (c : Clip) (first : Nat) (blocks : List (List Byte)) {s : ClipStore}
    (h : s.bounded) : (s.takeData show_ c first blocks).bounded := by
  have written := ClipStore.update_bounded c.id (fun k => { k with loaded := setLoaded c.loaded first blocks.length })
    (ClipStore.writeBlocks_bounded c first blocks h)
  unfold ClipStore.takeData
  dsimp only
  refine ClipStore.rechoose_bounded show_ ?_
  (repeat' split)
  · exact ClipStore.update_bounded _ _ written
  · exact ClipStore.lateRule_bounded show_ c written
  · exact written
  · exact written

theorem ClipStore.cancel_bounded (show_ : ShowControl) (id : Nat) {s : ClipStore} (h : s.bounded) :
    (s.cancel show_ id).bounded :=
  ClipStore.bounded_of_clips (s := s) (List.length_filter_le _ _) rfl rfl rfl h

/-! ## Show control, radio port and roster -/

theorem ShowControl.offerGate_bounded (t now : Nat) {c : ShowControl} (h : c.bounded) : (c.offerGate t now).bounded := by
  unfold ShowControl.offerGate
  dsimp only
  (repeat' split)
  · exact h
  · exact h
  · exact h
  · exact ⟨h.1, bump_le _⟩

theorem ShowControl.applyRunning_bounded (t now : Nat) (running : Bool) {c : ShowControl} (h : c.bounded) :
    (c.applyRunning t now running).bounded := by
  unfold ShowControl.applyRunning
  split
  · exact ShowControl.offerGate_bounded t now h
  · exact h

theorem ShowControl.advance_bounded (dt : Nat) {c : ShowControl} (h : c.bounded) : (c.advance dt).bounded := by
  unfold ShowControl.advance
  dsimp only
  split
  · rw [ShowControl.advanceClock_eq]
    exact h
  · exact h

theorem RadioPort.with_lockSkip {r r' : RadioPort} (skip : r'.lockSkip = r.lockSkip) (garbled : r'.garbled = r.garbled)
    (h : r.bounded) : r'.bounded := ⟨skip ▸ h.1, garbled ▸ h.2⟩

theorem Roster.offer_bounded (a : Ack) {r : Roster} (h : r.bounded) : (r.offer a).bounded := by
  unfold Roster.offer
  split
  · refine ⟨h.1, h.2.1, ?_, h.2.2.2⟩
    simp only [List.length_append, List.length_singleton]
    omega
  · exact ⟨bump_le _, h.2⟩

theorem Roster.refused_bounded {r : Roster} (h : r.bounded) : r.refused.bounded := ⟨h.1, bump_le _, h.2.2⟩

theorem Roster.renewed_bounded (receiver : BitVec 32) (track : Option Nat) {r : Roster} (h : r.bounded) :
    (r.renewed receiver track).bounded := ⟨h.1, h.2.1, h.2.2.1, (List.length_map _).le.trans h.2.2.2⟩

theorem Roster.join_bounded (number : Nat) (c : ShowControl) (receiver : BitVec 32) (k : Ticket) {r : Roster}
    (h : r.bounded) : (r.join number c receiver k).1.bounded := by
  unfold Roster.join Roster.enroll
  (repeat' split)
  · exact Roster.refused_bounded h
  · exact Roster.renewed_bounded _ _ h
  · refine ⟨h.1, h.2.1, h.2.2.1, ?_⟩
    simp only [List.length_append, List.length_singleton]
    omega
  · exact Roster.refused_bounded h

theorem Roster.renew_bounded (receiver : BitVec 32) {r : Roster} (h : r.bounded) : (r.renew receiver).1.bounded := by
  unfold Roster.renew
  split
  · exact Roster.renewed_bounded _ _ h
  · exact h

theorem Roster.leave_bounded (receiver : BitVec 32) {r : Roster} (h : r.bounded) : (r.leave receiver).1.bounded := by
  unfold Roster.leave
  split
  · exact ⟨h.1, h.2.1, h.2.2.1, (List.length_filter_le _ _).trans h.2.2.2⟩
  · exact h

/-- Draining only shortens the queue of acknowledgements. -/
theorem drainAcks_length (fuel : Nat) (acks : List Ack) (d : Draft) : (drainAcks fuel acks d).2.length ≤ acks.length := by
  induction fuel generalizing acks d with
  | zero => exact le_rfl
  | succ fuel ih =>
    unfold drainAcks
    split
    · exact le_rfl
    · refine (ih _ _).trans ?_
      rw [List.length_drop]
      exact Nat.sub_le _ _

/-! ## The station's operations -/

section
variable {s : State}

theorem State.handOver_bounded (b : WaitingBody) (h : s.bounded) : (s.handOver b).bounded := by
  unfold State.handOver
  split
  · exact ⟨HouseLine.hand_bounded b h.1, h.2⟩
  · exact h

theorem State.setPm_bounded {p : PositionManager} (hp : p.bounded) (h : s.bounded) : State.bounded { s with pm := p } :=
  ⟨h.1, hp, h.2.2⟩

theorem State.raise_bounded (e : Event) (h : s.bounded) : (s.raise e).bounded :=
  ⟨h.1, h.2.1, ShowLink.raise_bounded e h.2.2.1, h.2.2.2⟩

theorem State.refuse_bounded (r : RefusalRecord) (h : s.bounded) : (s.refuse r).bounded :=
  ⟨h.1, h.2.1, ShowLink.handRefusal_keeps_bounded r h.2.2.1, h.2.2.2⟩

theorem State.bounded_of_radio {r : RadioPort} (hr : r.bounded) (h : s.bounded) : State.bounded { s with radio := r } := by
  obtain ⟨line, pm, link, show_, cues, clips, plan, -, roster⟩ := h
  exact ⟨line, pm, link, show_, cues, clips, plan, hr, roster⟩

theorem RadioPort.tune_bounded (now : Nat) (c : Fin 8) {r : RadioPort} (h : r.bounded) : (r.tune now c).bounded := h

theorem State.need_bounded (c : Option (Fin 8)) (h : s.bounded) : (s.need c).bounded := by
  unfold State.need
  (repeat' split)
  · exact h
  · exact State.bounded_of_radio (RadioPort.tune_bounded _ _ h.2.2.2.2.2.2.2.1) h
  · exact h

theorem State.retune_bounded (h : s.bounded) : s.retune.bounded := by
  unfold State.retune
  split
  · exact State.need_bounded _ h
  · exact h

theorem State.setProgress_bounded (p : Position) (g : Progress) (h : s.bounded) : (s.setProgress p g).bounded := h

theorem State.reportUnsent_bounded (p : Position) (h : s.bounded) : (s.reportUnsent p).bounded := h

theorem State.cancelBurst_bounded (p : Position) (h : s.bounded) : (s.cancelBurst p).bounded := by
  unfold State.cancelBurst
  dsimp only
  (repeat' split)
  · exact h
  · exact State.retune_bounded h
  · exact h

theorem bounded_managerKeeps : ManagerKeeps State.bounded where
  fewer less h := by
    refine State.setPm_bounded ⟨?_, ?_⟩ h
    · obtain same | counted := less.evictions
      · exact same ▸ h.2.1.1
      · exact counted ▸ bump_le _
    · obtain same | counted := less.abandoned
      · exact same ▸ h.2.1.2
      · exact counted ▸ bump_le _
  claim _ _ h := State.handOver_bounded _ (State.setPm_bounded h.2.1 h)
  hand b h := State.handOver_bounded b h
  withdraw c h := ⟨HouseLine.withdrawClaim_bounded c h.1, h.2⟩
  cancel p h := State.cancelBurst_bounded p h
  raise e h := State.raise_bounded e h
  timing _ h := h

end

end Sys2Proof.Machine

namespace Sys2Proof.Machine

/-! ## What a composition writes (R64) -/

/-- The state with cues and clips progressed, these acknowledgements left and this plan built. -/
def State.composed (left : List Ack) (plan : Composer) (s : State) : State :=
  { s with
    cues := (s.cues.progress s.show_.state s.show_.clock s.timing.frameNumber).built s.timing.frameNumber
    clips := (s.clips.progress s.show_).store
    roster := { s.roster with acks := left }
    plan := plan
    link := if (s.clips.progress s.show_).late then s.link.raise .lateClip else s.link }

theorem burstsFrom_length (beacon : Option Position) (ps : List Position) (places : Places) :
    (burstsFrom beacon ps places).length = ps.length := by
  induction ps generalizing places with
  | nil => rfl
  | cons p ps ih => simp [burstsFrom, ih]

theorem heldInSlotOrder_length (hs : List Stamped) : (heldInSlotOrder hs).length = hs.length := by
  simp [heldInSlotOrder, length_sortBy]

/-- One burst for each holding, and then perhaps the port tuned. -/
theorem State.compose_cases (s : State) : ∃ left plan c, left.length ≤ s.roster.acks.length
    ∧ plan.bursts.length = s.pm.holdings.length ∧ plan.underrun ≤ Config.counterMax
    ∧ (s.compose = s.composed left plan ∨ s.compose = (s.composed left plan).need c) := by
  unfold State.compose
  dsimp only
  split
  · exact ⟨_, _, none, drainAcks_length _ _ _, (burstsFrom_length _ _ _).trans (heldInSlotOrder_length _), bumpBy_le _ _,
      .inl rfl⟩
  · exact ⟨_, _, _, drainAcks_length _ _ _, (burstsFrom_length _ _ _).trans (heldInSlotOrder_length _), bumpBy_le _ _,
      .inr rfl⟩

/-! ## Every effect keeps the bounds -/

section
variable {s : State}

theorem State.composed_bounded {left : List Ack} {plan : Composer} (hleft : left.length ≤ s.roster.acks.length)
    (hplan : plan.underrun ≤ Config.counterMax) (h : s.bounded) : (s.composed left plan).bounded := by
  obtain ⟨line, pm, link, show_, cues, clips, -, radio, lost, refusals, acks, entries⟩ := h
  refine ⟨line, pm, ?_, show_, CueQueue.built_bounded _ (CueQueue.progress_bounded _ _ _ cues),
    ClipStore.progress_bounded _ clips, hplan, radio, lost, refusals, hleft.trans acks, entries⟩
  simp only [State.composed]
  split
  · exact ShowLink.raise_bounded _ link
  · exact link

theorem State.compose_bounded (h : s.bounded) : s.compose.bounded := by
  obtain ⟨left, plan, c, hleft, -, hplan, same | tuned⟩ := s.compose_cases
  · exact same ▸ State.composed_bounded hleft hplan h
  · exact tuned ▸ State.need_bounded c (State.composed_bounded hleft hplan h)

theorem State.secondTick_bounded (h : s.bounded) : s.secondTick.bounded :=
  ⟨h.1, h.2.1, ShowLink.handStatus_keeps_bounded h.2.2.1, h.2.2.2⟩

theorem State.boundaryWork_bounded (r silent : Bool) (h : s.bounded) : (s.boundaryWork r silent).bounded := by
  refine bounded_managerKeeps.boundaryWork r silent ?_ (fun _ => State.compose_bounded) (fun _ h => h)
  unfold State.ticked
  split
  · exact State.secondTick_bounded h
  · exact h

theorem State.adopt_bounded (r : Bool) (h : s.bounded) : (s.adopt r).bounded :=
  bounded_managerKeeps.adopt r
    (fun _ _ _ ht => ⟨HouseLine.adopt_bounded _ ht.1, ht.2.1, ht.2.2.1, ht.2.2.2.1, CueQueue.adopt_bounded _ h.2.2.2.2.1,
      ht.2.2.2.2.2⟩) (fun _ => State.boundaryWork_bounded r false) h

theorem State.bounded_of_cues {q : CueQueue} (hq : q.bounded) (h : s.bounded) : State.bounded { s with cues := q } := by
  obtain ⟨line, pm, link, show_, -, rest⟩ := h
  exact ⟨line, pm, link, show_, hq, rest⟩

theorem State.bounded_of_clips {c : ClipStore} (hc : c.bounded) (h : s.bounded) : State.bounded { s with clips := c } := by
  obtain ⟨line, pm, link, show_, cues, -, rest⟩ := h
  exact ⟨line, pm, link, show_, cues, hc, rest⟩

theorem State.bounded_of_show {c : ShowControl} (hc : c.bounded) (h : s.bounded) : State.bounded { s with show_ := c } := by
  obtain ⟨line, pm, link, -, rest⟩ := h
  exact ⟨line, pm, link, hc, rest⟩

theorem State.bounded_of_roster {r : Roster} (hr : r.bounded) (h : s.bounded) : State.bounded { s with roster := r } := by
  obtain ⟨line, pm, link, show_, cues, clips, plan, radio, -⟩ := h
  exact ⟨line, pm, link, show_, cues, clips, plan, radio, hr⟩

theorem State.bounded_of_line {l : HouseLine} (hl : l.bounded) (h : s.bounded) : State.bounded { s with line := l } :=
  ⟨hl, h.2⟩

theorem State.bounded_of_link {k : ShowLink} (hk : k.bounded) (h : s.bounded) : State.bounded { s with link := k } :=
  ⟨h.1, h.2.1, hk, h.2.2.2⟩

/-! ### Show control's signals -/

theorem State.signalEmpty_bounded (h : s.bounded) : s.signalEmpty.bounded := by
  have demand := bounded_managerKeeps.demandNewShow h
  rw [State.signalEmpty_eq]
  obtain ⟨line, pm, -⟩ := demand
  obtain ⟨-, -, link, show_, cues, clips, plan, radio, roster⟩ := h
  exact ⟨line, pm, link, show_, CueQueue.clearAll_bounded cues, ClipStore.clearAll_bounded clips, plan, radio, roster.1,
    roster.2.1, Nat.zero_le _, Nat.zero_le _⟩

theorem State.signalState_bounded (before : ShowState) (h : s.bounded) : (s.signalState before).bounded := by
  unfold State.signalState
  split
  · exact h
  · exact bounded_managerKeeps.recomputeDemand (State.bounded_of_clips h.2.2.2.2.2.1 h)

theorem State.signalEnded_bounded (h : s.bounded) : s.signalEnded.bounded :=
  bounded_managerKeeps.recomputeDemand (State.bounded_of_clips (s := { s with cues := s.cues.endShow })
    (ClipStore.endShow_bounded h.2.2.2.2.2.1) (State.bounded_of_cues (CueQueue.moveAll_bounded _ h.2.2.2.2.1) h))

theorem State.signalFreeze_bounded (h : s.bounded) : s.signalFreeze.bounded :=
  State.bounded_of_clips (s := { s with cues := s.cues.freeze }) (ClipStore.freeze_bounded s.show_ h.2.2.2.2.2.1)
    (State.bounded_of_cues (CueQueue.moveAll_bounded _ h.2.2.2.2.1) h)

theorem State.signalReevaluate_bounded (jump : Bool) (h : s.bounded) : (s.signalReevaluate jump).bounded := by
  have set : State.bounded { s with
      cues := s.cues.reevaluate s.show_.clock jump s.timing.frameNumber
      clips := (s.clips.reevaluate s.show_ s.show_.clock jump).1 } :=
    State.bounded_of_clips (s := { s with cues := _ }) (ClipStore.reevaluate_bounded _ _ _ h.2.2.2.2.2.1)
      (State.bounded_of_cues (CueQueue.reevaluate_bounded _ _ _ h.2.2.2.2.1) h)
  unfold State.signalReevaluate
  dsimp only
  split
  · exact State.raise_bounded _ set
  · exact set

theorem State.clearShow_bounded (h : s.bounded) : s.clearShow.bounded := by
  rw [State.clearShow_eq]
  exact State.signalEmpty_bounded (s := { s with show_ := s.show_.clear }) h

theorem State.jumpTo_bounded (t : Nat) (h : s.bounded) : (s.jumpTo t).bounded :=
  State.signalReevaluate_bounded true (State.raise_bounded _ (State.bounded_of_show ⟨bump_le _, h.2.2.2.1.2⟩ h))

theorem State.markClock_bounded (t : Nat) (h : s.bounded) : (s.markClock t).bounded := by
  unfold State.markClock
  (repeat' split)
  · exact State.signalReevaluate_bounded false (s := { s with show_ := s.show_.place t }) h
  · exact State.jumpTo_bounded t h
  · exact h
  · exact State.jumpTo_bounded t h

theorem State.takeMark_bounded (t : Nat) (running : Bool) (h : s.bounded) : (s.takeMark t running).bounded := by
  have placed := State.markClock_bounded t (s := { s with show_ := { s.show_ with markLoss := some 0 } }) h
  exact State.signalState_bounded _
    (State.bounded_of_show (ShowControl.applyRunning_bounded _ _ _ placed.2.2.2.1) placed)

/-! ### Records -/

theorem State.clipData_bounded (id first : Nat) (blocks : List (List Byte)) (h : s.bounded) :
    (s.clipData id first blocks).bounded := by
  unfold State.clipData
  (repeat' split)
  · exact State.refuse_bounded _ h
  · exact State.bounded_of_clips (ClipStore.takeData_bounded _ _ _ _ h.2.2.2.2.2.1) h
  · exact h

theorem State.clipHead_bounded (id track start length : Nat) (h : s.bounded) : (s.clipHead id track start length).bounded := by
  unfold State.clipHead
  (repeat' split)
  · exact State.refuse_bounded _ h
  · rename_i room
    obtain ⟨bounded, fits⟩ := ClipStore.makeRoom_bounded h.2.2.2.2.2.1 room
    exact State.bounded_of_clips (ClipStore.insert_bounded _ _ _ _ _ bounded fits) h
  · exact State.raise_bounded _ (State.refuse_bounded _ h)

theorem State.cue_bounded (track start stop region : Nat) (italic speakerChange : Bool) (text : List Byte)
    (h : s.bounded) : (s.cue track start stop region italic speakerChange text).bounded := by
  unfold State.cue
  (repeat' split)
  · exact State.refuse_bounded _ h
  · exact State.bounded_of_cues (CueQueue.take_bounded _ _ h.2.2.2.2.1 ‹_›) h
  · exact State.raise_bounded _ (State.refuse_bounded _ h)

theorem Record.taken_bounded (r : Record) (h : s.bounded) : (r.taken s).bounded := by
  cases r with
  | showLoad session time tracks =>
    simp only [Record.taken, State.showLoad]
    split
    · exact State.refuse_bounded _ h
    · exact State.signalState_bounded _
        (State.signalEmpty_bounded (s := { s with show_ := s.show_.load session time tracks }) h)
  | showEnd =>
    simp only [Record.taken, State.showEnd]
    split
    · exact State.signalState_bounded _ (State.signalEnded_bounded (s := { s with show_ := s.show_.endShow }) h)
    · exact State.refuse_bounded _ h
  | showClear => exact State.clearShow_bounded h
  | mark t running =>
    simp only [Record.taken, State.mark]
    (repeat' split)
    · exact State.refuse_bounded _ h
    · exact State.refuse_bounded _ h
    · exact State.takeMark_bounded t running h
  | tableLoad table first values =>
    simp only [Record.taken, State.tableLoad]
    split
    · exact State.refuse_bounded _ h
    · exact h
  | cue => exact State.cue_bounded _ _ _ _ _ _ _ h
  | cueCancel track start =>
    simp only [Record.taken, State.cueCancel]
    split
    · exact State.refuse_bounded _ h
    · exact State.bounded_of_cues (CueQueue.cancel_bounded _ _ h.2.2.2.2.1) h
  | clipHead => exact State.clipHead_bounded _ _ _ _ h
  | clipData => exact State.clipData_bounded _ _ _ h
  | clipCancel id =>
    simp only [Record.taken, State.clipCancel]
    (repeat' split)
    · exact State.refuse_bounded _ h
    · exact State.refuse_bounded _ h
    · exact State.bounded_of_clips (ClipStore.cancel_bounded _ _ h.2.2.2.2.2.1) h
  | eventAck events => exact h

/-! ### The radio port, the roster, the line and the receiver -/

theorem State.reportSent_bounded (p : Position) (h : s.bounded) : (s.reportSent p).bounded := by
  have cleared : ((s.plan.clears.filter (fun c => c.burst == p)).foldl (fun q c => q.clearSent c.serial) s.cues).bounded :=
    List.foldlRecOn (motive := CueQueue.bounded) _ _ h.2.2.2.2.1 fun _ h _ _ => CueQueue.clearSent_bounded _ h
  exact State.bounded_of_cues (s := { s with plan := _ })
    (List.foldlRecOn (motive := CueQueue.bounded) _ _ cleared fun _ h _ _ => CueQueue.placed_bounded _ _ h) h

theorem State.burstStart_bounded (h : s.bounded) : s.burstStart.bounded := by
  have radio := h.2.2.2.2.2.2.2.1
  unfold State.burstStart
  (repeat' split)
  · exact State.bounded_of_radio (r := { s.radio with activity := _, onAir := _ }) radio h
  · exact State.reportUnsent_bounded _ (State.setProgress_bounded _ _
      (State.bounded_of_radio (s := s) ⟨bump_le _, radio.2⟩ h))
  · exact h
  · exact h

theorem State.burstSent_bounded (h : s.bounded) : s.burstSent.bounded := by
  have radio := h.2.2.2.2.2.2.2.1
  unfold State.burstSent
  split
  · exact State.reportSent_bounded _
      (State.bounded_of_radio (r := { s.radio with activity := .gap, onAir := none }) radio h)
  · exact State.bounded_of_radio (r := { s.radio with activity := _, onAir := none }) radio h

theorem State.slotEnd_bounded (h : s.bounded) : s.slotEnd.bounded := by
  unfold State.slotEnd
  split
  · exact h
  · exact h
  · exact State.retune_bounded (s := { s with radio := { s.radio with activity := .idle } }) h

theorem State.answer_bounded (receiver : BitVec 32) {decision : Roster × JoinResult} (hd : decision.1.bounded)
    (h : s.bounded) : (s.answer receiver decision).bounded := by
  have decided : State.bounded { s with roster := decision.1 } := State.bounded_of_roster hd h
  have reported : State.bounded (if decision.1.counts == s.roster.counts then { s with roster := decision.1 }
      else State.countReport { s with roster := decision.1 }) := by
    split
    · exact decided
    · exact bounded_managerKeeps.countReport decided
  exact State.bounded_of_roster (Roster.offer_bounded _ reported.2.2.2.2.2.2.2.2) reported

theorem State.handleReply_bounded (receiver : BitVec 32) {decide_ : Roster → Roster × JoinResult}
    (hd : s.roster.bounded → (decide_ s.roster).1.bounded) (h : s.bounded) : (s.handleReply receiver decide_).bounded := by
  unfold State.handleReply
  dsimp only
  (repeat' split)
  · exact h
  · exact State.answer_bounded (s := s.gapUsed) receiver (hd h.2.2.2.2.2.2.2.2) h
  · exact h

theorem State.stopRadio_bounded (h : s.bounded) : s.stopRadio.bounded := by
  have stopped : ∀ bs : List Burst, (bs.foldl (fun s b => (s.setProgress b.position
      (if b.progress == .sending then .cut else .cancelled)).reportUnsent b.position) s).bounded :=
    fun bs => List.foldlRecOn (motive := State.bounded) bs _ h fun _ h b _ =>
      State.reportUnsent_bounded b.position (State.setProgress_bounded b.position _ h)
  exact State.bounded_of_radio (stopped _).2.2.2.2.2.2.2.1 (stopped _)

theorem State.ownNumberHeard_bounded (h : s.bounded) : s.ownNumberHeard.bounded := by
  unfold State.ownNumberHeard
  split
  · have stopped := State.stopRadio_bounded h
    refine State.raise_bounded _ ⟨HouseLine.stop_bounded stopped.1, ⟨stopped.2.1.1, ?_⟩, stopped.2.2⟩
    simp only [State.leaveJoined, PositionManager.leaveJoined]
    split
    · exact bump_le _
    · exact stopped.2.1.2
  · exact State.raise_bounded _ (bounded_managerKeeps.setTiming _
      (s := { s with loader := { s.loader with station := .duplicateFault } }) h)
  · exact h

theorem State.queueRecord_bounded (r : Record) (h : s.bounded) : (s.queueRecord r).bounded := by
  obtain ⟨line, pm, ⟨overrun, dropped, rx, out⟩, rest⟩ := h
  unfold State.queueRecord
  split
  · refine ⟨line, pm, ⟨overrun, dropped, ?_, out⟩, rest⟩
    simp only [List.length_append, List.length_singleton]
    omega
  · exact State.raise_bounded _ ⟨line, pm, ⟨bump_le _, dropped, rx, out⟩, rest⟩

theorem State.recordComplete_bounded (bs : List Byte) (h : s.bounded) : (s.recordComplete bs).bounded := by
  unfold State.recordComplete
  (repeat' split)
  · exact State.refuse_bounded (s := s.setFraming .hunt) _ h
  · exact State.queueRecord_bounded (s := s.setFraming .hunt) _ h
  · exact h

theorem State.breakRecord_bounded (bs : List Byte) (reason : Reason) (h : s.bounded) : (s.breakRecord bs reason).bounded :=
  State.refuse_bounded (s := s.setFraming .hunt) _ h

theorem State.badMessage_bounded (message : List Byte) (brokeOff : Bool) (h : s.bounded) :
    (s.badMessage message brokeOff).bounded := by
  unfold State.badMessage
  dsimp only
  split
  · refine State.bounded_of_line ⟨h.1.1, h.1.2.1, ?_, h.1.2.2.2⟩ h
    split
    · exact bump_le _
    · exact h.1.2.2.1
  · exact h

theorem State.messageStart_bounded (h : s.bounded) : s.messageStart.bounded := by
  unfold State.messageStart
  split
  · rename_i w rest hq
    have shorter : rest.length ≤ Config.maxMessages := by
      have queue := h.1.2.2.2
      rw [hq, List.length_cons] at queue
      omega
    (repeat' split)
    · exact State.bounded_of_line ⟨h.1.1, h.1.2.1, h.1.2.2.1, shorter⟩ h
    · exact State.bounded_of_line ⟨h.1.1, h.1.2.1, h.1.2.2.1, shorter⟩ h
    · exact h
  · exact h

theorem State.lineConflict_bounded (h : s.bounded) : s.lineConflict.bounded := by
  unfold State.lineConflict
  split
  · exact State.bounded_of_line (HouseLine.returnMessage_bounded _ ⟨bump_le _, h.1.2⟩) h
  · exact h

theorem coldStart_bounded (s : State) : s.coldStart.bounded := by
  obtain ⟨-, counters, queues, -⟩ := resetSatisfiesEveryInvariant
  have reset := State.reset.bounded_iff.2 ⟨counters, queues⟩
  exact State.bounded_of_radio (s := { State.reset with pending := s.pending, loader := _ })
    reset.2.2.2.2.2.2.2.1 reset

/-- What the head of the receive queue leaves behind is shorter. -/
theorem State.dropHead_bounded (h : s.bounded) : s.dropHead.bounded := by
  obtain ⟨line, pm, ⟨overrun, dropped, rx, out⟩, rest⟩ := h
  refine ⟨line, pm, ⟨overrun, dropped, ?_, out⟩, rest⟩
  simp only [State.dropHead, List.length_tail]
  omega

theorem effect_bounded (c : Instr) (h : s.bounded) : (c.effect s).bounded := by
  have manager := bounded_managerKeeps
  refine effect_induct c h (fun r => Record.taken_bounded r (State.dropHead_bounded h))
    (fun _ => State.ownNumberHeard_bounded (State.bounded_of_line (l := s.line.endMessage) h.1 h))
    (fun m _ _ _ => manager.messageReaction c (manager.setTiming _ (State.bounded_of_line (s := { s with peers := _ })
      (l := s.line.endMessage) h.1 h))) (fun hc hm => ?_)
  cases c
  case powerOn => exact (effect_of_coldStart h coldStart_bounded 0).1
  case powerLoss => exact coldStart_bounded _
  case restartLine _ width => exact (effect_of_coldStart h coldStart_bounded width).2.2.1
  case restartLineReleased => exact (effect_of_coldStart h coldStart_bounded 0).2.2.2
  case configReadComplete image =>
    simp only [Instr.effect, State.configReadComplete]
    (repeat' split)
    · exact State.secondTick_bounded (s := { s with
        loader := _, timing := _, link := { s.link with framing := .idleWait, idleMicros := 0 } }) h
    · exact h
    · exact h
  case frameBoundary =>
    simp only [Instr.effect, State.frameBoundary]
    split
    · exact State.boundaryWork_bounded (s := { s with timing := s.timing.nextFrame }) _ _ h
    · exact h
  case claimWindowEnd => exact manager.claimWindowEnd h
  case holdDownRelease => exact manager.holdDownRelease h
  case starved => exact manager.becomeStarved h
  case rosterExpiry =>
    simp only [Instr.effect, State.rosterExpiry]
    split
    · have roster := h.2.2.2.2.2.2.2.2
      exact manager.countReport (State.bounded_of_roster
        ⟨roster.1, roster.2.1, roster.2.2.1, (List.length_filter_le _ _).trans roster.2.2.2⟩ h)
    · exact h
  case peerRecordExpiry n =>
    simp only [Instr.effect, State.peerRecordExpiry]
    split
    · exact manager.reviewTiming (s := { s with peers := removePeer s.peers n }) h
    · exact h
  case peerClaimPassed n =>
    simp only [Instr.effect, State.peerClaimPassed]
    (repeat' split)
    · exact manager.evictWhere (s := { s with peers := _ }) _ h
    · exact h
    · exact h
    · exact h
  case objectWindowPassed =>
    simp only [Instr.effect, State.objectWindowPassed]
    split
    · exact State.bounded_of_line (HouseLine.dropPassed_bounded _ h.1) h
    · exact h
  case listenEnd =>
    simp only [Instr.effect, State.listenEnd]
    split
    · exact manager.claimAttempt (manager.setTiming _ (s := { s with loader := { s.loader with station := .joined } }) h)
    · exact h
  case adoption =>
    simp only [Instr.effect, State.applyAdoption]
    split
    · exact State.adopt_bounded _ h
    · exact h
  case burstStart => exact State.burstStart_bounded h
  case burstSent => exact State.burstSent_bounded h
  case slotEnd => exact State.slotEnd_bounded h
  case lockAsserted | lockDropped => exact h
  case garbledReply =>
    simp only [Instr.effect, State.garbledReply]
    split
    · exact State.bounded_of_radio (s := s) (r := { s.radio with garbled := bump s.radio.garbled, activity := .gapDone })
        ⟨h.2.2.2.2.2.2.2.1.1, bump_le _⟩ h
    · exact h
  case join => exact State.handleReply_bounded _ (Roster.join_bounded _ _ _ _) h
  case renew => exact State.handleReply_bounded _ (Roster.renew_bounded _) h
  case leave => exact State.handleReply_bounded _ (Roster.leave_bounded _) h
  case houseLineReceiveStart =>
    simp only [Instr.effect, State.receiveStart]
    split <;> exact h
  case startMarkHeard =>
    simp only [Instr.effect, State.startMarkHeard]
    split <;> exact h
  case badMessage => exact State.badMessage_bounded _ _ h
  case messageStart => exact State.messageStart_bounded h
  case messageComplete =>
    simp only [Instr.effect, State.messageComplete]
    split <;> exact h
  case lineConflict => exact State.lineConflict_bounded h
  case idleWaitEnd =>
    simp only [Instr.effect, State.idleWaitEnd]
    split <;> exact h
  case idleWaitByte =>
    simp only [Instr.effect, State.idleWaitByte]
    split <;> exact h
  case recordStartMark =>
    simp only [Instr.effect, State.recordStartMark]
    split <;> exact h
  case recordComplete => exact State.recordComplete_bounded _ h
  case recordGap =>
    simp only [Instr.effect, State.recordGap]
    split
    · exact State.breakRecord_bounded _ _ h
    · exact h
  case recordBroken =>
    simp only [Instr.effect, State.recordBroken]
    (repeat' split)
    · exact State.breakRecord_bounded _ _ h
    · exact h
    · exact h
    · exact State.breakRecord_bounded _ _ h
    · exact h
    · exact h
  case outboundRecordSent => exact h
  case endedTimerExpiry =>
    simp only [Instr.effect, State.endedTimerExpiry]
    split
    · exact State.clearShow_bounded h
    · exact h
  case marksLost =>
    simp only [Instr.effect, State.marksLost]
    split
    · exact State.signalState_bounded _ (State.raise_bounded _
        (s := { s with show_ := { s.show_ with state := .coasting } }) h)
    · exact h
  case frozen =>
    simp only [Instr.effect, State.freeze]
    split
    · exact State.signalState_bounded _ (State.signalFreeze_bounded (State.raise_bounded _
        (s := { s with show_ := { s.show_ with state := .frozen, gate := none, markLoss := none } }) h))
    · exact h
  case announce | claim | object | release => cases hm
  case showLoad | showEnd | showClear | mark | tableLoad | cue | cueCancel | clipHead | clipData | clipCancel | eventAck =>
    cases hc

end

theorem advance_bounded (dt : Nat) {s : State} (h : s.bounded) : (advance dt s).bounded := by
  obtain ⟨line, pm, link, show_, rest⟩ := h
  unfold advance
  split
  · exact ⟨line, pm, link, show_, rest⟩
  · refine ⟨?_, pm, ?_, ShowControl.advance_bounded dt show_, rest⟩
    · rw [HouseLine.advance_eq]
      exact line
    · rw [ShowLink.advance_eq]
      exact link

theorem finish_bounded {s : State} (h : s.bounded) : (finish s).bounded := by
  obtain ⟨line, pm, ⟨overrun, dropped, rx, out, one⟩, rest⟩ := h
  have driven : s.driveLines.bounded := ⟨line, pm, ⟨overrun, dropped, rx, out, one⟩, rest⟩
  cases free : s.link.sending with
  | some r => exact finish_of_sending (s := s) (by simp [free]) ▸ driven
  | none =>
    match hq : s.link.outQueue with
    | [] => exact finish_of_nothing_waiting hq ▸ driven
    | .status :: waiting =>
      rw [finish_of_status free hq]
      rw [hq] at out one
      refine ⟨line, pm, ⟨overrun, dropped, rx, ?_, ?_⟩, rest⟩
      · simp only [List.length_cons] at out
        exact Nat.le_of_succ_le out
      · exact ((List.sublist_cons_self _ _).filter _).length_le.trans one
    | .refusal r :: waiting =>
      rw [finish_of_refusal free hq]
      rw [hq] at out one
      refine ⟨line, pm, ⟨overrun, dropped, rx, ?_, ?_⟩, rest⟩
      · simp only [List.length_cons] at out
        exact Nat.le_of_succ_le out
      · exact ((List.sublist_cons_self _ _).filter _).length_le.trans one

theorem step_bounded {s t : State} (hs : s.bounded) (h : step s = .next t) : t.bounded :=
  step_keeps (P := State.bounded) (fun _ _ h => h) (fun dt _ => advance_bounded dt) (fun c _ => effect_bounded c)
    (fun _ => finish_bounded) hs h

end Sys2Proof.Machine

/-! The peer table, the records' holdings, the burst plan and the track table stay within their sizes. -/

namespace Sys2Proof.Machine

/-! ## What the sizes rest on (R125, R128, R139, R169, R170) -/

/-- An image is in force exactly from LISTEN on, in its ranges; what is held and claimed is within its maximum. -/
def State.roomLegal (s : State) : Prop :=
  s.loader.config.isSome = s.loader.station.receives
    ∧ (∀ c, s.loader.config = some c → 1 ≤ c.number ∧ c.number ≤ 32 ∧ c.maxHoldings ≤ 4)
    ∧ s.pm.positions.length ≤ s.cfg.maxHoldings

/-- Records bear distinct numbers in range, none the station's own, and hold at most 4 positions each. -/
def legalPeers (own : Nat) (ps : List PeerRecord) : Prop :=
  (∀ r ∈ ps, r.holdings.length ≤ 4) ∧ (ps.map (·.number)).Nodup ∧ ∀ r ∈ ps, 1 ≤ r.number ∧ r.number ≤ 32 ∧ r.number ≠ own

/-- Nothing is heard before LISTEN, and the peer table is legal. -/
def State.peersLegal (s : State) : Prop :=
  (s.loader.station.receives = false → s.line.receiving = false ∧ s.peers = []) ∧ legalPeers s.cfg.number s.peers

/-- At most 8 tracks, and none exactly in NO SHOW. -/
def ShowControl.tracksLegal (c : ShowControl) : Prop := c.tracks.length ≤ 8 ∧ (c.state = .noShow ↔ c.tracks = [])

def State.tablesLegal (s : State) : Prop :=
  s.roomLegal ∧ s.peersLegal ∧ s.show_.tracksLegal ∧ s.plan.bursts.length ≤ 4

theorem positions_length (p : PositionManager) : p.positions.length = p.holdings.length + p.claim.toList.length := by
  simp [PositionManager.positions]

/-- Distinct numbers from 1 to 32 without the station's own are at most 31. -/
theorem length_of_legalPeers {own : Nat} {ps : List PeerRecord} (one : 1 ≤ own) (most : own ≤ 32) (h : legalPeers own ps) :
    ps.length ≤ 31 := by
  obtain ⟨-, distinct, range⟩ := h
  have within : (ps.map (·.number)).toFinset ⊆ (Finset.Icc 1 32).erase own := by
    intro n hn
    obtain ⟨r, hr, rfl⟩ := List.mem_map.1 (List.mem_toFinset.1 hn)
    obtain ⟨low, high, other⟩ := range r hr
    exact Finset.mem_erase.2 ⟨other, Finset.mem_Icc.2 ⟨low, high⟩⟩
  have count := Finset.card_le_card within
  rw [List.toFinset_card_of_nodup distinct, List.length_map,
    Finset.card_erase_of_mem (Finset.mem_Icc.2 ⟨one, most⟩), Nat.card_Icc] at count
  exact count

theorem State.tablesBounded_iff (s : State) : s.tablesBounded ↔ s.tablesLegal := by
  constructor
  · rintro ⟨-, held, plan, tracks, noShow, image, ranges, deaf, distinct, numbers, room⟩
    exact ⟨⟨image, ranges, (positions_length _).trans_le room⟩, ⟨deaf, held, distinct, numbers⟩, ⟨tracks, noShow⟩, plan⟩
  · rintro ⟨⟨image, ranges, room⟩, ⟨deaf, legal⟩, ⟨tracks, noShow⟩, plan⟩
    refine ⟨?_, legal.1, plan, tracks, noShow, image, ranges, deaf, legal.2.1, legal.2.2,
      (positions_length _).symm.trans_le room⟩
    cases config : s.loader.config with
    | none =>
      rw [config] at image
      rw [(deaf image.symm).2]
      exact Nat.zero_le _
    | some c =>
      obtain ⟨one, most, -⟩ := ranges c config
      refine length_of_legalPeers (own := s.cfg.number) ?_ ?_ legal
      · simpa [State.cfg, config] using one
      · simpa [State.cfg, config] using most

/-! ## A peer record's holdings (R128, R129, R131, R133) -/

theorem dedupHoldings_length (acc hs : List Stamped) : (dedupHoldings acc hs).length ≤ acc.length + hs.length := by
  induction hs generalizing acc with
  | nil => exact le_rfl
  | cons h hs ih =>
    unfold dedupHoldings
    split
    · refine (ih _).trans ?_
      simp only [List.length_map, List.length_cons]
      omega
    · refine (ih _).trans ?_
      simp only [List.length_append, List.length_cons, List.length_nil]
      omega

theorem withoutNewest_length (now : FrameNo) {hs : List Stamped} (h : hs ≠ []) :
    (withoutNewest now hs).length = hs.length - 1 := by
  have found := isSome_firstBy (fun a b : Stamped => age now a.stamp < age now b.stamp) hs.reverse
  unfold withoutNewest
  split
  · rename_i newest hn
    have member : newest ∈ hs.reverse := mem_of_firstBy hn
    simp [List.length_erase_of_mem member]
  · rename_i none_
    rw [none_] at found
    simp [h] at found

theorem addHolding_length (now : FrameNo) (restamp : Bool) (new : Stamped) {hs : List Stamped} (h : hs.length ≤ 4) :
    (addHolding now restamp new hs).length ≤ 4 := by
  unfold addHolding
  (repeat' split)
  · simpa using h
  · exact h
  · simp only [List.length_append, List.length_singleton]
    omega
  · rename_i full
    have some_ : hs ≠ [] := by
      rintro rfl
      exact full (by decide)
    rw [List.length_append, withoutNewest_length now some_, List.length_singleton]
    omega

/-- A change of a record that keeps its number and its holdings within 4. -/
def KeepsHoldings (f : PeerRecord → PeerRecord) : Prop :=
  ∀ r : PeerRecord, (f r).number = r.number ∧ (r.holdings.length ≤ 4 → (f r).holdings.length ≤ 4)

theorem PeerRecord.passClaim_keepsHoldings (f : FrameNo) : KeepsHoldings (PeerRecord.passClaim f) := by
  intro r
  unfold PeerRecord.passClaim
  split
  · exact ⟨rfl, addHolding_length _ _ _⟩
  · exact ⟨rfl, id⟩

theorem PeerRecord.takeAnnounce_keepsHoldings (f : FrameNo) {a : AnnounceFields} (h : a.holdings.length ≤ 4) :
    KeepsHoldings (PeerRecord.takeAnnounce f a) := by
  intro r
  have listed : (dedupHoldings [] a.holdings).length ≤ 4 := (dedupHoldings_length _ _).trans (by simpa using h)
  unfold PeerRecord.takeAnnounce
  dsimp only
  split
  · have passed := PeerRecord.passClaim_keepsHoldings f { r with
      neighbours := a.neighbours, holdings := dedupHoldings [] a.holdings, claim := a.claim.map r.claimOf
      stale := false }
    exact ⟨passed.1, fun _ => passed.2 listed⟩
  · exact ⟨rfl, fun _ => listed⟩

theorem PeerRecord.takeClaim_keepsHoldings (c : Stamped) : KeepsHoldings (PeerRecord.takeClaim c) := fun _ => ⟨rfl, id⟩

theorem PeerRecord.takeObject_keepsHoldings (f : FrameNo) (h : Stamped) : KeepsHoldings (PeerRecord.takeObject f h) :=
  fun _ => ⟨rfl, addHolding_length _ _ _⟩

theorem PeerRecord.loseClaim_keepsHoldings (p : Position) : KeepsHoldings (PeerRecord.loseClaim p) := by
  intro r
  unfold PeerRecord.loseClaim
  split
  · exact ⟨rfl, id⟩
  · exact ⟨rfl, id⟩

theorem PeerRecord.takeRelease_keepsHoldings (p : Position) : KeepsHoldings (PeerRecord.takeRelease p) :=
  fun _ => ⟨rfl, (List.length_filter_le _ _).trans⟩

theorem PeerRecord.hear_keepsHoldings (m : Sender) (d : Measurement) (f : FrameNo) : KeepsHoldings (PeerRecord.hear m d f) :=
  fun _ => ⟨rfl, id⟩

theorem PeerRecord.atAdoption_keepsHoldings (restep : Bool) (a : Adopted) :
    KeepsHoldings (PeerRecord.atAdoption restep a) := fun _ => ⟨rfl, id⟩

/-! ## The table (R125, R127, R134) -/

section
variable {own : Nat} {ps : List PeerRecord}

theorem legalPeers_map {f : PeerRecord → PeerRecord} (keeps : KeepsHoldings f) (h : legalPeers own ps) :
    legalPeers own (ps.map f) := by
  obtain ⟨held, distinct, numbers⟩ := h
  have same : (ps.map f).map (·.number) = ps.map (·.number) := by
    rw [List.map_map]
    exact List.map_congr_left fun r _ => (keeps r).1
  refine ⟨fun r' hr' => ?_, same ▸ distinct, fun r' hr' => ?_⟩
  · obtain ⟨r, hr, rfl⟩ := List.mem_map.1 hr'
    exact (keeps r).2 (held r hr)
  · obtain ⟨r, hr, rfl⟩ := List.mem_map.1 hr'
    rw [(keeps r).1]
    exact numbers r hr

theorem legalPeers_updatePeer {f : PeerRecord → PeerRecord} (keeps : KeepsHoldings f) (n : Nat) (h : legalPeers own ps) :
    legalPeers own (updatePeer ps n f) := by
  refine legalPeers_map (fun r => ?_) h
  split
  · exact keeps r
  · exact ⟨rfl, id⟩

theorem legalPeers_removePeer (n : Nat) (h : legalPeers own ps) : legalPeers own (removePeer ps n) := by
  have sub : (removePeer ps n).Sublist ps := List.filter_sublist
  exact ⟨fun r hr => h.1 r (sub.subset hr), h.2.1.sublist (sub.map _), fun r hr => h.2.2 r (sub.subset hr)⟩

theorem insertBy_perm {α : Type} (before : α → α → Bool) (x : α) (l : List α) : (insertBy before x l).Perm (x :: l) := by
  induction l with
  | nil => exact .refl _
  | cons y ys ih =>
    unfold insertBy
    split
    · exact (ih.cons y).trans (.swap x y ys)
    · exact .refl _

theorem legalPeers_ensurePeer {n : Nat} (one : 1 ≤ n) (most : n ≤ 32) (other : n ≠ own) (h : legalPeers own ps) :
    legalPeers own (ensurePeer ps n) := by
  obtain ⟨held, distinct, numbers⟩ := h
  unfold ensurePeer
  split
  · exact ⟨held, distinct, numbers⟩
  · rename_i new
    have order := insertBy_perm (fun a b => a.number < b.number) (PeerRecord.fresh n) ps
    refine ⟨fun r hr => ?_, (order.map (·.number)).nodup_iff.2 (List.nodup_cons.2 ⟨fun found => ?_, distinct⟩), fun r hr => ?_⟩
    · obtain rfl | hr := List.mem_cons.1 (order.subset hr)
      · exact Nat.zero_le _
      · exact held r hr
    · obtain ⟨r, hr, same⟩ := List.mem_map.1 found
      exact new (List.any_eq_true.2 ⟨r, hr, beq_iff_eq.2 same⟩)
    · obtain rfl | hr := List.mem_cons.1 (order.subset hr)
      · exact ⟨one, most, other⟩
      · exact numbers r hr

theorem legalPeers_takeCommon {m : Sender} (d : Measurement) (f : FrameNo) (wf : m.wf = true) (other : m.number ≠ own)
    (h : legalPeers own ps) : legalPeers own (takeCommon m d f ps) := by
  simp only [Sender.wf, stationNumberOk, Bool.and_eq_true, decide_eq_true_eq] at wf
  exact legalPeers_updatePeer (PeerRecord.hear_keepsHoldings m d f) _ (legalPeers_ensurePeer wf.1.1 wf.1.2 other h)

/-- What a well-formed message makes of the table. -/
theorem legalPeers_messageUpdate (f : FrameNo) {c : Instr} (wf : c.wf = true) (h : legalPeers own ps) :
    legalPeers own (messageUpdate f c ps) := by
  cases c
  case announce _ m a =>
    simp only [Instr.wf, AnnounceFields.wf, Bool.and_eq_true, decide_eq_true_eq] at wf
    exact legalPeers_updatePeer (PeerRecord.takeAnnounce_keepsHoldings f wf.2.2) _ h
  case claim => exact legalPeers_updatePeer (PeerRecord.takeClaim_keepsHoldings _) _ h
  case object =>
    exact legalPeers_updatePeer (PeerRecord.loseClaim_keepsHoldings _) _
      (legalPeers_updatePeer (PeerRecord.takeObject_keepsHoldings f _) _ h)
  case release => exact legalPeers_updatePeer (PeerRecord.takeRelease_keepsHoldings _) _ h
  all_goals exact h

theorem sender_wf {c : Instr} {m : Sender} (hm : messageSender c = some m) (wf : c.wf = true) : m.wf = true := by
  cases c
  all_goals cases hm
  case announce | object =>
    simp only [Instr.wf, Bool.and_eq_true] at wf
    exact wf.1
  case claim | release => exact wf

end

/-! ## Every effect of a well-formed command -/

section
variable {s t : State}

theorem State.roomLegal_of_same (h : s.roomLegal) (loader : t.loader = s.loader) (pm : t.pm = s.pm) : t.roomLegal := by
  rw [State.roomLegal, State.cfg, loader, pm]
  exact h

theorem State.peersLegal_of_same (h : s.peersLegal) (loader : t.loader = s.loader)
    (receiving : t.line.receiving = s.line.receiving) (peers : t.peers = s.peers) : t.peersLegal := by
  rw [State.peersLegal, State.cfg, loader, receiving, peers]
  exact h

theorem State.tablesLegal_of_same (h : s.tablesLegal) (loader : t.loader = s.loader) (pm : t.pm = s.pm)
    (receiving : t.line.receiving = s.line.receiving) (peers : t.peers = s.peers) (show_ : t.show_ = s.show_)
    (plan : t.plan = s.plan) : t.tablesLegal :=
  ⟨State.roomLegal_of_same h.1 loader pm, State.peersLegal_of_same h.2.1 loader receiving peers, show_ ▸ h.2.2.1,
    plan ▸ h.2.2.2⟩

theorem HouseLine.join_receiving (m : Waiting) (l : HouseLine) : (l.join m).receiving = l.receiving := by
  unfold HouseLine.join
  (repeat' split) <;> rfl

@[simp] theorem State.handOver_receiving (b : WaitingBody) (s : State) :
    (s.handOver b).line.receiving = s.line.receiving := by
  unfold State.handOver
  split
  · exact HouseLine.join_receiving _ _
  · rfl

/-- The holdings of a legal state are at most 4. -/
theorem State.roomLegal.holdings_le (h : s.roomLegal) : s.pm.holdings.length ≤ 4 := by
  obtain ⟨-, ranges, room⟩ := h
  rw [positions_length] at room
  cases config : s.loader.config with
  | none =>
    have none_ : s.cfg.maxHoldings = 0 := by rw [State.cfg, config]; rfl
    omega
  | some c =>
    have max : s.cfg.maxHoldings = c.maxHoldings := by rw [State.cfg, config]; rfl
    have most := (ranges c config).2.2
    omega

theorem setProgress_length (p : Position) (g : Progress) (c : Composer) :
    (c.setProgress p g).bursts.length = c.bursts.length := List.length_map _

theorem State.cancelBurst_tablesLegal (p : Position) (h : s.tablesLegal) : (s.cancelBurst p).tablesLegal := by
  have cancelled : State.tablesLegal ((s.setProgress p .cancelled).reportUnsent p) :=
    ⟨h.1, h.2.1, h.2.2.1, (setProgress_length p .cancelled s.plan).trans_le h.2.2.2⟩
  unfold State.cancelBurst
  dsimp only
  (repeat' split)
  · exact cancelled
  · exact State.tablesLegal_of_same cancelled (by simp) (by simp) (by simp) (by simp) (by simp) (by simp)
  · exact h

theorem tablesLegal_managerKeeps : ManagerKeeps State.tablesLegal where
  fewer less h := ⟨⟨h.1.1, h.1.2.1, less.positions.length_le.trans h.1.2.2⟩, h.2⟩
  claim {s p} may _ h := by
    simp only [State.mayClaim, Bool.and_eq_true, decide_eq_true_eq] at may
    have claimed : State.tablesLegal (s.setPm { s.pm with claim := some { position := p, stamp := s.timing.boundaryFrame } }) := by
      refine ⟨⟨h.1.1, h.1.2.1, ?_⟩, h.2⟩
      rw [positions_length]
      exact may.1.2
    have handed : (State.handOver (.claim p s.timing.boundaryFrame) (s.setPm { s.pm with
        claim := some { position := p, stamp := s.timing.boundaryFrame } })).tablesLegal :=
      State.tablesLegal_of_same claimed (by simp) (by simp) (by simp) (by simp) (by simp) (by simp)
    exact handed
  hand b h := State.tablesLegal_of_same h (by simp) (by simp) (by simp) (by simp) (by simp) (by simp)
  withdraw _ h := h
  cancel p h := State.cancelBurst_tablesLegal p h
  raise _ h := h
  timing _ h := h

theorem State.compose_tablesLegal (h : s.tablesLegal) : s.compose.tablesLegal := by
  obtain ⟨left, plan, c, -, bursts, -, same | tuned⟩ := s.compose_cases
  · rw [same]
    exact ⟨h.1, h.2.1, h.2.2.1, bursts.trans_le h.1.holdings_le⟩
  · have composed : (s.composed left plan).tablesLegal := ⟨h.1, h.2.1, h.2.2.1, bursts.trans_le h.1.holdings_le⟩
    rw [tuned]
    exact State.tablesLegal_of_same composed (by simp) (by simp) (by simp) (by simp) (by simp) (by simp)

theorem State.boundaryWork_tablesLegal (r silent : Bool) (h : s.tablesLegal) : (s.boundaryWork r silent).tablesLegal := by
  refine tablesLegal_managerKeeps.boundaryWork r silent ?_ (fun _ => State.compose_tablesLegal)
    (fun _ h => ⟨h.1, h.2.1, h.2.2.1, Nat.zero_le _⟩)
  obtain ⟨_, _, ticked⟩ := State.ticked_eq s
  exact ticked ▸ h

theorem State.adopt_tablesLegal (r : Bool) (h : s.tablesLegal) : (s.adopt r).tablesLegal := by
  refine tablesLegal_managerKeeps.adopt r (fun t _ peers ht => ⟨ht.1, ⟨fun deaf => ?_, ?_⟩, ht.2.2⟩)
    (fun _ => State.boundaryWork_tablesLegal r false) h
  · obtain ⟨receiving, none_⟩ := ht.2.1.1 deaf
    exact ⟨receiving, by rw [← peers, none_]; rfl⟩
  · exact peers ▸ legalPeers_map (PeerRecord.atAdoption_keepsHoldings _ _) ht.2.1.2

theorem State.ownNumberHeard_tablesLegal (h : s.tablesLegal) : s.ownNumberHeard.tablesLegal := by
  obtain ⟨⟨image, ranges, room⟩, ⟨deaf, peers⟩, tracks, plan⟩ := h
  unfold State.ownNumberHeard
  split
  · rename_i joined
    have present : s.loader.config.isSome = true := by rw [image, joined]; rfl
    have stopped : s.stopRadio.plan.bursts.length ≤ 4 := by
      have stop : ∀ bs : List Burst, ((bs.foldl (fun s b => (s.setProgress b.position
          (if b.progress == .sending then .cut else .cancelled)).reportUnsent b.position) s).plan.bursts.length ≤ 4) :=
        fun bs => List.foldlRecOn (motive := fun t : State => t.plan.bursts.length ≤ 4) bs _ plan fun t h b _ =>
          (setProgress_length b.position _ t.plan).trans_le h
      exact stop _
    have samePeers : s.stopRadio.peers = s.peers := by simp
    have sameShow : s.stopRadio.show_ = s.show_ := by simp
    exact ⟨⟨present, ranges, Nat.zero_le _⟩, ⟨nofun, samePeers ▸ peers⟩, sameShow ▸ tracks, stopped⟩
  · rename_i listen
    have present : s.loader.config.isSome = true := by rw [image, listen]; rfl
    have moved : State.tablesLegal { s with loader := { s.loader with station := .duplicateFault } } :=
      ⟨⟨present, ranges, room⟩, ⟨nofun, peers⟩, tracks, plan⟩
    exact tablesLegal_managerKeeps.raise _ (tablesLegal_managerKeeps.setTiming _ moved)
  · exact ⟨⟨image, ranges, room⟩, ⟨deaf, peers⟩, tracks, plan⟩

theorem State.listenEnd_tablesLegal (h : s.tablesLegal) : s.listenEnd.tablesLegal := by
  obtain ⟨⟨image, ranges, room⟩, ⟨deaf, peers⟩, tracks, plan⟩ := h
  unfold State.listenEnd
  split
  · rename_i due
    simp only [Bool.and_eq_true, beq_iff_eq] at due
    have present : s.loader.config.isSome = true := by rw [image, due.1.1]; rfl
    have moved : State.tablesLegal { s with loader := { s.loader with station := .joined } } :=
      ⟨⟨present, ranges, room⟩, ⟨nofun, peers⟩, tracks, plan⟩
    exact tablesLegal_managerKeeps.claimAttempt (tablesLegal_managerKeeps.setTiming _ moved)
  · exact ⟨⟨image, ranges, room⟩, ⟨deaf, peers⟩, tracks, plan⟩

theorem parseImage_ranges {bs : List Byte} {c : ConfigImage} (h : parseImage bs = some c) :
    1 ≤ c.number ∧ c.number ≤ 32 ∧ c.maxHoldings ≤ 4 := by
  unfold parseImage at h
  dsimp only at h
  split at h
  · rename_i good
    cases h
    simp only [Bool.and_eq_true, stationNumberOk, decide_eq_true_eq] at good
    obtain ⟨⟨⟨⟨⟨-, one, most⟩, -⟩, -⟩, max⟩, -⟩ := good
    exact ⟨one, most, max⟩
  · cases h

theorem State.configReadComplete_tablesLegal (image : List Byte) (h : s.tablesLegal) :
    (s.configReadComplete image).tablesLegal := by
  obtain ⟨⟨present, ranges, room⟩, ⟨deaf, peers⟩, tracks, plan⟩ := h
  unfold State.configReadComplete
  split
  · rename_i reading
    simp only [Loader.reading, Bool.and_eq_true, beq_iff_eq] at reading
    rw [reading.2] at present deaf
    have none_ : s.loader.config = none := Option.isNone_iff_eq_none.1 (by rw [← Option.not_isSome, present]; rfl)
    have nothing : s.pm.positions = [] := by
      rw [State.cfg, none_] at room
      exact List.length_eq_zero_iff.1 (Nat.le_zero.1 room)
    obtain ⟨silent, alone⟩ := deaf rfl
    split
    · rename_i c parsed
      refine ⟨⟨rfl, fun c' hc' => ?_, ?_⟩, ⟨nofun, ?_⟩, tracks, plan⟩
      · cases hc'
        exact parseImage_ranges parsed
      · exact (congrArg List.length nothing).trans_le (Nat.zero_le _)
      · have empty : (s.enterListen c).peers = [] := alone
        rw [empty]
        exact ⟨nofun, .nil, nofun⟩
    · exact ⟨⟨congrArg Option.isSome none_, ranges, room⟩, ⟨fun _ => ⟨silent, alone⟩, peers⟩, tracks, plan⟩
  · exact ⟨⟨present, ranges, room⟩, ⟨deaf, peers⟩, tracks, plan⟩

/-! ### Show control's tracks (R2, R4, R6, R7) -/

theorem State.tablesLegal_of_show {c : ShowControl} (hc : c.tracksLegal) (h : s.tablesLegal) :
    State.tablesLegal { s with show_ := c } := ⟨h.1, h.2.1, hc, h.2.2.2⟩

/-- A state other than NO SHOW, where the table stays and was not empty. -/
theorem ShowControl.tracksLegal_of_shown {c c' : ShowControl} (h : c.tracksLegal) (before : c.state ≠ .noShow)
    (after : c'.state ≠ .noShow) (tracks : c'.tracks = c.tracks) : c'.tracksLegal := by
  obtain ⟨most, noShow⟩ := h
  rw [ShowControl.tracksLegal, tracks]
  exact ⟨most, fun gone => absurd gone after, fun empty => absurd (noShow.2 empty) before⟩

theorem ShowControl.load_tracksLegal (session : BitVec 32) (time : Nat) {tracks : List TrackEntry} (c : ShowControl)
    (good : validTracks tracks = true) : (c.load session time tracks).tracksLegal := by
  have length : (trackTable tracks).length = tracks.length := by simp [trackTable, length_sortBy]
  simp only [validTracks, Bool.and_eq_true, decide_eq_true_eq] at good
  refine ⟨length.trans_le good.1.1.1.2, nofun, fun empty => ?_⟩
  have none_ : (trackTable tracks).length = 0 := congrArg List.length empty
  omega

theorem ShowState.live_iff (state : ShowState) : state.live = true ↔ state ≠ .noShow ∧ state ≠ .ended := by
  cases state <;> decide

theorem ShowState.ne_noShow_of_timed {state : ShowState} (h : state.timed = true) : state ≠ .noShow := by
  rintro rfl
  cases h

theorem State.signalEmpty_tablesLegal (h : s.tablesLegal) : s.signalEmpty.tablesLegal := by
  rw [State.signalEmpty_eq]
  have demand := tablesLegal_managerKeeps.demandNewShow h
  exact State.tablesLegal_of_same demand (by simp) rfl rfl (by simp) (by simp) (by simp)

theorem State.signalState_tablesLegal (before : ShowState) (h : s.tablesLegal) : (s.signalState before).tablesLegal := by
  unfold State.signalState
  split
  · exact h
  · exact tablesLegal_managerKeeps.recomputeDemand (s := { s with clips := s.clips.rechoose s.show_ }) h

theorem State.clearShow_tablesLegal (h : s.tablesLegal) : s.clearShow.tablesLegal := by
  rw [State.clearShow_eq]
  exact State.signalEmpty_tablesLegal (State.tablesLegal_of_show ⟨Nat.zero_le _, fun _ => rfl, fun _ => rfl⟩ h)

theorem ShowControl.applyRunning_state (t now : Nat) (running : Bool) (c : ShowControl) :
    (c.applyRunning t now running).state ≠ .noShow := by
  unfold ShowControl.applyRunning ShowControl.offerGate
  dsimp only
  (repeat' split) <;> nofun

theorem State.takeMark_tablesLegal (t : Nat) (running : Bool) (live : s.show_.state.live = true) (h : s.tablesLegal) :
    (s.takeMark t running).tablesLegal := by
  have shown := ((ShowState.live_iff _).1 live).1
  have marked : State.tablesLegal (State.markClock t { s with show_ := { s.show_ with markLoss := some 0 } }) := by
    obtain ⟨gate, jumps, placed⟩ := State.markClock_show t { s with show_ := { s.show_ with markLoss := some 0 } }
    have with_show : State.tablesLegal { s with
        show_ := { ShowControl.place t { s.show_ with markLoss := some 0 } with gate := gate, jumps := jumps } } := h
    exact State.tablesLegal_of_same with_show (by simp) (by simp) (by simp) (by simp) placed (by simp)
  refine State.signalState_tablesLegal _ (State.tablesLegal_of_show ?_ marked)
  have tracks := State.takeMark_tracks t running s
  simp only [State.takeMark, State.signalState_show] at tracks
  exact ShowControl.tracksLegal_of_shown h.2.2.1 shown (ShowControl.applyRunning_state _ _ _ _) tracks

theorem Record.taken_tablesLegal (r : Record) (h : s.tablesLegal) : (r.taken s).tablesLegal := by
  cases r with
  | showLoad session time tracks =>
    simp only [Record.taken, State.showLoad]
    split
    · exact h
    · rename_i good
      have valid : validTracks tracks = true := by
        simp only [showLoadBad, Bool.or_eq_true, not_or, Bool.not_eq_true', Bool.not_eq_false] at good
        exact good.2
      exact State.signalState_tablesLegal _ (State.signalEmpty_tablesLegal
        (State.tablesLegal_of_show (ShowControl.load_tracksLegal session time s.show_ valid) h))
  | showEnd =>
    simp only [Record.taken, State.showEnd]
    split
    · rename_i live
      have ended : s.show_.endShow.tracksLegal :=
        ShowControl.tracksLegal_of_shown h.2.2.1 ((ShowState.live_iff _).1 live).1 nofun rfl
      exact State.signalState_tablesLegal _ (tablesLegal_managerKeeps.recomputeDemand
        (s := { s with show_ := s.show_.endShow, cues := s.cues.endShow, clips := s.clips.endShow })
        (State.tablesLegal_of_show ended h))
    · exact h
  | showClear => exact State.clearShow_tablesLegal h
  | mark t running =>
    simp only [Record.taken, State.mark]
    (repeat' split)
    · exact h
    · exact h
    · rename_i live _
      exact State.takeMark_tablesLegal t running (by simpa using live) h
  | tableLoad table first values =>
    simp only [Record.taken, State.tableLoad]
    split <;> exact h
  | _ =>
    exact State.tablesLegal_of_same h (by simp [Record.taken]) (by simp [Record.taken]) (by simp [Record.taken])
      (by simp [Record.taken]) (by simp [Record.taken]) (by simp [Record.taken])

/-! ### The commands -/

theorem State.answer_tablesLegal (receiver : BitVec 32) (decision : Roster × JoinResult) (h : s.tablesLegal) :
    (s.answer receiver decision).tablesLegal := by
  have reported : State.tablesLegal (if decision.1.counts == s.roster.counts then { s with roster := decision.1 }
      else State.countReport { s with roster := decision.1 }) := by
    split
    · exact h
    · exact tablesLegal_managerKeeps.countReport (s := { s with roster := decision.1 }) h
  exact reported

theorem State.handleReply_tablesLegal (receiver : BitVec 32) (decide_ : Roster → Roster × JoinResult) (h : s.tablesLegal) :
    (s.handleReply receiver decide_).tablesLegal := by
  unfold State.handleReply
  dsimp only
  (repeat' split)
  · exact h
  · exact State.answer_tablesLegal (s := s.gapUsed) receiver _ h
  · exact h

/-- A burst's new progress leaves as many bursts. -/
theorem State.setProgress_tablesLegal (p : Position) (g : Progress) (h : s.tablesLegal) : (s.setProgress p g).tablesLegal :=
  ⟨h.1, h.2.1, h.2.2.1, (setProgress_length p g s.plan).trans_le h.2.2.2⟩

theorem State.burstStart_tablesLegal (h : s.tablesLegal) : s.burstStart.tablesLegal := by
  unfold State.burstStart
  (repeat' split)
  · exact State.setProgress_tablesLegal _ _ (s := { s with radio := _ }) h
  · exact State.setProgress_tablesLegal _ _ (s := { s with radio := _ }) h
  · exact h
  · exact h

theorem State.burstSent_tablesLegal (h : s.tablesLegal) : s.burstSent.tablesLegal := by
  unfold State.burstSent
  split
  · exact State.setProgress_tablesLegal _ _ (s := { s with radio := _ }) h
  · exact h

/-- A message heard comes to a station that receives, so the table may take it. -/
theorem State.heard_tablesLegal {c : Instr} {m : Sender} (hm : messageSender c = some m) (wf : c.wf = true)
    (hearing : s.line.hearing = true) (other : m.number ≠ s.cfg.number) (h : s.tablesLegal) :
    (s.heard m (isAnnounceCommand c) (messageUpdate s.timing.frameNumber c)).tablesLegal := by
  obtain ⟨room, ⟨deaf, peers⟩, rest⟩ := h
  refine tablesLegal_managerKeeps.setTiming _ ⟨room, ⟨fun away => ?_, ?_⟩, rest⟩
  · have silent := (deaf away).1
    simp [HouseLine.hearing, silent] at hearing
  · exact legalPeers_messageUpdate _ wf (legalPeers_takeCommon _ _ (sender_wf hm wf) other peers)

theorem coldStart_tablesLegal (s : State) : s.coldStart.tablesLegal :=
  ⟨⟨rfl, nofun, Nat.zero_le _⟩, ⟨fun _ => ⟨rfl, rfl⟩, nofun, .nil, nofun⟩, ⟨Nat.zero_le _, fun _ => rfl, fun _ => rfl⟩,
    Nat.zero_le _⟩

theorem State.tablesLegal_of_peers {ps : List PeerRecord} (empty : s.peers = [] → ps = [])
    (legal : legalPeers s.cfg.number s.peers → legalPeers s.cfg.number ps) (h : s.tablesLegal) :
    State.tablesLegal { s with peers := ps } := by
  obtain ⟨room, ⟨deaf, peers⟩, rest⟩ := h
  exact ⟨room, ⟨fun away => ⟨(deaf away).1, empty (deaf away).2⟩, legal peers⟩, rest⟩

theorem effect_tablesLegal {c : Instr} (wf : c.wf = true) (h : s.tablesLegal) : (c.effect s).tablesLegal := by
  have manager := tablesLegal_managerKeeps
  refine effect_induct c h (fun r => Record.taken_tablesLegal r h) (fun _ => State.ownNumberHeard_tablesLegal h)
    (fun m hm hearing other => manager.messageReaction c (State.heard_tablesLegal hm wf hearing other h)) (fun hc hm => ?_)
  cases c
  case powerOn => exact (effect_of_coldStart h coldStart_tablesLegal 0).1
  case powerLoss => exact coldStart_tablesLegal _
  case restartLine _ width => exact (effect_of_coldStart h coldStart_tablesLegal width).2.2.1
  case restartLineReleased => exact (effect_of_coldStart h coldStart_tablesLegal 0).2.2.2
  case configReadComplete image => exact State.configReadComplete_tablesLegal image h
  case frameBoundary =>
    simp only [Instr.effect, State.frameBoundary]
    split
    · exact State.boundaryWork_tablesLegal (s := { s with timing := s.timing.nextFrame }) _ _ h
    · exact h
  case claimWindowEnd => exact manager.claimWindowEnd h
  case holdDownRelease => exact manager.holdDownRelease h
  case starved => exact manager.becomeStarved h
  case rosterExpiry =>
    simp only [Instr.effect, State.rosterExpiry]
    split
    · exact manager.countReport (s := { s with roster := _ }) h
    · exact h
  case peerRecordExpiry n =>
    simp only [Instr.effect, State.peerRecordExpiry]
    split
    · refine manager.reviewTiming (State.tablesLegal_of_peers (fun empty => ?_) (legalPeers_removePeer n) h)
      rw [empty]
      rfl
    · exact h
  case peerClaimPassed n =>
    simp only [Instr.effect, State.peerClaimPassed]
    (repeat' split)
    · refine manager.evictWhere _ (State.tablesLegal_of_peers (fun empty => ?_)
        (legalPeers_updatePeer (PeerRecord.passClaim_keepsHoldings _) n) h)
      rw [empty]
      rfl
    · exact h
    · exact h
    · exact h
  case objectWindowPassed =>
    simp only [Instr.effect, State.objectWindowPassed, HouseLine.dropPassed]
    (repeat' split) <;> exact h
  case listenEnd => exact State.listenEnd_tablesLegal h
  case adoption =>
    simp only [Instr.effect, State.applyAdoption]
    split
    · exact State.adopt_tablesLegal _ h
    · exact h
  case burstStart => exact State.burstStart_tablesLegal h
  case burstSent => exact State.burstSent_tablesLegal h
  case join | renew | leave => exact State.handleReply_tablesLegal _ _ h
  case houseLineReceiveStart =>
    simp only [Instr.effect, State.receiveStart]
    split
    · rename_i receives
      simp only [Bool.and_eq_true] at receives
      refine ⟨h.1, ⟨fun deaf => ?_, h.2.1.2⟩, h.2.2⟩
      have conflict := receives.1.symm.trans deaf
      cases conflict
    · exact h
  case startMarkHeard =>
    simp only [Instr.effect, State.startMarkHeard]
    split <;> exact h
  case badMessage =>
    simp only [Instr.effect, State.badMessage]
    split <;> exact h
  case messageStart =>
    simp only [Instr.effect, State.messageStart]
    (repeat' split) <;> exact h
  case messageComplete =>
    simp only [Instr.effect, State.messageComplete]
    split <;> exact h
  case lineConflict =>
    simp only [Instr.effect, State.lineConflict]
    split
    · refine State.tablesLegal_of_same h rfl rfl ?_ rfl rfl rfl
      dsimp only
      unfold HouseLine.returnMessage
      split
      · rfl
      · exact HouseLine.join_receiving _ _
    · exact h
  case endedTimerExpiry =>
    simp only [Instr.effect, State.endedTimerExpiry]
    split
    · exact State.clearShow_tablesLegal h
    · exact h
  case marksLost =>
    simp only [Instr.effect, State.marksLost]
    split
    · rename_i due
      simp only [Bool.and_eq_true, beq_iff_eq] at due
      refine State.signalState_tablesLegal _ (State.tablesLegal_of_show (s := s) (c := { s.show_ with state := .coasting })
        (ShowControl.tracksLegal_of_shown h.2.2.1 ?_ nofun rfl) h)
      rw [due.1]
      nofun
    · exact h
  case frozen =>
    simp only [Instr.effect, State.freeze]
    split
    · rename_i due
      simp only [Bool.and_eq_true] at due
      exact State.signalState_tablesLegal _ (State.tablesLegal_of_show (s := s)
        (c := { s.show_ with state := .frozen, gate := none, markLoss := none })
        (ShowControl.tracksLegal_of_shown h.2.2.1 (ShowState.ne_noShow_of_timed due.1) nofun rfl) h)
    · exact h
  case announce | claim | object | release => cases hm
  case showLoad | showEnd | showClear | mark | tableLoad | cue | cueCancel | clipHead | clipData | clipCancel | eventAck =>
    cases hc
  all_goals
    exact State.tablesLegal_of_same h (by simp [Instr.effect]) (by simp [Instr.effect]) (by simp [Instr.effect])
      (by simp [Instr.effect]) (by simp [Instr.effect]) (by simp [Instr.effect])

end

theorem ShowControl.advance_state (dt : Nat) (c : ShowControl) :
    (c.advance dt).state = c.state ∧ (c.advance dt).tracks = c.tracks := by
  unfold ShowControl.advance
  dsimp only
  split
  · rw [ShowControl.advanceClock_eq]
    exact ⟨rfl, rfl⟩
  · exact ⟨rfl, rfl⟩

theorem advance_tablesLegal (dt : Nat) {s : State} (h : s.tablesLegal) : (advance dt s).tablesLegal := by
  obtain ⟨room, peers, tracks, plan⟩ := h
  unfold advance
  split
  · exact ⟨room, peers, tracks, plan⟩
  · obtain ⟨state, table⟩ := ShowControl.advance_state dt s.show_
    refine ⟨room, State.peersLegal_of_same peers rfl ?_ rfl, ?_, plan⟩
    · dsimp only
      rw [HouseLine.advance_eq]
    · rw [ShowControl.tracksLegal, state, table]
      exact tracks

theorem finish_tablesLegal {s : State} (h : s.tablesLegal) : (finish s).tablesLegal := by
  obtain ⟨_, _, ended, -⟩ := finish_cases s
  rw [ended]
  exact h

/-- Settles O8: counters and queues, block by block; and the tables with what they rest on, for a well-formed command. -/
theorem stepKeepsCountersAndQueuesBounded : Obligations.StepKeepsCountersAndQueuesBounded := by
  refine ⟨fun s t counters queues h => ?_, fun s t tables wf h => ?_⟩
  · exact t.bounded_iff.1 (step_bounded (s.bounded_iff.2 ⟨counters, queues⟩) h)
  · exact t.tablesBounded_iff.2 (step_keeps_of (P := State.tablesLegal) (admitted := fun c => c.wf = true)
      (fun _ _ h => h) (fun dt _ => advance_tablesLegal dt) (fun _ _ wf => effect_tablesLegal wf)
      (fun _ => finish_tablesLegal) (s.tablesBounded_iff.1 tables) wf h)

end Sys2Proof.Machine

/-! The clip store stays legal: each page with one clip, and each engine's current clip PLAYING and each PLAYING clip current. -/

namespace Sys2Proof.Machine

/-! ## Pages and flags (R42, R43) -/

def ClipStore.legal (s : ClipStore) : Prop :=
  (s.clips.map (·.id)).Nodup ∧ (s.clips.flatMap (·.pages)).Nodup
    ∧ ∀ c ∈ s.clips, c.pages.length = pagesFor c.length ∧ c.loaded.length = c.length ∧ ∀ p ∈ c.pages, p < Config.pages

theorem State.clipsLegal_iff (s : State) : s.clipsLegal ↔ s.clips.legal := Iff.rfl

/-- A change of a clip that keeps its place in clip memory. -/
def KeepsPages (f : Clip → Clip) : Prop :=
  ∀ c : Clip, (f c).id = c.id ∧ (f c).length = c.length ∧ (f c).pages = c.pages ∧ (f c).loaded.length = c.loaded.length

theorem ClipStore.legal_of_map {s s' : ClipStore} {f : Clip → Clip} (clips : s'.clips = s.clips.map f) (keeps : KeepsPages f)
    (h : s.legal) : s'.legal := by
  obtain ⟨ids, pages, each⟩ := h
  have sameIds : (s.clips.map f).map (·.id) = s.clips.map (·.id) := by
    rw [List.map_map]
    exact List.map_congr_left fun c _ => (keeps c).1
  have samePages : (s.clips.map f).flatMap (·.pages) = s.clips.flatMap (·.pages) := by
    rw [List.flatMap_map]
    exact List.flatMap_congr fun c _ => (keeps c).2.2.1
  rw [ClipStore.legal, clips, sameIds, samePages]
  refine ⟨ids, pages, fun c' hc' => ?_⟩
  obtain ⟨c, hc, rfl⟩ := List.mem_map.1 hc'
  obtain ⟨-, length, held, loaded⟩ := keeps c
  rw [length, held, loaded]
  exact each c hc

theorem ClipStore.legal_of_sublist {s s' : ClipStore} (sub : s'.clips.Sublist s.clips) (h : s.legal) : s'.legal :=
  ⟨h.1.sublist (sub.map _), h.2.1.sublist (sub.flatMap _), fun c hc => h.2.2 c (sub.subset hc)⟩

theorem ClipStore.legal_of_same {s s' : ClipStore} (clips : s'.clips = s.clips) (h : s.legal) : s'.legal :=
  ClipStore.legal_of_sublist (clips ▸ .refl _) h

/-- A change of one clip, or of those that a test names. -/
theorem KeepsPages.ite {f : Clip → Clip} {p : Clip → Prop} [DecidablePred p] (keeps : KeepsPages f) :
    KeepsPages (fun c => if p c then f c else c) := by
  intro c
  dsimp only
  split
  · exact keeps c
  · exact ⟨rfl, rfl, rfl, rfl⟩

theorem keepsPages_state (st : Clip → ClipState) (played : Clip → Bool) :
    KeepsPages (fun c => { c with state := st c, everPlayed := played c }) := fun _ => ⟨rfl, rfl, rfl, rfl⟩

section
variable {s : ClipStore}

theorem ClipStore.update_legal (id : Nat) {f : Clip → Clip} (keeps : KeepsPages f) (h : s.legal) : (s.update id f).legal :=
  ClipStore.legal_of_map rfl keeps.ite h

theorem ClipStore.setState_legal (id : Nat) (st : ClipState) (h : s.legal) : (s.setState id st).legal :=
  ClipStore.update_legal id (keepsPages_state _ (·.everPlayed)) h

theorem ClipStore.cut_legal (i : Nat) (h : s.legal) : (s.cut i).legal := by
  unfold ClipStore.cut
  split
  · exact ClipStore.setState_legal _ .spent h
  · exact h

theorem ClipStore.play_legal (id i : Nat) (cur : Option Current) (h : s.legal) :
    (((s.cut i).update id Clip.play).setCurrent i cur).legal :=
  ClipStore.update_legal id (keepsPages_state _ _) (ClipStore.cut_legal i h)

theorem ClipStore.progress_legal (show_ : ShowControl) (h : s.legal) : (s.progress show_).store.legal :=
  ClipStore.progress_induct (P := ClipStore.legal) h (fun _ _ => ClipStore.legal_of_sublist List.filter_sublist)
    (fun _ _ => ClipStore.legal_of_map rfl (KeepsPages.ite (keepsPages_state _ (·.everPlayed))))
    (fun _ _ => ClipStore.legal_of_map rfl (KeepsPages.ite (keepsPages_state _ (·.everPlayed))))
    (fun _ _ h => ClipStore.starting_induct (P := ClipStore.legal) (fun i _ fuel _ h =>
      ClipStore.startEngine_induct (P := ClipStore.legal) (fun _ => ClipStore.cut_legal i)
        (fun _ _ h _ _ => ClipStore.play_legal _ i _ h)
        (fun _ _ h _ _ => ClipStore.setState_legal _ _ (ClipStore.cut_legal i h)) false fuel h) h)
    (fun _ _ h => ClipStore.supply_induct (P := ClipStore.legal) (fun _ _ _ h =>
      ClipStore.supplyEngine_induct (P := ClipStore.legal) h (fun _ h => h) (fun _ _ _ _ h _ _ _ => h)
        (fun _ _ _ h _ _ => ClipStore.setState_legal _ .spent h)) h)
    (fun _ h => h)

theorem Clip.reevaluate_keepsPages (t : Nat) (all : List Clip) : KeepsPages (Clip.reevaluate t all) := by
  intro c
  unfold Clip.reevaluate Clip.play
  (repeat' split) <;> exact ⟨rfl, rfl, rfl, rfl⟩

theorem ClipStore.reevaluate_legal (show_ : ShowControl) (t : Nat) (jump : Bool) (h : s.legal) :
    (s.reevaluate show_ t jump).1.legal := ClipStore.legal_of_map rfl (Clip.reevaluate_keepsPages t s.clips) h

theorem ClipStore.freeze_legal (show_ : ShowControl) (h : s.legal) : (s.freeze show_).legal := by
  refine ClipStore.legal_of_map (s := s) rfl (fun c => ?_) h
  split <;> exact ⟨rfl, rfl, rfl, rfl⟩

theorem ClipStore.endShow_legal (h : s.legal) : s.endShow.legal := by
  refine ClipStore.legal_of_map (s := s) rfl (fun c => ?_) h
  split <;> exact ⟨rfl, rfl, rfl, rfl⟩

theorem ClipStore.cancel_legal (show_ : ShowControl) (id : Nat) (h : s.legal) : (s.cancel show_ id).legal :=
  ClipStore.legal_of_sublist (s := s) List.filter_sublist h

theorem ClipStore.makeRoom_legal {p : Nat} {s' : ClipStore} (room : s.makeRoom p = some s') (h : s.legal) : s'.legal :=
  ClipStore.evictUntil_induct (P := ClipStore.legal) (fun _ _ _ => ClipStore.legal_of_sublist List.filter_sublist) h room

theorem ClipStore.mem_freePages {p : Nat} : p ∈ s.freePages ↔ p < Config.pages ∧ ∀ c ∈ s.clips, p ∉ c.pages := by
  simp [ClipStore.freePages]

/-- The new clip takes pages that no clip holds. -/
theorem ClipStore.insert_legal (show_ : ShowControl) {id track start length : Nat} (room : s.fits (pagesFor length) = true)
    (new : ∀ c ∈ s.clips, c.id ≠ id) (h : s.legal) : (s.insert show_ id track start length).legal := by
  obtain ⟨ids, pages, each⟩ := h
  simp only [ClipStore.fits, Bool.and_eq_true, decide_eq_true_eq] at room
  have taken : ∀ p ∈ s.freePages.take (pagesFor length), p < Config.pages ∧ ∀ c ∈ s.clips, p ∉ c.pages :=
    fun p hp => ClipStore.mem_freePages.1 (List.mem_of_mem_take hp)
  have distinct : (s.freePages.take (pagesFor length)).Nodup :=
    (List.nodup_range.sublist List.filter_sublist).sublist (List.take_sublist _ _)
  simp only [ClipStore.legal, ClipStore.insert, ClipStore.rechoose, List.map_append, List.flatMap_append, List.map_cons,
    List.map_nil, List.flatMap_cons, List.flatMap_nil, List.append_nil]
  refine ⟨List.nodup_append.2 ⟨ids, List.nodup_singleton _, fun a ha b hb => ?_⟩,
    List.nodup_append.2 ⟨pages, distinct, fun a ha b hb => ?_⟩, fun c hc => ?_⟩
  · obtain ⟨c, hc, rfl⟩ := List.mem_map.1 ha
    rw [List.mem_singleton.1 hb]
    exact new c hc
  · obtain ⟨c, hc, hac⟩ := List.mem_flatMap.1 ha
    rintro rfl
    exact (taken a hb).2 c hc hac
  · simp only [List.mem_append, List.mem_singleton] at hc
    obtain hc | rfl := hc
    · exact each c hc
    · refine ⟨?_, List.length_replicate, fun p hp => (taken p hp).1⟩
      exact List.length_take.trans (min_eq_left room.2)

theorem ClipStore.writeBlocks_clips (c : Clip) (first : Nat) (blocks : List (List Byte)) (s : ClipStore) :
    (s.writeBlocks c first blocks).clips = s.clips ∧ (s.writeBlocks c first blocks).engines = s.engines := by
  induction blocks generalizing first s with
  | nil => exact ⟨rfl, rfl⟩
  | cons b bs ih => exact ih (first + 1) _

theorem ClipStore.lateRule_legal (show_ : ShowControl) (c : Clip) (h : s.legal) : (s.lateRule show_ c).legal := by
  unfold ClipStore.lateRule
  split
  · exact ClipStore.setState_legal c.id .spent h
  · split
    · exact ClipStore.play_legal _ _ _ h
    · exact h

theorem setLoaded_length (loaded : List Bool) (first n : Nat) : (setLoaded loaded first n).length = loaded.length := by
  simp [setLoaded]

/-- The blocks' flags set are as many as the flags before: they are the found clip's own. -/
theorem ClipStore.loaded_legal {c : Clip} {loaded : List Bool} (found : s.find c.id = some c)
    (length : loaded.length = c.loaded.length) (h : s.legal) :
    (s.update c.id (fun k => { k with loaded := loaded })).legal := by
  have only : ∀ k ∈ s.clips, k.id = c.id → k = c := fun k hk same =>
    List.inj_on_of_nodup_map h.1 hk (List.mem_of_find?_eq_some found) same
  have clips : (s.update c.id (fun k => { k with loaded := loaded })).clips
      = s.clips.map (fun k => if k.id == c.id && k.loaded.length == loaded.length then { k with loaded := loaded } else k) := by
    refine List.map_congr_left fun k hk => ?_
    by_cases same : k.id = c.id
    · obtain rfl := only k hk same
      simp [length]
    · simp [same]
  refine ClipStore.legal_of_map clips (fun k => ?_) h
  split
  · rename_i both
    simp only [Bool.and_eq_true, beq_iff_eq] at both
    exact ⟨rfl, rfl, rfl, both.2.symm⟩
  · exact ⟨rfl, rfl, rfl, rfl⟩

theorem ClipStore.find_writeBlocks (c : Clip) (first : Nat) (blocks : List (List Byte)) (s : ClipStore) (id : Nat) :
    (s.writeBlocks c first blocks).find id = s.find id := by
  rw [ClipStore.find, (ClipStore.writeBlocks_clips c first blocks s).1, ClipStore.find]

theorem ClipStore.find_id {id : Nat} {c : Clip} (found : s.find id = some c) : c.id = id := by
  simpa using List.find?_some found

theorem ClipStore.takeData_legal (show_ : ShowControl) {id : Nat} {c : Clip} (first : Nat) (blocks : List (List Byte))
    (found : s.find id = some c) (h : s.legal) : (s.takeData show_ c first blocks).legal := by
  have own : (s.writeBlocks c first blocks).find c.id = some c := by
    rw [ClipStore.find_writeBlocks, ClipStore.find_id found, found]
  have written := ClipStore.loaded_legal own (setLoaded_length c.loaded first blocks.length)
    (ClipStore.legal_of_same (ClipStore.writeBlocks_clips c first blocks s).1 h)
  unfold ClipStore.takeData
  dsimp only
  refine ClipStore.legal_of_same (s := ite _ _ _) rfl ?_
  (repeat' split)
  · exact ClipStore.setState_legal _ .ready written
  · exact ClipStore.lateRule_legal show_ c written
  · exact written
  · exact written

end

end Sys2Proof.Machine

/-! The engines of the clip store stay sound. -/

namespace Sys2Proof.Machine

/-! ## Engines (R44) -/

theorem PerEngine.get_set {α : Type} (v : PerEngine α) (a : α) {i j : Nat} (hi : i < 4) (hj : j < 4) :
    (v.set i a).get j = if j = i then a else v.get j := by
  interval_cases i
  all_goals
    interval_cases j
    all_goals rfl

/-- What the engines of a store rest on, and what they show of it: an engine's current part names a PLAYING clip of its own
track, at an index within the clip, and every PLAYING clip is current. -/
structure ClipStore.Sound (show_ : ShowControl) (s : ClipStore) : Prop where
  ids : (s.clips.map (·.id)).Nodup
  current : ∀ i < 4, ∀ cur, (s.engines.get i).current = some cur → ∃ c ∈ s.clips,
    c.id = cur.clip ∧ c.state = .playing ∧ show_.binding.get i = some c.track ∧ cur.index ≤ c.length
  playing : ∀ c ∈ s.clips, c.state = .playing → ∃ i < 4, ∃ cur, (s.engines.get i).current = some cur ∧ cur.clip = c.id
  tracks : ∀ track, isDescriptionTrack show_.tracks track = true → ∃ i < 4, show_.binding.get i = some track
  binding : ∀ i < 4, ∀ j < 4, (show_.binding.get i).isSome = true → show_.binding.get i = show_.binding.get j → i = j
  bound : ∀ c ∈ s.clips, ∃ i < 4, show_.binding.get i = some c.track
  keys : (s.clips.map (fun c => (c.track, c.start))).Nodup

theorem State.sound_iff (s : State) : s.clips.Sound s.show_ ↔ (s.clips.clips.map (·.id)).Nodup ∧ s.enginesLegal :=
  ⟨fun ⟨ids, current, playing, tracks, binding, bound, keys⟩ => ⟨ids, current, playing, tracks, binding, bound, keys⟩,
    fun ⟨ids, current, playing, tracks, binding, bound, keys⟩ => ⟨ids, current, playing, tracks, binding, bound, keys⟩⟩

/-- A change of a clip that keeps what it is known by, and its length. -/
def KeepsKeys (f : Clip → Clip) : Prop :=
  ∀ c : Clip, (f c).id = c.id ∧ (f c).track = c.track ∧ (f c).start = c.start ∧ (f c).length = c.length

theorem KeepsKeys.ite {f : Clip → Clip} {p : Clip → Prop} [DecidablePred p] (keeps : KeepsKeys f) :
    KeepsKeys (fun c => if p c then f c else c) := by
  intro c
  dsimp only
  split
  · exact keeps c
  · exact ⟨rfl, rfl, rfl, rfl⟩

theorem keepsKeys_state (st : Clip → ClipState) (played : Clip → Bool) :
    KeepsKeys (fun c => { c with state := st c, everPlayed := played c }) := fun _ => ⟨rfl, rfl, rfl, rfl⟩

namespace ClipStore.Sound

variable {show_ : ShowControl} {s s' : ClipStore}

/-- Two clips of a store with one id are one clip. -/
theorem eq_of_id (h : s.Sound show_) {a b : Clip} (ha : a ∈ s.clips) (hb : b ∈ s.clips) (same : a.id = b.id) : a = b :=
  List.inj_on_of_nodup_map h.ids ha hb same

/-- The clips changed one by one, each known by what it was known by: what is left to show is that the engines' current parts
and the PLAYING clips name each other. -/
theorem of_map {f : Clip → Clip} (h : s.Sound show_) (clips : s'.clips = s.clips.map f) (keeps : KeepsKeys f)
    (current : ∀ i < 4, ∀ cur, (s'.engines.get i).current = some cur → ∃ c ∈ s.clips,
      c.id = cur.clip ∧ (f c).state = .playing ∧ show_.binding.get i = some c.track ∧ cur.index ≤ c.length)
    (playing : ∀ c ∈ s.clips, (f c).state = .playing →
      ∃ i < 4, ∃ cur, (s'.engines.get i).current = some cur ∧ cur.clip = c.id) : s'.Sound show_ where
  ids := by
    rw [clips, List.map_map]
    exact List.map_congr_left (fun c _ => (keeps c).1) ▸ h.ids
  current i hi cur hcur := by
    obtain ⟨c, hc, id, state, track, index⟩ := current i hi cur hcur
    obtain ⟨sameId, sameTrack, -, sameLength⟩ := keeps c
    exact ⟨f c, clips ▸ List.mem_map_of_mem hc, sameId.trans id, state, track.trans (congrArg some sameTrack.symm),
      sameLength.symm ▸ index⟩
  playing c' hc' state := by
    obtain ⟨c, hc, rfl⟩ := List.mem_map.1 (clips ▸ hc')
    obtain ⟨i, hi, cur, hcur, id⟩ := playing c hc state
    exact ⟨i, hi, cur, hcur, id.trans (keeps c).1.symm⟩
  tracks := h.tracks
  binding := h.binding
  bound c' hc' := by
    obtain ⟨c, hc, rfl⟩ := List.mem_map.1 (clips ▸ hc')
    obtain ⟨i, hi, track⟩ := h.bound c hc
    exact ⟨i, hi, track.trans (congrArg some (keeps c).2.1.symm)⟩
  keys := by
    have same : (s.clips.map f).map (fun c => (c.track, c.start)) = s.clips.map (fun c => (c.track, c.start)) := by
      rw [List.map_map]
      refine List.map_congr_left fun c _ => ?_
      simp [keeps c]
    rw [clips, same]
    exact h.keys

/-- No clip begins or stops PLAYING, and no engine's current part changes. -/
theorem of_map_same {f : Clip → Clip} (h : s.Sound show_) (clips : s'.clips = s.clips.map f)
    (engines : ∀ i, (s'.engines.get i).current = (s.engines.get i).current) (keeps : KeepsKeys f)
    (state : ∀ c ∈ s.clips, (f c).state = .playing ↔ c.state = .playing) : s'.Sound show_ := by
  refine h.of_map clips keeps (fun i hi cur hcur => ?_) (fun c hc playing => ?_)
  · obtain ⟨c, hc, id, playing, track, index⟩ := h.current i hi cur (engines i ▸ hcur)
    exact ⟨c, hc, id, (state c hc).2 playing, track, index⟩
  · obtain ⟨i, hi, cur, hcur, id⟩ := h.playing c hc ((state c hc).1 playing)
    exact ⟨i, hi, cur, (engines i).trans hcur, id⟩

/-- Clips dropped, none of them PLAYING, and no engine's current part changed. -/
theorem of_filter {keep : Clip → Bool} (h : s.Sound show_) (clips : s'.clips = s.clips.filter keep)
    (engines : ∀ i, (s'.engines.get i).current = (s.engines.get i).current)
    (kept : ∀ c ∈ s.clips, c.state = .playing → keep c = true) : s'.Sound show_ where
  ids := by
    rw [clips]
    exact h.ids.sublist (List.filter_sublist.map _)
  current i hi cur hcur := by
    obtain ⟨c, hc, id, playing, rest⟩ := h.current i hi cur (engines i ▸ hcur)
    exact ⟨c, clips ▸ List.mem_filter.2 ⟨hc, kept c hc playing⟩, id, playing, rest⟩
  playing c hc playing := by
    obtain ⟨i, hi, cur, hcur, id⟩ := h.playing c (List.mem_of_mem_filter (clips ▸ hc)) playing
    exact ⟨i, hi, cur, (engines i).trans hcur, id⟩
  tracks := h.tracks
  binding := h.binding
  bound c hc := h.bound c (List.mem_of_mem_filter (clips ▸ hc))
  keys := by
    rw [clips]
    exact h.keys.sublist (List.filter_sublist.map _)

theorem of_same (h : s.Sound show_) (clips : s'.clips = s.clips)
    (engines : ∀ i, (s'.engines.get i).current = (s.engines.get i).current) : s'.Sound show_ :=
  h.of_map_same (f := id) (by rw [clips, List.map_id]) engines (fun _ => ⟨rfl, rfl, rfl, rfl⟩) (fun _ _ => Iff.rfl)

theorem rechoose (h : s.Sound show_) (show' : ShowControl) : (s.rechoose show').Sound show_ :=
  h.of_same rfl fun i => by rw [ClipStore.rechoose_get]

theorem setCurrent_get (s : ClipStore) (cur : Option Current) {i j : Nat} (hi : i < 4) (hj : j < 4) :
    ((s.setCurrent i cur).engines.get j).current = if j = i then cur else (s.engines.get j).current := by
  rw [ClipStore.setCurrent, PerEngine.get_set _ _ hi hj]
  split <;> rfl

/-- An engine's current clip ends: it plays no more, and the engine has no current part. -/
theorem ended (h : s.Sound show_) {i : Nat} (hi : i < 4) {cur : Current} (hcur : (s.engines.get i).current = some cur) :
    ((s.setState cur.clip .spent).setCurrent i none).Sound show_ := by
  obtain ⟨c, hc, id, playing, track, -⟩ := h.current i hi cur hcur
  refine h.of_map (f := fun c => if c.id == cur.clip then { c with state := .spent } else c) rfl
    (KeepsKeys.ite (keepsKeys_state _ (·.everPlayed))) (fun j hj cur' hcur' => ?_) (fun k hk playing' => ?_)
  · rw [setCurrent_get _ _ hi hj] at hcur'
    split at hcur'
    · cases hcur'
    · rename_i differs
      obtain ⟨k, hk, id', playing', track', index'⟩ := h.current j hj cur' hcur'
      refine ⟨k, hk, id', ?_, track', index'⟩
      have other : k.id ≠ cur.clip := by
        intro same
        obtain rfl := h.eq_of_id hk hc (same.trans id.symm)
        exact differs (h.binding j hj i hi (by rw [track']; rfl) (track'.trans track.symm))
      simp [other, playing']
  · by_cases same : k.id = cur.clip
    · simp [same] at playing'
    · simp only [beq_iff_eq, same, if_false] at playing'
      obtain ⟨j, hj, cur', hcur', id'⟩ := h.playing k hk playing'
      refine ⟨j, hj, cur', ?_, id'⟩
      have other : j ≠ i := by
        rintro rfl
        rw [hcur] at hcur'
        cases hcur'
        exact same id'.symm
      rw [setCurrent_get _ _ hi hj, if_neg other]
      exact hcur'

theorem cut (h : s.Sound show_) {i : Nat} (hi : i < 4) : (s.cut i).Sound show_ := by
  unfold ClipStore.cut
  split
  · exact (h.ended hi ‹_›).of_same rfl fun _ => rfl
  · exact h

theorem cut_current (s : ClipStore) {i : Nat} (hi : i < 4) : ((s.cut i).engines.get i).current = none := by
  unfold ClipStore.cut
  split
  · exact (setCurrent_get _ _ hi hi).trans (if_pos rfl)
  · assumption

/-- A clip of the engine's own track plays, where the engine has no current part. -/
theorem play (h : s.Sound show_) {i : Nat} (hi : i < 4) (idle : (s.engines.get i).current = none) {c : Clip}
    (hc : c ∈ s.clips) (track : show_.binding.get i = some c.track) {n : Nat} (index : n ≤ c.length) :
    ((s.update c.id Clip.play).setCurrent i (some { clip := c.id, index := n })).Sound show_ := by
  refine h.of_map (f := fun k => if k.id == c.id then k.play else k) rfl (KeepsKeys.ite (keepsKeys_state _ _))
    (fun j hj cur hcur => ?_) (fun k hk playing => ?_)
  · rw [setCurrent_get _ _ hi hj] at hcur
    split at hcur
    · rename_i same
      cases hcur
      refine ⟨c, hc, rfl, by simp [Clip.play], same ▸ track, index⟩
    · obtain ⟨k, hk, id, playing, rest⟩ := h.current j hj cur hcur
      refine ⟨k, hk, id, ?_, rest⟩
      split
      · rfl
      · exact playing
  · by_cases same : k.id = c.id
    · exact ⟨i, hi, _, (setCurrent_get _ _ hi hi).trans (if_pos rfl), same.symm⟩
    · simp only [beq_iff_eq, same, if_false] at playing
      obtain ⟨j, hj, cur, hcur, id⟩ := h.playing k hk playing
      refine ⟨j, hj, cur, ?_, id⟩
      have other : j ≠ i := by
        rintro rfl
        rw [idle] at hcur
        cases hcur
      rw [setCurrent_get _ _ hi hj, if_neg other]
      exact hcur

/-- A clip that does not play takes another state in which it does not play. -/
theorem setState (h : s.Sound show_) {c : Clip} (hc : c ∈ s.clips) (idle : c.state ≠ .playing) {st : ClipState}
    (still : st ≠ .playing) : (s.setState c.id st).Sound show_ := by
  refine h.of_map_same rfl (fun _ => rfl) (KeepsKeys.ite (keepsKeys_state (fun _ => st) (·.everPlayed))) fun k hk => ?_
  by_cases same : k.id = c.id
  · obtain rfl := h.eq_of_id hk hc same
    simp [idle, still]
  · simp [same]

/-- After the cut of its engine the clip stands in the store as before, but that it may have been the one cut. -/
theorem exists_cut {c : Clip} (hc : c ∈ s.clips) (i : Nat) : ∃ k ∈ (s.cut i).clips,
    k.id = c.id ∧ k.track = c.track ∧ k.length = c.length ∧ (k.state = c.state ∨ k.state = .spent) := by
  obtain ⟨f, clips, keeps⟩ := s.cut_clips i
  obtain ⟨id, track, -, length, -, -, state⟩ := keeps c
  exact ⟨f c, clips ▸ List.mem_map_of_mem hc, id, track, length, state⟩

theorem cut_play (h : s.Sound show_) {i : Nat} (hi : i < 4) {c : Clip} (hc : c ∈ s.clips)
    (track : show_.binding.get i = some c.track) {n : Nat} (index : n ≤ c.length) :
    (((s.cut i).update c.id Clip.play).setCurrent i (some { clip := c.id, index := n })).Sound show_ := by
  obtain ⟨k, hk, id, sameTrack, length, -⟩ := exists_cut hc i
  exact id ▸ (h.cut hi).play hi (cut_current s hi) hk (sameTrack ▸ track) (length ▸ index)

theorem startEngine (h : s.Sound show_) {t i : Nat} (hi : i < 4) (again : Bool) (fuel : Nat) :
    (s.startEngine show_ t i again fuel).1.Sound show_ := by
  refine ClipStore.startEngine_induct (P := ClipStore.Sound show_) (fun _ h => h.cut hi) (fun s c h chosen _ => ?_)
    (fun s c h chosen loading => ?_) again fuel h
  · obtain ⟨hc, track, -⟩ := ClipStore.chooseNext_spec chosen
    exact h.cut_play hi hc track (Nat.zero_le _)
  · obtain ⟨hc, -, -⟩ := ClipStore.chooseNext_spec chosen
    obtain ⟨k, hk, id, -, -, state⟩ := exists_cut hc i
    have idle : k.state ≠ .playing := by
      obtain state | state := state
      · rw [state, loading]
        nofun
      · rw [state]
        nofun
    exact id ▸ (h.cut hi).setState hk idle nofun

theorem supplyEngine (h : s.Sound show_) {t i : Nat} (hi : i < 4) : (s.supplyEngine t i).1.Sound show_ := by
  refine ClipStore.supplyEngine_induct (P := ClipStore.Sound show_) h (fun _ h => h.of_same rfl fun _ => rfl)
    (fun s cur c n h hcur found room => ?_) (fun s cur c h hcur found => ?_)
  · have own := ClipStore.find_id found
    have hc := List.mem_of_find?_eq_some found
    refine h.of_map (f := id) (by rw [List.map_id]; rfl) (fun _ => ⟨rfl, rfl, rfl, rfl⟩) (fun j hj cur' hcur' => ?_)
      (fun k hk playing => ?_)
    · rw [setCurrent_get _ _ hi hj] at hcur'
      split at hcur'
      · rename_i same
        cases hcur'
        obtain ⟨k, hk, id', playing, track, -⟩ := h.current i hi cur hcur
        obtain rfl := h.eq_of_id hk hc (id'.trans own.symm)
        exact ⟨k, hk, rfl, playing, same ▸ track, room.le⟩
      · exact h.current j hj cur' hcur'
    · obtain ⟨j, hj, cur', hcur', id'⟩ := h.playing k hk playing
      by_cases same : j = i
      · refine ⟨i, hi, _, (setCurrent_get _ _ hi hi).trans (if_pos rfl), ?_⟩
        subst same
        rw [hcur] at hcur'
        cases hcur'
        exact own.trans id'
      · exact ⟨j, hj, cur', (setCurrent_get _ _ hi hj).trans ((if_neg same).trans hcur'), id'⟩
  · have id := ClipStore.find_id found
    exact id ▸ h.ended hi hcur

theorem progress (h : s.Sound show_) : (s.progress show_).store.Sound show_ := by
  refine ClipStore.progress_induct (P := ClipStore.Sound show_) h (fun t s h => ?_) (fun t s h => ?_) (fun t s h => ?_)
    (fun t s h => ClipStore.starting_induct (P := ClipStore.Sound show_) (fun i hi fuel s h => h.startEngine hi false fuel) h)
    (fun t s h => ClipStore.supply_induct (P := ClipStore.Sound show_) (fun i hi s h => h.supplyEngine hi) h)
    (fun s h => h.rechoose show_)
  · refine h.of_filter rfl (fun _ => rfl) fun c _ playing => ?_
    simp [playing]
  · refine h.of_map_same rfl (fun _ => rfl) (KeepsKeys.ite (keepsKeys_state (fun _ => .spent) (·.everPlayed))) fun c _ => ?_
    split
    · rename_i passed
      have waits : c.state ≠ .playing := by
        intro playing
        simp [playing, ClipState.waits] at passed
      simp [waits]
    · exact Iff.rfl
  · refine h.of_map_same rfl (fun _ => rfl) (KeepsKeys.ite (keepsKeys_state (fun _ => .spent) (·.everPlayed))) fun c _ => ?_
    split
    · rename_i given
      have late : c.state ≠ .playing := by
        intro playing
        simp [playing] at given
      simp [late]
    · exact Iff.rfl

end ClipStore.Sound

end Sys2Proof.Machine

/-! The engines under show control's signals and the clip store's records; and both invariants of the clip store at every step. -/

namespace Sys2Proof.Machine

namespace ClipStore.Sound

variable {show_ : ShowControl} {s : ClipStore}

/-! ## Re-evaluation (R57, R58) -/

theorem chosen_spec {t : Nat} {all : List Clip} {c : Clip} (h : c.chosen t all = true) :
    c.start ≤ t ∧ t < c.stop ∧ ∀ o ∈ all, o.track = c.track → o.start ≤ t → t < o.stop → o.start ≤ c.start := by
  simp only [Clip.chosen, Clip.candidate, Bool.and_eq_true, decide_eq_true_eq, Bool.not_eq_true', List.any_eq_false,
    beq_iff_eq, not_and, Nat.not_lt] at h
  obtain ⟨⟨start, stop⟩, latest⟩ := h
  exact ⟨start, stop, fun o ho track start' stop' => latest o ho ⟨track, start', stop'⟩⟩

/-- A clip plays after a re-evaluation exactly if it was chosen and is complete. -/
theorem reevaluate_state {t : Nat} {all : List Clip} {c : Clip} :
    (Clip.reevaluate t all c).state = .playing ↔ c.chosen t all = true ∧ c.complete = true := by
  constructor
  · intro playing
    unfold Clip.reevaluate at playing
    (repeat' split at playing)
    all_goals simp_all
  · rintro ⟨chosen, complete⟩
    obtain ⟨start, stop, -⟩ := chosen_spec chosen
    rw [Clip.reevaluate, if_neg (Nat.not_le.2 stop), if_neg (Nat.not_lt.2 start), if_pos chosen, if_pos complete]
    rfl

theorem reevaluate_keepsKeys (t : Nat) (all : List Clip) : KeepsKeys (Clip.reevaluate t all) := by
  intro c
  unfold Clip.reevaluate Clip.play
  (repeat' split) <;> exact ⟨rfl, rfl, rfl, rfl⟩

/-- Two chosen clips of a track are one clip: they start together. -/
theorem eq_of_chosen (h : s.Sound show_) {t : Nat} {a b : Clip} (ha : a ∈ s.clips) (hb : b ∈ s.clips)
    (track : a.track = b.track) (chosenA : a.chosen t s.clips = true) (chosenB : b.chosen t s.clips = true) : a = b := by
  obtain ⟨startA, stopA, latestA⟩ := chosen_spec chosenA
  obtain ⟨startB, stopB, latestB⟩ := chosen_spec chosenB
  refine List.inj_on_of_nodup_map h.keys ha hb ?_
  rw [track, Nat.le_antisymm (latestB a ha track startA stopA) (latestA b hb track.symm startB stopB)]

theorem reevaluate (h : s.Sound show_) (t : Nat) (jump : Bool) : (s.reevaluate show_ t jump).1.Sound show_ := by
  have current : ∀ i, ((s.reevaluate show_ t jump).1.engines.get i).current
      = reevaluatedCurrent t s.clips (show_.binding.get i) := by
    intro i
    rw [ClipStore.reevaluate, ClipStore.rechoose_get]
    simp only [PerEngine.get_zip]
  refine h.of_map (f := Clip.reevaluate t s.clips) rfl (reevaluate_keepsKeys t s.clips) (fun i hi cur hcur => ?_)
    (fun c hc playing => ?_)
  · rw [current, reevaluatedCurrent] at hcur
    split at hcur
    · rename_i c found
      cases hcur
      have named := List.find?_some found
      simp only [Bool.and_eq_true, beq_iff_eq] at named
      obtain ⟨⟨track, chosen⟩, complete⟩ := named
      obtain ⟨start, stop, -⟩ := chosen_spec chosen
      refine ⟨c, List.mem_of_find?_eq_some found, rfl, reevaluate_state.2 ⟨chosen, complete⟩, track, ?_⟩
      simp only [expectedIndex, start, if_true, Clip.stop] at stop ⊢
      simp only [Int.ofNat_eq_natCast, Int.toNat_natCast]
      omega
    · cases hcur
  · obtain ⟨chosen, complete⟩ := reevaluate_state.1 playing
    obtain ⟨i, hi, track⟩ := h.bound c hc
    cases found : s.clips.find? (fun k => show_.binding.get i == some k.track && k.chosen t s.clips && k.complete) with
    | none =>
      have missing := List.find?_eq_none.1 found c hc
      simp [track, chosen, complete] at missing
    | some k =>
      have named := List.find?_some found
      simp only [Bool.and_eq_true, beq_iff_eq, track, Option.some.injEq] at named
      obtain rfl := h.eq_of_chosen (List.mem_of_find?_eq_some found) hc named.1.1.symm named.1.2 chosen
      refine ⟨i, hi, { clip := k.id, index := (expectedIndex k.start t).toNat }, ?_, rfl⟩
      rw [current, reevaluatedCurrent, found]

/-! ## The show's own changes (R59 to R61) -/

/-- No clip plays and no engine has a current part. -/
theorem of_map_idle {s' : ClipStore} {f : Clip → Clip} (h : s.Sound show_) (clips : s'.clips = s.clips.map f)
    (keeps : KeepsKeys f) (engines : ∀ i, (s'.engines.get i).current = none) (idle : ∀ c, (f c).state ≠ .playing) :
    s'.Sound show_ :=
  h.of_map clips keeps (fun i _ cur hcur => by rw [engines] at hcur; cases hcur)
    (fun c _ playing => absurd playing (idle c))

theorem freeze (h : s.Sound show_) (show' : ShowControl) : (s.freeze show').Sound show_ := by
  refine ClipStore.Sound.rechoose (h.of_map_idle rfl (fun c => ?_) (fun i => ?_) fun c => ?_) show'
  · split <;> exact ⟨rfl, rfl, rfl, rfl⟩
  · rw [PerEngine.get_map]
  · split
    · nofun
    · nofun
    · assumption

theorem all_get {α : Type} (a : α) (i : Nat) : (PerEngine.all a).get i = a := by
  unfold PerEngine.get
  split <;> rfl

theorem endShow (h : s.Sound show_) : s.endShow.Sound show_ := by
  refine h.of_map_idle rfl (fun c => ?_) (fun i => ?_) fun c => ?_
  · split <;> exact ⟨rfl, rfl, rfl, rfl⟩
  · rw [ClipStore.endShow, all_get]
  · split
    · nofun
    · nofun
    · assumption

/-- Of the show a store shows the track table and the binding alone. -/
theorem of_show {show' : ShowControl} (h : s.Sound show_) (tracks : show'.tracks = show_.tracks)
    (binding : show'.binding = show_.binding) : s.Sound show' where
  ids := h.ids
  current := binding ▸ h.current
  playing := h.playing
  tracks := binding ▸ tracks ▸ h.tracks
  binding := binding ▸ h.binding
  bound := binding ▸ h.bound
  keys := h.keys

/-- An empty store, under a binding that binds every description track to an engine of its own. -/
theorem of_empty {show' : ShowControl} (clips : s.clips = []) (engines : ∀ i, (s.engines.get i).current = none)
    (tracks : ∀ track, isDescriptionTrack show'.tracks track = true → ∃ i < 4, show'.binding.get i = some track)
    (binding : ∀ i < 4, ∀ j < 4, (show'.binding.get i).isSome = true → show'.binding.get i = show'.binding.get j → i = j) :
    s.Sound show' where
  ids := clips ▸ .nil
  current i _ cur hcur := by rw [engines] at hcur; cases hcur
  playing := clips ▸ nofun
  tracks := tracks
  binding := binding
  bound := clips ▸ nofun
  keys := clips ▸ .nil

/-! ## Records (R46 to R51) -/

theorem cancel (h : s.Sound show_) (show' : ShowControl) (id : Nat) : (s.cancel show' id).Sound show_ := by
  refine ClipStore.Sound.rechoose (s := { s with
    clips := s.clips.filter (fun c => c.id != id)
    engines := s.engines.map (fun e => if e.current.any (fun cur => cur.clip == id) then { e with current := none } else e) })
    ?_ show'
  have current : ∀ i, ((s.engines.map (fun e : Engine => if e.current.any (fun cur => cur.clip == id) then { e with current := none }
      else e)).get i).current = if (s.engines.get i).current.any (fun cur => cur.clip == id) then none
        else (s.engines.get i).current := by
    intro i
    rw [PerEngine.get_map]
    split <;> rfl
  have sub : (s.clips.filter (fun c => c.id != id)).Sublist s.clips := List.filter_sublist
  refine ⟨h.ids.sublist (sub.map _), fun i hi cur hcur => ?_, fun c hc playing => ?_, h.tracks, h.binding,
    fun c hc => h.bound c (sub.subset hc), h.keys.sublist (sub.map _)⟩
  · rw [current] at hcur
    split at hcur
    · cases hcur
    · rename_i other
      obtain ⟨c, hc, own, rest⟩ := h.current i hi cur hcur
      rw [hcur] at other
      refine ⟨c, List.mem_filter.2 ⟨hc, ?_⟩, own, rest⟩
      rw [own]
      simpa using other
  · obtain ⟨hc, other⟩ := List.mem_filter.1 hc
    obtain ⟨i, hi, cur, hcur, own⟩ := h.playing c hc playing
    refine ⟨i, hi, cur, ?_, own⟩
    rw [current, if_neg, hcur]
    rw [hcur]
    simpa [own] using other

theorem makeRoom {p : Nat} {s' : ClipStore} (h : s.Sound show_) (room : s.makeRoom p = some s') : s'.Sound show_ := by
  have victims : ∀ v ∈ sortBy evictedBefore (s.clips.filter (fun c => c.state == .spent)),
      v ∈ s.clips ∧ v.state = .spent := by
    intro v hv
    have member := (sortBy_perm evictedBefore _).subset hv
    simpa using member
  have evicted : s'.Sound show_ ∧ s'.clips.Sublist s.clips := by
    refine ClipStore.evictUntil_induct (P := fun t => t.Sound show_ ∧ t.clips.Sublist s.clips) (fun v hv t ht => ?_)
      ⟨h, .refl _⟩ room
    obtain ⟨hv, spent⟩ := victims v hv
    refine ⟨ht.1.of_filter rfl (fun _ => rfl) fun c hc playing => ?_, List.filter_sublist.trans ht.2⟩
    refine bne_iff_ne.2 fun same => ?_
    obtain rfl := h.eq_of_id (ht.2.subset hc) hv same
    rw [spent] at playing
    cases playing
  exact evicted.1

theorem makeRoom_sublist {p : Nat} {s s' : ClipStore} (room : s.makeRoom p = some s') : s'.clips.Sublist s.clips :=
  ClipStore.evictUntil_induct (P := fun t => t.clips.Sublist s.clips) (fun _ _ _ => List.filter_sublist.trans)
    (.refl _) room

theorem insert (h : s.Sound show_) (show' : ShowControl) {id track start length : Nat}
    (described : isDescriptionTrack show_.tracks track = true)
    (new : ∀ c ∈ s.clips, c.id ≠ id ∧ ¬(c.track = track ∧ c.start = start)) :
    (s.insert show' id track start length).Sound show_ := by
  refine ClipStore.Sound.rechoose ?_ show'
  refine ⟨?_, fun i hi cur hcur => ?_, fun c hc playing => ?_, h.tracks, h.binding, fun c hc => ?_, ?_⟩
  · rw [List.map_append, List.nodup_append]
    refine ⟨h.ids, List.nodup_singleton _, fun a ha b hb => ?_⟩
    obtain ⟨c, hc, rfl⟩ := List.mem_map.1 ha
    rw [List.mem_singleton.1 hb]
    exact (new c hc).1
  · obtain ⟨c, hc, rest⟩ := h.current i hi cur hcur
    exact ⟨c, List.mem_append_left _ hc, rest⟩
  · obtain hc | hc := List.mem_append.1 hc
    · exact h.playing c hc playing
    · rw [List.mem_singleton.1 hc] at playing
      cases playing
  · obtain hc | hc := List.mem_append.1 hc
    · exact h.bound c hc
    · rw [List.mem_singleton.1 hc]
      exact h.tracks track described
  · rw [List.map_append, List.nodup_append]
    refine ⟨h.keys, List.nodup_singleton _, fun a ha b hb => ?_⟩
    obtain ⟨c, hc, rfl⟩ := List.mem_map.1 ha
    rw [List.mem_singleton.1 hb]
    intro same
    exact (new c hc).2 (Prod.mk.inj same)

theorem engineOf_spec {track i : Nat} (h : engineOf show_ track = some i) : i < 4 ∧ show_.binding.get i = some track := by
  have member := List.mem_of_find?_eq_some h
  have bound := List.find?_some h
  simp only [List.mem_cons, List.not_mem_nil, or_false] at member
  exact ⟨by omega, beq_iff_eq.1 bound⟩

theorem lateRule (h : s.Sound show_) {c k : Clip} (hk : k ∈ s.clips) (id : k.id = c.id) (track : k.track = c.track)
    (length : k.length = c.length) (idle : k.state ≠ .playing) : (s.lateRule show_ c).Sound show_ := by
  unfold ClipStore.lateRule
  split
  · exact (id ▸ h.setState hk idle (st := .spent) nofun).of_same rfl fun _ => rfl
  · rename_i early
    simp only [Clip.tooLateToEnter, decide_eq_true_eq, Int.not_lt] at early
    split
    · rename_i i bound
      obtain ⟨hi, own⟩ := engineOf_spec bound
      refine id ▸ h.cut_play hi hk (track ▸ own) ?_
      have late : (0 : Int) ≤ ((Config.lateBlocks : Nat) : Int) := Int.natCast_nonneg _
      omega
    · exact h

theorem takeData (h : s.Sound show_) {id : Nat} {c : Clip} (first : Nat) (blocks : List (List Byte))
    (found : s.find id = some c) : (s.takeData show_ c first blocks).Sound show_ := by
  have hc := List.mem_of_find?_eq_some found
  obtain ⟨clips, engines⟩ := ClipStore.writeBlocks_clips c first blocks s
  have written : ((s.writeBlocks c first blocks).update c.id
      (fun k => { k with loaded := setLoaded c.loaded first blocks.length })).Sound show_ :=
    ClipStore.Sound.of_map_same (h.of_same clips fun _ => by rw [engines]) rfl (fun _ => rfl)
      (KeepsKeys.ite fun _ => ⟨rfl, rfl, rfl, rfl⟩) fun k _ => by split <;> exact Iff.rfl
  obtain ⟨k, hk, own, track, length, state⟩ : ∃ k ∈ ((s.writeBlocks c first blocks).update c.id
      (fun k => { k with loaded := setLoaded c.loaded first blocks.length })).clips,
      k.id = c.id ∧ k.track = c.track ∧ k.length = c.length ∧ k.state = c.state :=
    ⟨{ c with loaded := setLoaded c.loaded first blocks.length },
      List.mem_map.2 ⟨c, clips ▸ hc, if_pos (beq_self_eq_true _)⟩, rfl, rfl, rfl, rfl⟩
  unfold ClipStore.takeData
  dsimp only
  refine ClipStore.Sound.rechoose ?_ show_
  split
  · split
    · rename_i loading
      have idle : k.state ≠ .playing := by
        rw [state, loading]
        nofun
      have ready := written.setState hk idle (st := .ready) nofun
      rw [own] at ready
      exact ready
    · rename_i late
      exact written.lateRule hk own track length (by rw [state, late]; nofun)
    · exact written
  · exact written

end ClipStore.Sound

/-! ## The binding of a loaded show (R2, R3) -/

/-- The description tracks of a table, in ascending number. -/
def descriptionNumbers (tracks : List Track) : List Nat := (tracks.filter (fun t => t.kind == .description)).map (·.number)

theorem bindEngines_binds {tracks : List Track} (few : (descriptionNumbers tracks).length ≤ 4) {track : Nat}
    (described : isDescriptionTrack tracks track = true) : ∃ i < 4, (bindEngines tracks).get i = some track := by
  simp only [isDescriptionTrack, List.any_eq_true, Bool.and_eq_true, beq_iff_eq] at described
  obtain ⟨k, hk, number, kind⟩ := described
  have member : track ∈ descriptionNumbers tracks :=
    List.mem_map.2 ⟨k, List.mem_filter.2 ⟨hk, beq_iff_eq.2 kind⟩, number⟩
  obtain ⟨i, hi, at_⟩ := List.mem_iff_getElem.1 member
  refine ⟨i, by omega, ?_⟩
  rw [bindEngines_get _ (by omega)]
  exact List.getElem?_eq_some_iff.2 ⟨hi, at_⟩

/-- A valid list has at most 4 description tracks, each with a number of its own. -/
theorem descriptionNumbers_trackTable {es : List TrackEntry} (valid : validTracks es = true) :
    (descriptionNumbers (trackTable es)).length ≤ 4 ∧ (descriptionNumbers (trackTable es)).Nodup := by
  obtain ⟨-, -, distinct, few, each⟩ := (validTracks_iff es).1 valid
  have kinds : (es.map TrackEntry.track).filter (fun t => t.kind == .description)
      = (es.filter (fun e => e.kind == 2)).map TrackEntry.track := by
    rw [List.filter_map]
    refine congrArg _ (List.filter_congr fun e he => ?_)
    obtain ⟨-, -, kind, -⟩ := (TrackEntry.valid_iff e).1 (each e he)
    obtain kind | kind := kind <;> simp [TrackEntry.track, kind, trackKindOf]
  refine ⟨?_, ?_⟩
  · rw [descriptionNumbers, List.length_map, trackTable, ((sortBy_perm _ _).filter _).length_eq, kinds, List.length_map]
    exact few
  · have ascending : ((trackTable es).map (·.number)).Nodup :=
      ((trackTable_pairwise es distinct).map _ fun _ _ h => Nat.ne_of_lt h)
    exact ascending.sublist (List.filter_sublist.map _)

theorem bindEngines_injective {tracks : List Track} (distinct : (descriptionNumbers tracks).Nodup) {i j : Nat} (hi : i < 4)
    (hj : j < 4) (some_ : ((bindEngines tracks).get i).isSome = true)
    (same : (bindEngines tracks).get i = (bindEngines tracks).get j) : i = j := by
  rw [bindEngines_get _ hi] at some_ same
  rw [bindEngines_get _ hj] at same
  obtain ⟨n, hn⟩ := Option.isSome_iff_exists.1 some_
  obtain ⟨low, -⟩ := List.getElem?_eq_some_iff.1 hn
  exact (List.getElem?_inj low distinct).1 same

/-! ## The station's operations -/

/-- A change of a clip store that keeps it sound, and legal, is all that show and store go through. -/
structure ClipsKeep (Q : ShowControl → ClipStore → Prop) : Prop where
  same : ∀ {show_ show' : ShowControl} {s : ClipStore}, Q show_ s → show'.tracks = show_.tracks →
    show'.binding = show_.binding → Q show' s
  rechoose : ∀ {show_ : ShowControl} {s : ClipStore}, Q show_ s → Q show_ (s.rechoose show_)
  progress : ∀ {show_ : ShowControl} {s : ClipStore}, Q show_ s → Q show_ (s.progress show_).store
  reevaluate : ∀ {show_ : ShowControl} {s : ClipStore} (t : Nat) (jump : Bool), Q show_ s →
    Q show_ (s.reevaluate show_ t jump).1
  freeze : ∀ {show_ : ShowControl} {s : ClipStore}, Q show_ s → Q show_ (s.freeze show_)
  endShow : ∀ {show_ : ShowControl} {s : ClipStore}, Q show_ s → Q show_ s.endShow
  load : ∀ {show_ : ShowControl} {s : ClipStore} (session : BitVec 32) (time : Nat) {tracks : List TrackEntry},
    validTracks tracks = true → Q (show_.load session time tracks) s.clearAll
  clear : ∀ {show_ : ShowControl} {s : ClipStore}, Q show_.clear s.clearAll
  cold : Q ShowControl.reset ClipStore.reset
  head : ∀ {show_ : ShowControl} {s s' : ClipStore} {id track start length : Nat},
    clipHeadRefusal show_ s id track start length = none → s.makeRoom (pagesFor length) = some s' → Q show_ s →
    Q show_ (s'.insert show_ id track start length)
  data : ∀ {show_ : ShowControl} {s : ClipStore} {id : Nat} {c : Clip} (first : Nat) (blocks : List (List Byte)),
    s.find id = some c → Q show_ s → Q show_ (s.takeData show_ c first blocks)
  cancel : ∀ {show_ : ShowControl} {s : ClipStore} (id : Nat), Q show_ s → Q show_ (s.cancel show_ id)

/-- A CLIP HEAD that is not refused names a description track, and neither the id nor the track and start of a clip there. -/
theorem clipHeadRefusal_none {show_ : ShowControl} {s : ClipStore} {id track start length : Nat}
    (h : clipHeadRefusal show_ s id track start length = none) : isDescriptionTrack show_.tracks track = true
      ∧ ∀ c ∈ s.clips, c.id ≠ id ∧ ¬(c.track = track ∧ c.start = start) := by
  unfold clipHeadRefusal at h
  (repeat' split at h)
  all_goals cases h
  rename_i described _ new _
  refine ⟨by simpa using described, fun c hc => ?_⟩
  simp only [List.any_eq_true, not_exists, not_and, Bool.or_eq_true, Bool.and_eq_true, beq_iff_eq, not_or] at new
  exact ⟨(new c hc).1, fun same => (new c hc).2 same.1 same.2⟩

theorem ClipStore.clearAll_idle (s : ClipStore) (i : Nat) : (s.clearAll.engines.get i).current = none := by
  rw [ClipStore.clearAll, ClipStore.Sound.all_get]

theorem sound_clipsKeep : ClipsKeep (fun show_ s => s.Sound show_) where
  same h := h.of_show
  rechoose {show_ _} h := h.rechoose show_
  progress h := h.progress
  reevaluate t jump h := h.reevaluate t jump
  freeze {show_ _} h := h.freeze show_
  endShow h := h.endShow
  load {_ s} session time tracks valid := by
    obtain ⟨few, distinct⟩ := descriptionNumbers_trackTable valid
    exact .of_empty rfl s.clearAll_idle (fun _ => bindEngines_binds few) fun _ hi _ hj => bindEngines_injective distinct hi hj
  clear {_ s} := .of_empty rfl s.clearAll_idle nofun fun i _ _ _ some_ => by
    simp [ShowControl.clear, ClipStore.Sound.all_get] at some_
  cold := .of_empty rfl (fun i => by simp [ClipStore.reset, ClipStore.Sound.all_get]) nofun fun i _ _ _ some_ => by
    simp [ShowControl.reset, ClipStore.Sound.all_get] at some_
  head {show_ _ _ _ _ _ _} checked room h := by
    obtain ⟨described, new⟩ := clipHeadRefusal_none checked
    exact (h.makeRoom room).insert show_ described fun c hc => new c ((ClipStore.Sound.makeRoom_sublist room).subset hc)
  data first blocks found h := h.takeData first blocks found
  cancel {show_ _} id h := h.cancel show_ id

theorem legal_clipsKeep : ClipsKeep (fun _ s => s.legal) where
  same h _ _ := h
  rechoose h := h
  progress {show_ _} h := ClipStore.progress_legal show_ h
  reevaluate {show_ _} t jump h := ClipStore.reevaluate_legal show_ t jump h
  freeze {show_ _} h := ClipStore.freeze_legal show_ h
  endShow h := ClipStore.endShow_legal h
  load _ _ _ _ := ⟨.nil, .nil, nofun⟩
  clear := ⟨.nil, .nil, nofun⟩
  cold := ⟨.nil, .nil, nofun⟩
  head {show_ _ _ _ _ _ _} checked room h :=
    ClipStore.insert_legal show_ (ClipStore.fits_of_evictUntil room)
      (fun c hc => ((clipHeadRefusal_none checked).2 c ((ClipStore.Sound.makeRoom_sublist room).subset hc)).1)
      (ClipStore.makeRoom_legal room h)
  data {show_ _ _ _} first blocks found h := ClipStore.takeData_legal show_ first blocks found h
  cancel {show_ _} id h := ClipStore.cancel_legal show_ id h

namespace ClipsKeep

variable {Q : ShowControl → ClipStore → Prop} {s : State}

/-- A composition leaves the store progressed, and nothing else at a boundary touches it. -/
theorem boundaryWork (k : ClipsKeep Q) (r silent : Bool) (h : Q s.show_ s.clips) :
    Q (s.boundaryWork r silent).show_ (s.boundaryWork r silent).clips := by
  have composed : ∀ t : State, t.compose.clips = (t.clips.progress t.show_).store := by
    intro t
    obtain ⟨left, plan, c, -, -, -, same | tuned⟩ := t.compose_cases
    · rw [same]
      rfl
    · rw [tuned, State.need_clips]
      rfl
  obtain ⟨count, link, ticked⟩ := State.ticked_eq s
  rw [State.boundaryWork_show]
  cases joined : s.joined with
  | false =>
    rw [State.boundaryWork_of_away r silent joined, ticked]
    exact h
  | true =>
    rw [State.boundaryWork_of_joined r silent joined, ticked]
    cases r
    all_goals
      cases silent
      · simpa [composed] using k.progress h
      · simpa [State.silence] using h

theorem signalState (k : ClipsKeep Q) (before : ShowState) (h : Q s.show_ s.clips) :
    Q (s.signalState before).show_ (s.signalState before).clips := by
  unfold State.signalState
  split
  · exact h
  · simpa using k.rechoose h

theorem clearShow (k : ClipsKeep Q) (s : State) : Q s.clearShow.show_ s.clearShow.clips := by
  rw [State.clearShow_eq, State.signalEmpty_eq]
  exact k.clear

theorem signalReevaluate (k : ClipsKeep Q) (jump : Bool) (h : Q s.show_ s.clips) :
    Q (s.signalReevaluate jump).show_ (s.signalReevaluate jump).clips := by
  have clips : (s.signalReevaluate jump).clips = (s.clips.reevaluate s.show_ s.show_.clock jump).1 := by
    unfold State.signalReevaluate
    dsimp only
    split <;> simp
  rw [clips, State.signalReevaluate_show]
  exact k.reevaluate _ _ h

theorem jumpTo (k : ClipsKeep Q) (t : Nat) (h : Q s.show_ s.clips) : Q (s.jumpTo t).show_ (s.jumpTo t).clips :=
  k.signalReevaluate true (k.same h rfl rfl)

theorem markClock (k : ClipsKeep Q) (t : Nat) (h : Q s.show_ s.clips) : Q (s.markClock t).show_ (s.markClock t).clips := by
  unfold State.markClock
  (repeat' split)
  · exact k.signalReevaluate (s := { s with show_ := s.show_.place t }) false (k.same h rfl rfl)
  · exact k.jumpTo t h
  · exact k.same h rfl rfl
  · exact k.jumpTo t h

theorem applyRunning_binding (t now : Nat) (running : Bool) (c : ShowControl) :
    (c.applyRunning t now running).binding = c.binding := by
  unfold ShowControl.applyRunning ShowControl.offerGate
  dsimp only
  (repeat' split) <;> rfl

theorem takeMark (k : ClipsKeep Q) (t : Nat) (running : Bool) (h : Q s.show_ s.clips) :
    Q (s.takeMark t running).show_ (s.takeMark t running).clips :=
  k.signalState _ (k.same
    (k.markClock (s := { s with show_ := { s.show_ with markLoss := some 0 } }) t (k.same h rfl rfl))
    (ShowControl.applyRunning_tracks _ _ _ _) (applyRunning_binding _ _ _ _))

theorem taken (k : ClipsKeep Q) (r : Record) (h : Q s.show_ s.clips) : Q (r.taken s).show_ (r.taken s).clips := by
  cases r with
  | showLoad session time tracks =>
    simp only [Record.taken, State.showLoad]
    split
    · exact h
    · rename_i good
      have valid : validTracks tracks = true := by
        simp only [showLoadBad, Bool.or_eq_true, not_or, Bool.not_eq_true', Bool.not_eq_false] at good
        exact good.2
      refine k.signalState _ ?_
      rw [State.signalEmpty_eq]
      exact k.load session time valid
  | showEnd =>
    simp only [Record.taken, State.showEnd]
    split
    · refine k.signalState _ ?_
      simpa [State.signalEnded] using k.endShow (k.same (show' := s.show_.endShow) h rfl rfl)
    · exact h
  | showClear => exact k.clearShow s
  | mark t running =>
    simp only [Record.taken, State.mark]
    (repeat' split)
    · exact h
    · exact h
    · exact k.takeMark t running h
  | tableLoad table first values =>
    simp only [Record.taken, State.tableLoad]
    split
    · exact h
    · exact k.same h rfl rfl
  | clipHead id track start length =>
    simp only [Record.taken, State.clipHead]
    (repeat' split)
    · exact h
    · exact k.head ‹_› ‹_› h
    · exact h
  | clipData id first blocks =>
    simp only [Record.taken, State.clipData]
    (repeat' split)
    · exact h
    · exact k.data first blocks ‹_› h
    · exact h
  | clipCancel id =>
    simp only [Record.taken, State.clipCancel]
    (repeat' split)
    · exact h
    · exact h
    · exact k.cancel id h
  | _ => simpa [Record.taken] using h

theorem effect (k : ClipsKeep Q) (c : Instr) (h : Q s.show_ s.clips) : Q (c.effect s).show_ (c.effect s).clips := by
  have cold : ∀ t : State, Q t.coldStart.show_ t.coldStart.clips := fun _ => k.cold
  refine effect_induct (P := fun t => Q t.show_ t.clips) c h (fun r => k.taken r h) (fun _ => by simpa using h)
    (fun m _ _ _ => by cases c <;> simpa [messageReaction, State.heard] using h) (fun hc hm => ?_)
  cases c
  case powerOn => exact (effect_of_coldStart (P := fun t => Q t.show_ t.clips) h cold 0).1
  case powerLoss => exact cold _
  case restartLine _ width => exact (effect_of_coldStart (P := fun t => Q t.show_ t.clips) h cold width).2.2.1
  case restartLineReleased => exact (effect_of_coldStart (P := fun t => Q t.show_ t.clips) h cold 0).2.2.2
  case frameBoundary =>
    simp only [Instr.effect, State.frameBoundary]
    split
    · exact k.boundaryWork _ _ (s := { s with timing := s.timing.nextFrame }) h
    · exact h
  case adoption =>
    simp only [Instr.effect, State.applyAdoption]
    split
    · exact State.adopt_induct (P := fun t => Q t.show_ t.clips) _ (by simpa [State.carried] using h)
        (fun _ h => by simpa using h) (fun _ h => k.boundaryWork _ false h) (fun _ h => by simpa using h)
    · exact h
  case endedTimerExpiry =>
    simp only [Instr.effect, State.endedTimerExpiry]
    split
    · exact k.clearShow s
    · exact h
  case marksLost =>
    simp only [Instr.effect, State.marksLost]
    split
    · exact k.signalState (s := State.raise .marksLost { s with show_ := { s.show_ with state := .coasting } }) _
        (k.same h rfl rfl)
    · exact h
  case frozen =>
    simp only [Instr.effect, State.freeze]
    split
    · exact k.signalState (s := State.signalFreeze (State.raise .frozen
        { s with show_ := { s.show_ with state := .frozen, gate := none, markLoss := none } })) _
        (k.freeze (k.same h rfl rfl))
    · exact h
  case announce | claim | object | release => cases hm
  case showLoad | showEnd | showClear | mark | tableLoad | cue | cueCancel | clipHead | clipData | clipCancel | eventAck =>
    cases hc
  all_goals simpa [Instr.effect] using h

theorem step (k : ClipsKeep Q) {s t : State} (hs : Q s.show_ s.clips) (h : step s = .next t) : Q t.show_ t.clips := by
  refine step_keeps (P := fun t => Q t.show_ t.clips) (fun _ _ h => h) (fun dt s h => ?_) (fun c _ => k.effect c)
    (fun _ h => by simpa using h) hs h
  have binding : (advance dt s).show_.binding = s.show_.binding := by
    unfold advance
    split
    · rfl
    · unfold ShowControl.advance
      dsimp only
      split
      · rw [ShowControl.advanceClock_eq]
      · rfl
  have clips : (advance dt s).clips = s.clips := by simp
  exact clips ▸ k.same h (advance_tracks dt s) binding

end ClipsKeep

end Sys2Proof.Machine

/-! The cue queue stays in queue order, with at most 3 entries of a track SHOWING. -/

namespace Sys2Proof.Machine

/-! ## The queue (R21, R29) -/

def CueQueue.legal (q : CueQueue) : Prop :=
  q.entries.Pairwise (fun a b => cueBefore a b = true) ∧ ∀ track, (q.showing track).length ≤ Config.showingCap

theorem State.cuesLegal_iff (s : State) : s.cuesLegal ↔ s.cues.legal := Iff.rfl

/-- The entry is one of a track's SHOWING ones. -/
def Cue.showsOn (track : Nat) (e : Cue) : Bool := e.track == track && e.state == .showing

theorem CueQueue.showing_eq (q : CueQueue) (track : Nat) : q.showing track = q.entries.filter (Cue.showsOn track) := rfl

theorem cueBefore_iff (a b : Cue) :
    cueBefore a b = true ↔ a.start < b.start ∨ a.start = b.start ∧ a.track < b.track := by
  simp [cueBefore]

/-- A change of an entry that keeps its cue. -/
def KeepsCue (f : Cue → Cue) : Prop := ∀ e : Cue, (f e).track = e.track ∧ (f e).start = e.start

theorem KeepsCue.ite {f : Cue → Cue} {p : Cue → Prop} [DecidablePred p] (keeps : KeepsCue f) :
    KeepsCue (fun e => if p e then f e else e) := by
  intro e
  dsimp only
  split
  · exact keeps e
  · exact ⟨rfl, rfl⟩

theorem pairwise_map_of_keepsCue {f : Cue → Cue} (keeps : KeepsCue f) {es : List Cue}
    (h : es.Pairwise (fun a b => cueBefore a b = true)) : (es.map f).Pairwise (fun a b => cueBefore a b = true) := by
  refine List.pairwise_map.2 (h.imp fun {a b} before => ?_)
  rw [cueBefore_iff] at before ⊢
  rwa [(keeps a).1, (keeps a).2, (keeps b).1, (keeps b).2]

section
variable {q q' : CueQueue}

/-- Entries changed one by one, where no entry begins to show. -/
theorem CueQueue.legal_of_map {f : Cue → Cue} (entries : q'.entries = q.entries.map f) (keeps : KeepsCue f)
    (still : ∀ e ∈ q.entries, (f e).state = .showing → e.state = .showing) (h : q.legal) : q'.legal := by
  obtain ⟨order, cap⟩ := h
  refine ⟨entries ▸ pairwise_map_of_keepsCue keeps order, fun track => le_trans ?_ (cap track)⟩
  rw [CueQueue.showing_eq, CueQueue.showing_eq, entries, ← List.countP_eq_length_filter, ← List.countP_eq_length_filter,
    List.countP_map]
  refine List.countP_mono_left fun e he shows => ?_
  simp only [Function.comp, Cue.showsOn, Bool.and_eq_true, beq_iff_eq] at shows ⊢
  exact ⟨(keeps e).1.symm.trans shows.1, still e he shows.2⟩

theorem CueQueue.legal_of_sublist (sub : q'.entries.Sublist q.entries) (h : q.legal) : q'.legal :=
  ⟨h.1.sublist sub, fun track => (sub.filter _).length_le.trans (h.2 track)⟩

theorem CueQueue.legal_of_same (entries : q'.entries = q.entries) (h : q.legal) : q'.legal :=
  CueQueue.legal_of_sublist (entries ▸ .refl _) h

theorem CueQueue.oweClear_entries (track start region : Nat) (q : CueQueue) :
    (q.oweClear track start region).entries = q.entries := by
  unfold CueQueue.oweClear
  dsimp only
  split <;> rfl

theorem CueQueue.oweClears_entries (es : List Cue) (q : CueQueue) : (q.oweClears es).entries = q.entries :=
  List.foldlRecOn (motive := fun t : CueQueue => t.entries = q.entries) es _ rfl
    fun _ h e _ => (CueQueue.oweClear_entries e.track e.start e.region _).trans h

theorem CueQueue.moveAll_entries (f : Cue → Cue) (q : CueQueue) : (q.moveAll f).entries = q.entries.map f :=
  CueQueue.oweClears_entries _ _

theorem CueQueue.moveAll_legal {f : Cue → Cue} (keeps : KeepsCue f)
    (still : ∀ e ∈ q.entries, (f e).state = .showing → e.state = .showing) (h : q.legal) : (q.moveAll f).legal :=
  CueQueue.legal_of_map (q.moveAll_entries f) keeps still h

theorem CueQueue.update_legal (track start : Nat) {f : Cue → Cue} (keeps : KeepsCue f)
    (still : ∀ e, (f e).state = .showing → e.state = .showing) (h : q.legal) : (q.update track start f).legal := by
  refine CueQueue.legal_of_map rfl keeps.ite (fun e _ showing => ?_) h
  split at showing
  · exact still e showing
  · exact showing

theorem Cue.leave_keepsCue (dest : CueState) : KeepsCue (Cue.leave dest) := fun _ => ⟨rfl, rfl⟩

/-! ## Progress (R27 to R30) -/

theorem CueQueue.ending_legal (t : Nat) (h : q.legal) : (q.ending t).legal := by
  refine CueQueue.legal_of_same (q := q.moveAll (Cue.endBy t)) rfl (CueQueue.moveAll_legal (fun e => ?_)
    (fun e _ showing => ?_) h)
  · unfold Cue.endBy
    (repeat' split) <;> exact ⟨rfl, rfl⟩
  · unfold Cue.endBy at showing
    (repeat' split at showing)
    · assumption
    · cases showing
    · exact showing
    · exact showing

/-- Two entries in queue order are not of one cue. -/
theorem not_is_of_cueBefore {a b : Cue} (h : cueBefore a b = true) (track start : Nat) (ha : a.is track start = true) :
    b.is track start = false := by
  rw [cueBefore_iff] at h
  simp only [Cue.is, Bool.and_eq_true, beq_iff_eq] at ha
  simp only [Cue.is, Bool.and_eq_false_iff, beq_eq_false_iff_ne, ne_eq]
  omega

/-- The rewriting of one cue's entry adds at most one to any count. -/
theorem countP_update_le (p : Cue → Bool) (f : Cue → Cue) (track start : Nat) {es : List Cue}
    (h : es.Pairwise (fun a b => cueBefore a b = true)) :
    (es.map (fun e => if e.is track start then f e else e)).countP p ≤ es.countP p + 1 := by
  induction es with
  | nil => exact Nat.zero_le _
  | cons e es ih =>
    obtain ⟨before, rest⟩ := List.pairwise_cons.1 h
    cases found : e.is track start with
    | true =>
      have others : es.map (fun e => if e.is track start then f e else e) = es := by
        refine (List.map_congr_left fun o ho => ?_).trans (List.map_id es)
        rw [not_is_of_cueBefore (before o ho) track start found]
        rfl
      rw [List.map_cons, others, List.countP_cons, List.countP_cons]
      split <;> split <;> omega
    | false =>
      have counted := ih rest
      simp only [List.map_cons, found, List.countP_cons, Bool.false_eq_true, if_false]
      omega

/-- An entry that leaves makes its track's SHOWING ones fewer. -/
theorem CueQueue.showing_leave_lt {first : Cue} (h : first ∈ q.showing track) (dest : CueState) (other : dest ≠ .showing) :
    ((q.update first.track first.start (Cue.leave dest)).showing track).length < (q.showing track).length := by
  have leave : ∀ e : Cue, Cue.showsOn track (if e.is first.track first.start then e.leave dest else e)
      = (Cue.showsOn track e && !e.is first.track first.start) := by
    intro e
    split
    · simp [Cue.showsOn, Cue.leave, *]
    · simp [*]
  rw [CueQueue.showing_eq, CueQueue.showing_eq, CueQueue.update, List.filter_map, List.length_map]
  have within : q.entries.filter (Cue.showsOn track ∘ fun e => if e.is first.track first.start then e.leave dest else e)
      = (q.entries.filter (Cue.showsOn track)).filter (fun e => !e.is first.track first.start) := by
    rw [List.filter_filter]
    refine List.filter_congr fun e _ => ?_
    rw [Function.comp, leave, Bool.and_comm]
  rw [within]
  exact List.length_filter_lt_length_iff_exists.2 ⟨first, h, by simp [Cue.is_self]⟩

theorem Cue.show_keepsCue (f : FrameNo) : KeepsCue (Cue.show_ f) := fun _ => ⟨rfl, rfl⟩

/-- One more entry shows where fewer than 3 of its track do. -/
theorem CueQueue.update_show_legal (f : FrameNo) {track start : Nat} (h : q.legal)
    (room : (q.showing track).length < Config.showingCap) : (q.update track start (Cue.show_ f)).legal := by
  obtain ⟨order, cap⟩ := h
  refine ⟨pairwise_map_of_keepsCue (Cue.show_keepsCue f).ite order, fun k => ?_⟩
  by_cases same : k = track
  · subst same
    have counted := countP_update_le (Cue.showsOn k) (Cue.show_ f) k start order
    rw [CueQueue.showing_eq] at room ⊢
    rw [List.countP_eq_length_filter, List.countP_eq_length_filter] at counted
    exact counted.trans room
  · refine le_trans (le_of_eq ?_) (cap k)
    rw [CueQueue.showing_eq, CueQueue.showing_eq, ← List.countP_eq_length_filter, ← List.countP_eq_length_filter,
      CueQueue.update, List.countP_map]
    refine List.countP_congr fun e _ => ?_
    simp only [Function.comp]
    split
    · rename_i own
      simp only [Cue.is, Bool.and_eq_true, beq_iff_eq] at own
      have other : e.track ≠ k := fun h => same (h.symm.trans own.1)
      simp [Cue.showsOn, Cue.show_, other]
    · exact Iff.rfl

theorem CueQueue.startOne_legal (f : FrameNo) (e : Cue) (h : q.legal) : (q.startOne f e).legal := by
  unfold CueQueue.startOne
  dsimp only
  split
  · rename_i first rest showing
    have member : first ∈ q.showing e.track := showing ▸ List.mem_cons_self
    split
    · refine CueQueue.update_show_legal f (CueQueue.update_legal _ _ (Cue.leave_keepsCue .spent) nofun h) ?_
      exact (CueQueue.showing_leave_lt member .spent nofun).trans_le (h.2 e.track)
    · rename_i room
      exact CueQueue.update_show_legal f h (showing ▸ Nat.not_le.1 room)
  · rename_i showing
    exact CueQueue.update_show_legal f h (by rw [showing]; decide)

theorem CueQueue.starting_legal (t : Nat) (f : FrameNo) (h : q.legal) : (q.starting t f).legal :=
  CueQueue.legal_of_same (CueQueue.oweClears_entries _ _)
    (List.foldlRecOn (motive := CueQueue.legal) _ _ h fun _ h e _ => CueQueue.startOne_legal f e h)

theorem CueQueue.lateness_legal (f : FrameNo) (h : q.legal) : (q.lateness f).legal := by
  refine CueQueue.legal_of_map (q := q) rfl (KeepsCue.ite fun _ => ⟨rfl, rfl⟩) (fun e _ showing => ?_) h
  split at showing <;> exact showing

theorem CueQueue.progress_legal (state : ShowState) (t : Nat) (f : FrameNo) (h : q.legal) :
    (q.progress state t f).legal := by
  have retained : (q.retain t).legal := CueQueue.legal_of_sublist (q := q) List.filter_sublist h
  unfold CueQueue.progress
  dsimp only
  split
  · exact CueQueue.lateness_legal f (CueQueue.starting_legal t f (CueQueue.ending_legal t retained))
  · exact retained

theorem CueQueue.built_legal (f : FrameNo) (h : q.legal) : (q.built f).legal := by
  refine CueQueue.legal_of_map (q := q) rfl (KeepsCue.ite fun _ => ⟨rfl, rfl⟩) (fun e _ showing => ?_) h
  split at showing <;> exact showing

/-! ## Reports (R34, R35) -/

theorem CueQueue.placed_legal (f : FrameNo) (item : PlacedItem) (h : q.legal) : (q.placed f item).legal := by
  have dropped : (q.dropClear item.track item.start).legal := h
  unfold CueQueue.placed
  dsimp only
  (repeat' split)
  · exact h
  · exact CueQueue.update_legal _ _ (fun _ => ⟨rfl, rfl⟩) (fun _ showing => showing) dropped
  · exact CueQueue.legal_of_same (CueQueue.oweClear_entries _ _ _ _) dropped
  · exact CueQueue.legal_of_same (CueQueue.oweClear_entries _ _ _ _) dropped

/-! ## Signals (R36 to R41) -/

/-- In a list of strictly rising starts, at most n elements have fewer than n of it after them. -/
theorem length_filter_few_later (n : Nat) {es : List Cue} (h : es.Pairwise (fun a b => a.start < b.start)) :
    (es.filter (fun e => (es.filter (fun o => e.start < o.start)).length < n)).length ≤ n := by
  by_contra more
  rw [Nat.not_le] at more
  have sub : (es.filter (fun e => (es.filter (fun o => e.start < o.start)).length < n)).Sublist es := List.filter_sublist
  have rising := h.sublist sub
  match hd : es.filter (fun e => (es.filter (fun o => e.start < o.start)).length < n) with
  | [] =>
    rw [hd] at more
    exact Nat.not_lt_zero _ more
  | d :: rest =>
    rw [hd] at more sub rising
    have few : (es.filter (fun o => d.start < o.start)).length < n := by
      have member : d ∈ es.filter (fun e => (es.filter (fun o => e.start < o.start)).length < n) := hd ▸ List.mem_cons_self
      simpa using (List.mem_filter.1 member).2
    have later : rest.Sublist (es.filter (fun o => d.start < o.start)) := by
      have self : rest.filter (fun o => d.start < o.start) = rest :=
        List.filter_eq_self.2 fun o ho => decide_eq_true ((List.pairwise_cons.1 rising).1 o ho)
      exact self ▸ ((List.sublist_cons_self d rest).trans sub).filter _
    have count := later.length_le
    rw [List.length_cons] at more
    omega

/-- The starts of one track's entries rise strictly along the queue. -/
theorem CueQueue.legal.rising (h : q.legal) (track : Nat) (p : Cue → Bool) :
    (q.entries.filter (fun e => e.track == track && p e)).Pairwise (fun a b => a.start < b.start) := by
  refine (h.1.sublist List.filter_sublist).imp_of_mem fun {a b} ha hb before => ?_
  have trackA := (List.mem_filter.1 ha).2
  have trackB := (List.mem_filter.1 hb).2
  simp only [Bool.and_eq_true, beq_iff_eq] at trackA trackB
  rw [cueBefore_iff] at before
  omega

theorem Cue.reevaluate_keepsCue (t : Nat) (f : FrameNo) (all : List Cue) : KeepsCue (Cue.reevaluate t f all) := by
  intro e
  unfold Cue.reevaluate Cue.leave Cue.show_
  (repeat' split) <;> exact ⟨rfl, rfl⟩

/-- An entry shows after a re-evaluation only as one of its track's candidates with the latest starts. -/
theorem Cue.reevaluate_showing {t : Nat} {f : FrameNo} {all : List Cue} {e : Cue}
    (h : (Cue.reevaluate t f all e).state = .showing) : e.candidate t = true ∧ e.chosen t all = true := by
  unfold Cue.reevaluate at h
  simp only [Cue.candidate, Bool.and_eq_true, decide_eq_true_eq]
  split at h
  · split at h
    · cases h
    · cases h
    · simp_all
  · split at h
    · split at h
      · simp_all
      · cases h
      · cases h
    · split at h
      · rename_i chosen
        exact ⟨⟨by omega, by omega⟩, chosen⟩
      · cases h

theorem CueQueue.reevaluate_legal (t : Nat) (jump : Bool) (f : FrameNo) (h : q.legal) : (q.reevaluate t jump f).legal := by
  have entries : (q.reevaluate t jump f).entries = q.entries.map (Cue.reevaluate t f q.entries) := q.moveAll_entries _
  refine ⟨entries ▸ pairwise_map_of_keepsCue (Cue.reevaluate_keepsCue t f q.entries) h.1, fun track => ?_⟩
  refine le_trans ?_ (length_filter_few_later Config.showingCap (h.rising track (fun e => e.candidate t)))
  rw [CueQueue.showing_eq, entries, ← List.countP_eq_length_filter, List.countP_map, ← List.countP_eq_length_filter,
    List.countP_filter]
  refine List.countP_mono_left fun e _ shows => ?_
  simp only [Function.comp, Cue.showsOn, Bool.and_eq_true, beq_iff_eq] at shows
  obtain ⟨onTrack, showing⟩ := shows
  rw [(Cue.reevaluate_keepsCue t f q.entries e).1] at onTrack
  obtain ⟨candidate, chosen⟩ := Cue.reevaluate_showing showing
  have later : (q.entries.filter (fun e => e.track == track && e.candidate t)).filter (fun o => decide (e.start < o.start))
      = q.entries.filter (fun o => o.track == e.track && o.candidate t && decide (e.start < o.start)) := by
    rw [List.filter_filter]
    refine List.filter_congr fun o _ => ?_
    rw [onTrack, Bool.and_comm]
  rw [later]
  simp only [onTrack, candidate, beq_self_eq_true, Bool.and_self, Bool.and_true]
  exact onTrack ▸ chosen

theorem CueQueue.freeze_legal (h : q.legal) : q.freeze.legal := by
  refine CueQueue.moveAll_legal (KeepsCue.ite (Cue.leave_keepsCue .waiting)) (fun e _ showing => ?_) h
  split at showing
  · cases showing
  · exact showing

theorem CueQueue.endShow_legal (h : q.legal) : q.endShow.legal := by
  refine CueQueue.moveAll_legal (KeepsCue.ite (Cue.leave_keepsCue .spent)) (fun e _ showing => ?_) h
  split at showing
  · cases showing
  · exact showing

theorem CueQueue.clearAll_legal (q : CueQueue) : q.clearAll.legal := ⟨.nil, fun _ => Nat.zero_le _⟩

theorem CueQueue.adopt_legal (d : FrameNo) (h : q.legal) : (q.adopt d).legal :=
  CueQueue.legal_of_map (q := q) rfl (fun _ => ⟨rfl, rfl⟩) (fun _ _ showing => showing) h

/-! ## Records (R24 to R26) -/

theorem Cue.replace_keepsCue (f : FrameNo) (new : Cue) : KeepsCue (Cue.replace f new) := by
  intro e
  unfold Cue.replace
  dsimp only
  (repeat' split) <;> exact ⟨rfl, rfl⟩

theorem Cue.replace_showing {f : FrameNo} {new e : Cue} (h : (Cue.replace f new e).state = .showing) :
    e.state = .showing := by
  unfold Cue.replace at h
  dsimp only at h
  (repeat' split at h)
  all_goals simp_all

/-- An entry of a new cue is put in its place in queue order. -/
theorem pairwise_insertBy {new : Cue} {es : List Cue} (h : es.Pairwise (fun a b => cueBefore a b = true))
    (absent : ∀ e ∈ es, e.is new.track new.start = false) :
    (insertBy cueBefore new es).Pairwise (fun a b => cueBefore a b = true) := by
  induction es with
  | nil => exact List.pairwise_singleton _ _
  | cons e es ih =>
    obtain ⟨before, rest⟩ := List.pairwise_cons.1 h
    unfold insertBy
    split
    · rename_i first
      refine List.pairwise_cons.2 ⟨fun o ho => ?_, ih rest fun o ho => absent o (List.mem_cons_of_mem _ ho)⟩
      obtain rfl | ho := (mem_insertBy cueBefore new o es).1 ho
      · exact first
      · exact before o ho
    · rename_i follows
      have other := absent e List.mem_cons_self
      simp only [Cue.is, Bool.and_eq_false_iff, beq_eq_false_iff_ne, ne_eq] at other
      rw [cueBefore_iff] at follows
      have front : cueBefore new e = true := by
        rw [cueBefore_iff]
        omega
      refine List.pairwise_cons.2 ⟨fun o ho => ?_, h⟩
      obtain rfl | ho := List.mem_cons.1 ho
      · exact front
      · have behind := before o ho
        rw [cueBefore_iff] at front behind ⊢
        omega

theorem CueQueue.insert_legal {new : Cue} (waits : new.state = .waiting) (absent : q.find new.track new.start = none)
    (h : q.legal) : CueQueue.legal { q with entries := insertBy cueBefore new q.entries } := by
  have missing : ∀ e ∈ q.entries, e.is new.track new.start = false := by
    simpa [CueQueue.find] using absent
  refine ⟨pairwise_insertBy h.1 missing, fun track => ?_⟩
  have hidden : Cue.showsOn track new = false := by simp [Cue.showsOn, waits]
  have same := ((insertBy_perm cueBefore new q.entries).filter (Cue.showsOn track)).length_eq
  rw [List.filter_cons_of_neg (by simp [hidden])] at same
  exact same.trans_le (h.2 track)

theorem CueQueue.find_remove {track start t k : Nat} (h : q.find track start = none) : (q.remove t k).find track start = none := by
  rw [CueQueue.find, List.find?_eq_none] at h ⊢
  exact fun e he => h e (List.mem_of_mem_filter he)

theorem CueQueue.take_legal (f : FrameNo) {new : Cue} (waits : new.state = .waiting) (taken : q.take f new = some q')
    (h : q.legal) : q'.legal := by
  unfold CueQueue.take at taken
  split at taken
  · cases taken
    exact CueQueue.update_legal _ _ (Cue.replace_keepsCue f new) (fun _ => Cue.replace_showing) h
  · rename_i absent
    split at taken
    · cases taken
      exact CueQueue.insert_legal waits absent h
    · split at taken
      · cases taken
        exact CueQueue.insert_legal waits (CueQueue.find_remove absent)
          (CueQueue.legal_of_sublist (q := q) List.filter_sublist h)
      · cases taken

theorem CueQueue.cancel_legal (track start : Nat) (h : q.legal) : (q.cancel track start).legal := by
  have removed : (q.remove track start).legal := CueQueue.legal_of_sublist (q := q) List.filter_sublist h
  unfold CueQueue.cancel
  dsimp only
  (repeat' split)
  · exact CueQueue.legal_of_same (CueQueue.oweClear_entries _ _ _ _) removed
  · exact removed
  · exact h

end

/-! ## The station's operations -/

section
variable {s : State}

theorem State.compose_cues (s : State) : s.compose.cues =
    (s.cues.progress s.show_.state s.show_.clock s.timing.frameNumber).built s.timing.frameNumber := by
  obtain ⟨left, plan, c, -, -, -, same | tuned⟩ := s.compose_cases
  · rw [same]
    rfl
  · rw [tuned, State.need_cues]
    rfl

theorem State.compose_cues_legal (h : s.cues.legal) : s.compose.cues.legal := by
  rw [State.compose_cues]
  exact CueQueue.built_legal _ (CueQueue.progress_legal _ _ _ h)

theorem State.boundaryWork_cues_legal (r silent : Bool) (h : s.cues.legal) : (s.boundaryWork r silent).cues.legal := by
  have composed : ∀ t : State, t.cues.legal → (if silent then t.silence else t.compose).cues.legal := by
    intro t ht
    split
    · exact ht
    · exact State.compose_cues_legal ht
  obtain ⟨count, link, ticked⟩ := State.ticked_eq s
  cases joined : s.joined with
  | false =>
    rw [State.boundaryWork_of_away r silent joined, ticked]
    exact h
  | true =>
    rw [State.boundaryWork_of_joined r silent joined, ticked]
    split
    · exact composed _ (by simpa using h)
    · rw [State.managerBoundary_cues]
      exact composed _ (by simpa using h)

theorem State.reportSent_cues_legal (p : Position) (h : s.cues.legal) : (s.reportSent p).cues.legal := by
  have cleared : ((s.plan.clears.filter (fun c => c.burst == p)).foldl (fun q c => q.clearSent c.serial) s.cues).legal :=
    List.foldlRecOn (motive := CueQueue.legal) _ _ h fun _ h _ _ => h
  exact List.foldlRecOn (motive := CueQueue.legal) _ _ cleared fun _ h i _ => CueQueue.placed_legal s.timing.frameNumber i h

theorem State.burstSent_cues_legal (h : s.cues.legal) : s.burstSent.cues.legal := by
  unfold State.burstSent
  split
  · exact State.reportSent_cues_legal _ (s := State.setProgress _ .sent { s with radio := _ }) h
  · exact h

theorem State.signalReevaluate_cues_legal (jump : Bool) (h : s.cues.legal) : (s.signalReevaluate jump).cues.legal := by
  have cues : (s.signalReevaluate jump).cues = s.cues.reevaluate s.show_.clock jump s.timing.frameNumber := by
    unfold State.signalReevaluate
    dsimp only
    split <;> simp
  rw [cues]
  exact CueQueue.reevaluate_legal _ _ _ h

theorem State.markClock_cues_legal (t : Nat) (h : s.cues.legal) : (s.markClock t).cues.legal := by
  unfold State.markClock State.jumpTo
  (repeat' split)
  · exact State.signalReevaluate_cues_legal (s := { s with show_ := s.show_.place t }) false h
  · exact State.signalReevaluate_cues_legal (s := State.raise .jump { s with show_ := _ }) true h
  · exact h
  · exact State.signalReevaluate_cues_legal (s := State.raise .jump { s with show_ := _ }) true h

theorem State.clearShow_cues_legal (s : State) : s.clearShow.cues.legal := by
  rw [State.clearShow_eq, State.signalEmpty_eq]
  exact CueQueue.clearAll_legal s.cues

theorem Record.taken_cues_legal (r : Record) (h : s.cues.legal) : (r.taken s).cues.legal := by
  cases r with
  | showLoad session time tracks =>
    simp only [Record.taken, State.showLoad]
    split
    · exact h
    · rw [State.signalState_cues, State.signalEmpty_eq]
      exact CueQueue.clearAll_legal s.cues
  | showEnd =>
    simp only [Record.taken, State.showEnd]
    split
    · simpa [State.signalEnded] using CueQueue.endShow_legal h
    · exact h
  | showClear => exact State.clearShow_cues_legal s
  | mark t running =>
    simp only [Record.taken, State.mark]
    (repeat' split)
    · exact h
    · exact h
    · simpa [State.takeMark] using
        State.markClock_cues_legal t (s := { s with show_ := { s.show_ with markLoss := some 0 } }) h
  | cue track start stop region italic speakerChange text =>
    simp only [Record.taken, State.cue]
    (repeat' split)
    · exact h
    · exact CueQueue.take_legal _ rfl ‹_› h
    · exact h
  | cueCancel track start =>
    simp only [Record.taken, State.cueCancel]
    split
    · exact h
    · exact CueQueue.cancel_legal _ _ h
  | _ => simpa [Record.taken] using h

theorem coldStart_cues_legal (s : State) : s.coldStart.cues.legal := ⟨.nil, fun _ => Nat.zero_le _⟩

theorem effect_cues_legal (c : Instr) (h : s.cues.legal) : (c.effect s).cues.legal := by
  have cold := fun t => effect_of_coldStart (P := fun t => t.cues.legal) h coldStart_cues_legal t
  refine effect_induct (P := fun t => t.cues.legal) c h (fun r => Record.taken_cues_legal r h) (fun _ => by simpa using h)
    (fun m _ _ _ => by cases c <;> simpa [messageReaction, State.heard] using h) (fun hc hm => ?_)
  cases c
  case powerOn => exact (cold 0).1
  case powerLoss => exact coldStart_cues_legal _
  case restartLine _ width => exact (cold width).2.2.1
  case restartLineReleased => exact (cold 0).2.2.2
  case frameBoundary =>
    simp only [Instr.effect, State.frameBoundary]
    split
    · exact State.boundaryWork_cues_legal _ _ (s := { s with timing := s.timing.nextFrame }) h
    · exact h
  case adoption =>
    simp only [Instr.effect, State.applyAdoption]
    split
    · exact State.adopt_induct (P := fun t => t.cues.legal) _ (CueQueue.adopt_legal _ h) (fun _ h => by simpa using h)
        (fun _ h => State.boundaryWork_cues_legal _ false h) (fun _ h => by simpa using h)
    · exact h
  case burstSent => exact State.burstSent_cues_legal h
  case endedTimerExpiry =>
    simp only [Instr.effect, State.endedTimerExpiry]
    split
    · exact State.clearShow_cues_legal s
    · exact h
  case frozen =>
    simp only [Instr.effect, State.freeze]
    split
    · simpa [State.signalFreeze] using CueQueue.freeze_legal h
    · exact h
  case announce | claim | object | release => cases hm
  case showLoad | showEnd | showClear | mark | tableLoad | cue | cueCancel | clipHead | clipData | clipCancel | eventAck =>
    cases hc
  all_goals simpa [Instr.effect] using h

/-- Settles O12: the clip store by the two properties that show and store keep, the cue queue by its own. -/
theorem stepKeepsClipsAndCuesLegal : Obligations.StepKeepsClipsAndCuesLegal := by
  intro s t h
  refine ⟨fun legal => legal_clipsKeep.step legal h, fun legal engines => ?_, fun legal => ?_⟩
  · exact (t.sound_iff.1 (sound_clipsKeep.step (s.sound_iff.2 ⟨legal.1, engines⟩) h)).2
  · exact step_keeps (P := fun t => t.cues.legal) (fun _ _ h => h) (fun dt s h => by simpa using h)
      (fun c _ => effect_cues_legal c) (fun _ h => by simpa using h) legal h

end

end Sys2Proof.Machine

/-! The statements on the configuration image read, the boundary that is issued, the house line's own messages, a record judged, a
JOIN answered and the radio port. -/

namespace Sys2Proof.Machine

/-! ## The image (R169 to R171) -/

theorem State.configReadComplete_of_good {u : State} {image : List Byte} {c : ConfigImage}
    (reading : u.loader.reading = true) (h : parseImage image = some c) :
    u.configReadComplete image = u.enterListen c := by
  simp [State.configReadComplete, reading, h]

theorem State.configReadComplete_of_bad {u : State} {image : List Byte} (reading : u.loader.reading = true)
    (h : parseImage image = none) : u.configReadComplete image = u.enterConfigFault := by
  simp [State.configReadComplete, reading, h]

theorem parseImage_of_set_check {bs : List Byte} (h : fieldAt bs 8 2 = 65535) : parseImage bs = none := by
  simp [parseImage, h]

/-- Settles O15: the image is good or bad; an empty memory reads as a check of 65,535. -/
theorem imageDecidesListenOrFault : Obligations.ImageDecidesListenOrFault := by
  refine fun dt image s u hu reading => ⟨fun c good => exec_of_effect hu ?_, fun bad => ⟨_, exec_of_effect hu ?_, rfl, ?_⟩,
    parseImage_of_set_check (by decide)⟩
  · exact State.configReadComplete_of_good reading good
  · exact State.configReadComplete_of_bad reading bad
  · have fault : faultLineAt .configFault u.pm.starved u.show_.state = true := (faultLineAt_iff _ _ _).2 (.inl rfl)
    have hold : holdLineAt .configFault u.link.rxQueue.length = true := (holdLineAt_iff _ _).2 (.inr (.inl rfl))
    simp [fault, hold]

/-! ## The boundary issued (R99, R100) -/

@[simp] theorem State.compose_secondCount (s : State) : s.compose.roster.secondCount = s.roster.secondCount := by
  unfold State.compose
  dsimp only
  split <;> simp

theorem State.ticked_secondCount (s : State) : s.ticked.roster.secondCount =
    if isSecondTick s.timing.frameNumber then s.roster.secondCount + 1 else s.roster.secondCount := by
  unfold State.ticked
  split <;> rfl

/-- Of the boundary's work the tick alone moves the second count. -/
theorem State.boundaryWork_secondCount (r silent : Bool) (s : State) : (s.boundaryWork r silent).roster.secondCount =
    if isSecondTick s.timing.frameNumber then s.roster.secondCount + 1 else s.roster.secondCount := by
  rw [← State.ticked_secondCount]
  cases joined : s.joined with
  | false => rw [State.boundaryWork_of_away r silent joined]
  | true =>
    rw [State.boundaryWork_of_joined r silent joined]
    cases r
    all_goals
      cases silent
      all_goals simp [State.silence]

/-- Settles O19: the frame timer begins the next frame, and the boundary's work leaves it. -/
theorem frameBoundaryBeginsTheNextFrame : Obligations.FrameBoundaryBeginsTheNextFrame := by
  intro dt r s u hu reached
  refine ⟨_, exec_of_effect hu (State.frameBoundary_of_reached r reached), ?_⟩
  simp [State.boundaryWork_secondCount, Timing.nextFrame, frameLengthAt, isSecondTick]

/-! ## The first of a list, and a place in it -/

theorem firstBy_least {α : Type} {before : α → α → Bool} {rank : α → Nat}
    (h : ∀ a b, before a b = decide (rank a < rank b)) {x : α} {l : List α} (hx : firstBy before l = some x) :
    ∀ y ∈ l, rank x ≤ rank y := by
  induction l generalizing x with
  | nil => cases hx
  | cons z zs ih =>
    unfold firstBy at hx
    split at hx
    · rename_i none_
      have empty : zs = [] := by
        have present := isSome_firstBy before zs
        rw [none_] at present
        simpa using present
      cases hx
      simp [empty]
    · rename_i m hm
      rw [h] at hx
      intro y hy
      have least := ih hm
      split at hx
      all_goals
        rename_i first
        cases hx
        simp only [decide_eq_true_eq] at first
        obtain rfl | tail := List.mem_cons.1 hy
        · omega
        · have := least y tail
          omega

/-- An element put in by a queue's order lands behind the elements before it that come first. -/
theorem insertBy_lands {α : Type} (before : α → α → Bool) (x : α) (l : List α) : ∃ front back,
    l = front ++ back ∧ insertBy before x l = front ++ x :: back ∧ (∀ w ∈ front, before w x = true)
      ∧ ∀ w, back.head? = some w → ¬ before w x = true := by
  induction l with
  | nil => exact ⟨[], [], rfl, rfl, nofun, nofun⟩
  | cons y ys ih =>
    unfold insertBy
    split
    · rename_i ahead
      obtain ⟨front, back, rfl, inserted, firsts, rest⟩ := ih
      refine ⟨y :: front, back, rfl, by rw [inserted]; rfl, ?_, rest⟩
      simpa [ahead] using firsts
    · rename_i behind
      refine ⟨[], y :: ys, rfl, rfl, nofun, fun w hw => ?_⟩
      cases hw
      exact behind

/-! ## The house line's queue (R115, R116) -/

theorem isAnnounce_iff (w : Waiting) : isAnnounce w = true ↔ w.body = .announce := by
  unfold isAnnounce
  cases w.body <;> simp [WaitingBody.class_]

theorem waitingBefore_iff (a b : Waiting) : waitingBefore a b = true ↔
    a.body.class_ < b.body.class_ ∨ a.body.class_ = b.body.class_ ∧ a.arrival < b.arrival := by
  simp [waitingBefore]

theorem HouseLine.join_of_waiting {m : Waiting} {l : HouseLine} (new : m.body = .announce)
    (waits : ∃ w ∈ l.queue, w.body = .announce) : l.join m = l := by
  have there : l.queue.any isAnnounce = true := by
    obtain ⟨w, hw, same⟩ := waits
    exact List.any_eq_true.2 ⟨w, hw, (isAnnounce_iff w).2 same⟩
  rw [HouseLine.join, there, (isAnnounce_iff m).2 new]
  rfl

section
variable {m : Waiting} {l : HouseLine} (alone : m.body = .announce → ∀ w ∈ l.queue, w.body ≠ .announce)
include alone

theorem HouseLine.not_announced : ¬ (isAnnounce m && l.queue.any isAnnounce) = true := by
  intro h
  rw [Bool.and_eq_true, isAnnounce_iff, List.any_eq_true] at h
  obtain ⟨new, w, hw, same⟩ := h
  exact alone new w hw ((isAnnounce_iff w).1 same)

theorem HouseLine.join_of_room (room : l.queue.length < Config.maxMessages) :
    l.join m = { l with queue := insertBy waitingBefore m l.queue } := by
  rw [HouseLine.join, if_neg (HouseLine.not_announced alone), if_pos room]

theorem HouseLine.join_of_full {kept : List Waiting} {last : Waiting} (full : Config.maxMessages ≤ l.queue.length)
    (hq : l.queue = kept ++ [last]) : l.join m =
      if last.body.class_ ≤ m.body.class_ then { l with dropped := bump l.dropped }
      else { l with queue := insertBy waitingBefore m kept, dropped := bump l.dropped } := by
  rw [HouseLine.join, if_neg (HouseLine.not_announced alone), if_neg (Nat.not_lt.2 full), hq, List.getLast?_concat]
  simp

end

/-! ## The message in transmission (R114, R117 to R119) -/

section
variable {u : State} {w : Waiting} {rest : List Waiting}

theorem State.messageStart_of_content {content : MessageContent} (free : u.lineFree = true) (hq : u.line.queue = w :: rest)
    (quiet : quietInterval u.cfg.number w ≤ u.line.quietCount) (h : u.contentOf w.body = some content) :
    u.messageStart = u.beginMessage w rest content := by
  simp [State.messageStart, free, hq, quiet, h]

theorem State.messageStart_of_no_content (free : u.lineFree = true) (hq : u.line.queue = w :: rest)
    (quiet : quietInterval u.cfg.number w ≤ u.line.quietCount) (h : u.contentOf w.body = none) :
    u.messageStart = { u with line := { u.line with queue := rest } } := by
  simp [State.messageStart, free, hq, quiet, h]

end

/-- Settles O42: the line is free and quiet for long enough, so the first waiting message starts with the content of its kind, or
is removed. -/
theorem messagesStartAfterTheirQuietInterval : Obligations.MessagesStartAfterTheirQuietInterval := by
  rintro dt s u w rest start hu joined receiving quiet free hq long rfl
  have lineFree : u.lineFree = true := by simp [State.lineFree, joined, receiving, quiet, free]
  have interval : quietInterval u.cfg.number w ≤ u.line.quietCount := long
  have starts {content : MessageContent} (h : u.contentOf w.body = some content) :=
    exec_of_effect (c := .messageStart dt) hu (State.messageStart_of_content lineFree hq interval h)
  refine ⟨fun p f k e h body held => starts ?_, fun p f k e body gone => exec_of_effect hu ?_,
    fun p reason body => starts (by rw [body]; rfl), fun p f body => starts (by rw [body]; rfl),
    fun body => starts (by rw [body]; rfl)⟩
  · rw [body, State.contentOf, held]
    rfl
  · refine State.messageStart_of_no_content lineFree hq interval ?_
    have none_ : u.pm.holdings.find? (fun h => h.position == p) = none := by
      simpa [List.find?_eq_none] using gone
    rw [body, State.contentOf, none_]
    rfl

theorem HouseLine.returnMessage_of_last {w : Waiting} (l : HouseLine) (h : w.conflicts = 3) :
    l.returnMessage w = { l with dropped := bump l.dropped } := by
  simp [HouseLine.returnMessage, h]

theorem HouseLine.returnMessage_of_early {w : Waiting} (l : HouseLine) (h : w.conflicts < 3) :
    l.returnMessage w = l.join { w with conflicts := w.conflicts + 1 } := by
  rw [HouseLine.returnMessage, if_neg (by omega)]

/-- Settles O43: the message ends, or meets its fourth conflict, or returns to the queue; and the queue's own rule. -/
theorem messagesCompleteOrMeetConflicts : Obligations.MessagesCompleteOrMeetConflicts := by
  refine ⟨fun dt s u m hu sends => ?_, ?_, ?_⟩
  · have conflict {line : HouseLine} (h : HouseLine.returnMessage m.waiting { u.line with
        sending := none, ownConflict := true, lineConflict := bump u.line.lineConflict } = line) :
        exec (.lineConflict dt) s = .next (finish { u with line := line }) := by
      refine exec_of_effect hu ?_
      simp only [Instr.effect, State.lineConflict, sends, h]
    refine ⟨exec_of_effect hu ?_, fun last => ?_, fun early room alone => ?_, ?_⟩
    · simp only [Instr.effect, State.messageComplete, sends]
      rfl
    · exact conflict (HouseLine.returnMessage_of_last _ last)
    · refine ⟨_, conflict ((HouseLine.returnMessage_of_early _ early).trans (HouseLine.join_of_room alone room)), ?_, ?_,
        fun w hw => ?_⟩
      · exact length_insertBy _ _ _
      · exact (mem_insertBy _ _ _ _).2 (.inl rfl)
      · exact (mem_insertBy _ _ _ _).2 (.inr hw)
    · rintro early line rfl
      exact conflict (HouseLine.returnMessage_of_early _ early)
  · intro l m rank before lands hrank hbefore hlands
    have rank_ : rank = WaitingBody.class_ := hrank.trans (funext fun b => by cases b <;> rfl)
    have order (a b : Waiting) : before a b ↔ waitingBefore a b = true := by
      rw [hbefore, waitingBefore_iff, rank_]
    have landed (q : List Waiting) : lands q (insertBy waitingBefore m q) := by
      obtain ⟨front, back, split, inserted, firsts, head⟩ := insertBy_lands waitingBefore m q
      exact (hlands _ _).2 ⟨front, back, split, inserted, fun w hw => (order w m).2 (firsts w hw),
        fun w hw => mt (order w m).1 (head w hw)⟩
    refine ⟨HouseLine.join_of_waiting, fun alone => ⟨fun room => ⟨_, HouseLine.join_of_room alone room, landed _⟩,
      fun kept last full hq => ?_⟩⟩
    rw [HouseLine.join_of_full alone full hq, rank_]
    exact ⟨fun low => if_pos low, fun high => ⟨_, if_neg (Nat.not_le.2 high), landed _⟩⟩
  · rintro s body line rfl
    exact ⟨rfl, fun joined => if_pos (beq_iff_eq.2 joined), fun away => if_neg (mt beq_iff_eq.1 away)⟩

/-! ## A JOIN answered (R84 to R86, R91, R92) -/

theorem Roster.enroll_of_entry {r : Roster} {receiver : BitVec 32} (track : Nat)
    (h : ∃ e ∈ r.entries, e.receiver = receiver) : r.enroll receiver track = ({ r with entries := r.entries.map (fun e =>
      if e.receiver == receiver then { e with track := track, lastRenewed := r.secondCount } else e) }, .granted) := by
  rw [Roster.enroll, (r.has_iff receiver).2 h]
  rfl

theorem Roster.enroll_of_room {r : Roster} {receiver : BitVec 32} (track : Nat) (h : ∀ e ∈ r.entries, e.receiver ≠ receiver)
    (room : r.entries.length < Config.maxRoster) : r.enroll receiver track = ({ r with entries := r.entries ++
      [{ receiver := receiver, track := track, lastRenewed := r.secondCount }] }, .granted) := by
  simp [Roster.enroll, (r.has_eq_false_iff receiver).2 h, room]

theorem Roster.enroll_of_full {r : Roster} {receiver : BitVec 32} (track : Nat) (h : ∀ e ∈ r.entries, e.receiver ≠ receiver)
    (full : Config.maxRoster ≤ r.entries.length) : r.enroll receiver track = (r.refused, .rosterFull) := by
  simp [Roster.enroll, (r.has_eq_false_iff receiver).2 h, Nat.not_lt.2 full]

/-- Settles O32: the ticket is refused, or the receiver enrolled; the answer reports a change of counts. -/
theorem joinsAreAnswered : Obligations.JoinsAreAnswered := by
  intro dt s u id k answer hu gap hanswer
  have offer : answer = fun r result => r.offer { receiver := id, result := result } := hanswer
  refine ⟨?_, fun nonzero => ?_⟩
  · rintro rfl
    exact exec_of_effect hu (State.handleReply_zero gap _)
  have step : exec (.join dt id k.auditorium k.session k.ticketClass k.track) s =
      .next (finish (u.gapUsed.answer id (Roster.join u.cfg.number u.show_ id k u.roster))) :=
    exec_of_effect hu (State.handleReply_of_gap gap nonzero _)
  refine ⟨fun result refusal => ?_, fun admitted => ?_⟩
  · have decided : Roster.join u.cfg.number u.show_ id k u.roster = (u.roster.refused, result) := by
      simp [Roster.join, refusal]
    rw [step, decided, State.answer_of_same_counts (s := u.gapUsed) id (decision := (u.roster.refused, result)) rfl, offer]
    rfl
  · have decided : Roster.join u.cfg.number u.show_ id k u.roster = u.roster.enroll id k.track := by
      simp [Roster.join, admitted]
    obtain ⟨decision, hd⟩ : ∃ d, u.roster.enroll id k.track = d := ⟨_, rfl⟩
    rw [decided, hd] at step
    obtain ⟨roster, hr⟩ : ∃ r, r = decision.1.offer { receiver := id, result := decision.2 } := ⟨_, rfl⟩
    have counts : roster.counts = decision.1.counts := by rw [hr, Roster.offer_counts]
    have rosters : ((∃ e ∈ u.roster.entries, e.receiver = id) →
          roster = answer { u.roster with entries := u.roster.entries.map (fun e =>
            if e.receiver == id then { e with track := k.track, lastRenewed := u.roster.secondCount } else e) } .granted)
        ∧ ((∀ e ∈ u.roster.entries, e.receiver ≠ id) → u.roster.entries.length < 48 →
          roster = answer { u.roster with entries := u.roster.entries ++
            [{ receiver := id, track := k.track, lastRenewed := u.roster.secondCount }] } .granted)
        ∧ ((∀ e ∈ u.roster.entries, e.receiver ≠ id) → 48 ≤ u.roster.entries.length →
          roster = answer { u.roster with joinRefusals := bump u.roster.joinRefusals } .rosterFull) := by
      rw [offer, hr, ← hd]
      refine ⟨fun known => ?_, fun new room => ?_, fun new full => ?_⟩
      · rw [Roster.enroll_of_entry k.track known]
      · rw [Roster.enroll_of_room k.track new room]
      · rw [Roster.enroll_of_full k.track new full]
        rfl
    by_cases same : decision.1.counts = u.roster.counts
    · rw [State.answer_of_same_counts (s := u.gapUsed) id same, ← hr] at step
      exact ⟨u.pm, u.line, roster, step, rfl, fun _ => ⟨rfl, rfl⟩, fun differ => absurd (counts.trans same) differ, rosters⟩
    · rw [State.gapUsed_answer_of_changed_counts same hr] at step
      refine ⟨_, _, roster, step, ?_, fun h => absurd (counts.symm.trans h) same, ?_, rosters⟩
      · simp
      · rintro - v rfl
        exact ⟨rfl, rfl⟩

end Sys2Proof.Machine

/-! SUPPORT. Numbers in bytes, fields of a run of bytes, and the check (R176); and the statement on the image and the replies. -/

namespace Sys2Proof.Machine

/-! ## Numbers in bytes -/

theorem natOfBytes_foldl (bs : List Byte) (a : Nat) :
    bs.foldl (fun acc b => acc * 256 + b.toNat) a = a * 256 ^ bs.length + natOfBytes bs := by
  unfold natOfBytes
  induction bs generalizing a with
  | nil => simp
  | cons b bs ih =>
    rw [List.foldl_cons, ih, List.foldl_cons, ih (0 * 256 + b.toNat), List.length_cons, Nat.pow_succ']
    ring

@[simp] theorem natOfBytes_nil : natOfBytes [] = 0 := rfl

theorem natOfBytes_cons (b : Byte) (bs : List Byte) : natOfBytes (b :: bs) = b.toNat * 256 ^ bs.length + natOfBytes bs := by
  rw [natOfBytes, List.foldl_cons, natOfBytes_foldl]
  simp

theorem natOfBytes_lt (bs : List Byte) : natOfBytes bs < 256 ^ bs.length := by
  induction bs with
  | nil => simp
  | cons b bs ih =>
    have byte : b.toNat < 256 := b.isLt
    rw [natOfBytes_cons, List.length_cons, Nat.pow_succ']
    nlinarith

@[simp] theorem length_bytesOfNat (n v : Nat) : (bytesOfNat n v).length = n := by
  induction n with
  | zero => rfl
  | succ n ih => simp [bytesOfNat, ih]

@[simp] theorem natOfBytes_bytesOfNat (n v : Nat) : natOfBytes (bytesOfNat n v) = v % 256 ^ n := by
  induction n with
  | zero => simp [bytesOfNat, Nat.mod_one]
  | succ n ih =>
    have byte : (BitVec.ofNat 8 (v / 256 ^ n)).toNat = v / 256 ^ n % 256 := rfl
    rw [bytesOfNat, natOfBytes_cons, length_bytesOfNat, ih, byte, Nat.mod_pow_succ, Nat.mul_comm, Nat.add_comm]

/-- A run of bytes is the number it reads as, written out. -/
theorem bytesOfNat_natOfBytes (bs : List Byte) : bytesOfNat bs.length (natOfBytes bs) = bs := by
  induction bs with
  | nil => rfl
  | cons b bs ih =>
    have rest (a : Nat) (n : Nat) (h : n ≤ bs.length) :
        bytesOfNat n (a * 256 ^ bs.length + natOfBytes bs) = bytesOfNat n (natOfBytes bs) := by
      induction n with
      | zero => rfl
      | succ n ihn =>
        obtain ⟨k, hk⟩ := Nat.exists_eq_add_of_lt (Nat.lt_of_succ_le h)
        have digit : (a * 256 ^ bs.length + natOfBytes bs) / 256 ^ n = a * 256 ^ k * 256 + natOfBytes bs / 256 ^ n := by
          rw [hk, show a * 256 ^ (n + k + 1) = a * 256 ^ k * 256 * 256 ^ n by ring, Nat.add_comm,
            Nat.add_mul_div_right _ _ (by positivity), Nat.add_comm]
        rw [bytesOfNat, bytesOfNat, ihn (by omega), digit]
        congr 1
        apply BitVec.eq_of_toNat_eq
        simp
    rw [List.length_cons, bytesOfNat, natOfBytes_cons, rest _ _ (le_refl _), ih]
    congr 1
    rw [Nat.mul_comm, Nat.mul_add_div (by positivity), Nat.div_eq_of_lt (natOfBytes_lt bs), Nat.add_zero]
    simp

/-! ## Fields -/

theorem fieldAt_append_of_le {a : List Byte} {off : Nat} (h : a.length ≤ off) (b : List Byte) (n : Nat) :
    fieldAt (a ++ b) off n = fieldAt b (off - a.length) n := by
  rw [fieldAt, fieldAt, List.drop_append, List.drop_eq_nil_of_le h, List.nil_append]

theorem fieldAt_append_of_within {a : List Byte} {off n : Nat} (h : off + n ≤ a.length) (b : List Byte) :
    fieldAt (a ++ b) off n = fieldAt a off n := by
  rw [fieldAt, fieldAt, List.drop_append_of_le_length (by omega), List.take_append_of_le_length (by simp; omega)]

theorem fieldAt_take {bs : List Byte} {off n m : Nat} (h : off + n ≤ m) : fieldAt (bs.take m) off n = fieldAt bs off n := by
  rw [fieldAt, fieldAt, List.drop_take, List.take_take, Nat.min_eq_left (by omega)]

theorem fieldAt_drop (bs : List Byte) (k off n : Nat) : fieldAt (bs.drop k) off n = fieldAt bs (k + off) n := by
  rw [fieldAt, fieldAt, List.drop_drop]

@[simp] theorem fieldAt_bytesOfNat_append (n v : Nat) (rest : List Byte) :
    fieldAt (bytesOfNat n v ++ rest) 0 n = v % 256 ^ n := by
  rw [fieldAt, List.drop_zero, List.take_left' (length_bytesOfNat n v), natOfBytes_bytesOfNat]

@[simp] theorem fieldAt_bytesOfNat (n v : Nat) : fieldAt (bytesOfNat n v) 0 n = v % 256 ^ n := by
  rw [← List.append_nil (bytesOfNat n v), fieldAt_bytesOfNat_append]

theorem fieldAt_lt (bs : List Byte) (off n : Nat) : fieldAt bs off n < 256 ^ n :=
  (natOfBytes_lt _).trans_le (Nat.pow_le_pow_right (by decide) (List.length_take_le _ _))

theorem fieldAt_byte_lt (bs : List Byte) (off : Nat) : fieldAt bs off 1 < 256 := fieldAt_lt bs off 1

theorem fieldAt_four_lt (bs : List Byte) (off : Nat) : fieldAt bs off 4 < 4294967296 := fieldAt_lt bs off 4

/-! ## The check -/

@[simp] theorem length_checkBytes (bs : List Byte) : (checkBytes bs).length = 2 := length_bytesOfNat _ _

@[simp] theorem length_withCheck (bs : List Byte) : (withCheck bs).length = bs.length + 2 := by simp [withCheck]

@[simp] theorem beforeCheck_withCheck (bs : List Byte) : beforeCheck (withCheck bs) = bs := by
  rw [beforeCheck, length_withCheck, Nat.add_sub_cancel, withCheck, List.take_left' rfl]

@[simp] theorem checkOk_withCheck (bs : List Byte) : checkOk (withCheck bs) = true := by
  have body : (withCheck bs).take bs.length = bs := by rw [withCheck, List.take_left' rfl]
  have check : (withCheck bs).drop bs.length = checkBytes bs := by rw [withCheck, List.drop_left' rfl]
  simp [checkOk, body, check]

theorem checkOk_iff (bs : List Byte) : checkOk bs = true ↔ ∃ body, bs = withCheck body := by
  refine ⟨fun h => ⟨bs.take (bs.length - 2), ?_⟩, ?_⟩
  · simp only [checkOk, Bool.and_eq_true, decide_eq_true_eq, beq_iff_eq] at h
    rw [withCheck, ← h.2, List.take_append_drop]
  · rintro ⟨body, rfl⟩
    exact checkOk_withCheck body

theorem fieldAt_beforeCheck {bs : List Byte} {off n : Nat} (h : off + n + 2 ≤ bs.length) :
    fieldAt (beforeCheck bs) off n = fieldAt bs off n := fieldAt_take (by omega)

/-! ## The image (R169, R182) -/

theorem stationNumberOk_iff (n : Nat) : stationNumberOk n = true ↔ 1 ≤ n ∧ n ≤ 32 := by simp [stationNumberOk]

/-- The image in ten bytes, good or not. -/
def imageAt (bs : List Byte) : ConfigImage :=
  { number := fieldAt bs 0 1, carriers := BitVec.ofNat 8 (fieldAt bs 1 1), neighbours := BitVec.ofNat 32 (fieldAt bs 2 4)
    maxHoldings := fieldAt bs 6 1, outputLevel := fieldAt bs 7 1 }

theorem ofNat_byte_eq_zero_iff {v : Nat} (h : v < 256) : BitVec.ofNat 8 v = 0 ↔ v = 0 := by
  rw [← BitVec.toNat_inj]
  simp
  omega

theorem parseImage_eq_some_iff (bs : List Byte) (c : ConfigImage) : parseImage bs = some c ↔
    (bs.length = 10 ∧ checkOk bs = true ∧ fieldAt bs 8 2 ≠ 65535 ∧ 1 ≤ fieldAt bs 0 1 ∧ fieldAt bs 0 1 ≤ 32
      ∧ fieldAt bs 1 1 ≠ 0 ∧ 1 ≤ fieldAt bs 6 1 ∧ fieldAt bs 6 1 ≤ 4 ∧ fieldAt bs 7 1 ≤ 7) ∧ imageAt bs = c := by
  have carriers := ofNat_byte_eq_zero_iff (fieldAt_byte_lt bs 1)
  have eq : parseImage bs = if bs.length == 10 && checkOk bs && fieldAt bs 8 2 != 65535
      && stationNumberOk (fieldAt bs 0 1) && BitVec.ofNat 8 (fieldAt bs 1 1) != 0 && 1 ≤ fieldAt bs 6 1
      && fieldAt bs 6 1 ≤ 4 && fieldAt bs 7 1 ≤ 7 then some (imageAt bs) else none := rfl
  rw [eq]
  split
  · rename_i good
    simp only [Bool.and_eq_true, beq_iff_eq, bne_iff_ne, decide_eq_true_eq, stationNumberOk_iff, ne_eq, carriers] at good
    simp only [Option.some.injEq]
    tauto
  · rename_i bad
    simp only [Bool.and_eq_true, beq_iff_eq, bne_iff_ne, decide_eq_true_eq, stationNumberOk_iff, ne_eq, carriers] at bad
    simp only [reduceCtorEq, false_iff]
    tauto

theorem ConfigImage.length_bytes (c : ConfigImage) : c.bytes.length = 10 := by simp [ConfigImage.bytes]

theorem ofNat_toNat_mod {n : Nat} (v : BitVec n) : BitVec.ofNat n (v.toNat % 2 ^ n) = v := by
  rw [Nat.mod_eq_of_lt v.isLt, BitVec.ofNat_toNat, BitVec.setWidth_eq]

/-- An image reads its own fields back from its bytes. -/
theorem imageAt_bytes {c : ConfigImage} (number : c.number < 256) (most : c.maxHoldings < 256) (level : c.outputLevel < 256) :
    imageAt c.bytes = c := by
  have carriers := ofNat_toNat_mod c.carriers
  have neighbours := ofNat_toNat_mod c.neighbours
  simp only [Nat.reducePow] at carriers neighbours
  simp [imageAt, ConfigImage.bytes, withCheck, fieldAt_append_of_le, Nat.mod_eq_of_lt number, Nat.mod_eq_of_lt most,
    Nat.mod_eq_of_lt level, carriers, neighbours]

theorem parseImage_bytes {c : ConfigImage} (h : c.good) : parseImage c.bytes = some c := by
  obtain ⟨one, most, carriers, low, high, level, check⟩ := h
  have own := imageAt_bytes (c := c) (by omega) (by omega) (by omega)
  have number : fieldAt c.bytes 0 1 = c.number := congrArg ConfigImage.number own
  have holdings : fieldAt c.bytes 6 1 = c.maxHoldings := congrArg ConfigImage.maxHoldings own
  have output : fieldAt c.bytes 7 1 = c.outputLevel := congrArg ConfigImage.outputLevel own
  have licensed : BitVec.ofNat 8 (fieldAt c.bytes 1 1) = c.carriers := congrArg ConfigImage.carriers own
  have carried : fieldAt c.bytes 1 1 ≠ 0 := fun none_ => carriers (by rw [← licensed, none_]; rfl)
  rw [parseImage_eq_some_iff, number, holdings, output]
  exact ⟨⟨c.length_bytes, checkOk_withCheck _, check, one, most, carried, low, high, level⟩, own⟩

/-! ## Replies (R77, R181) -/

theorem parseReply_bytes {r : Reply} (h : r.fits) : parseReply r.bytes = some r := by
  have id (v : BitVec 32) := ofNat_toNat_mod v
  simp only [Nat.reducePow] at id
  cases r with
  | join receiver auditorium session ticketClass track =>
    obtain ⟨room, class_, low⟩ := h
    have class_' : ticketClass % 256 = ticketClass := Nat.mod_eq_of_lt (by omega)
    simp only [parseReply, Reply.bytes, checkOk_withCheck]
    simp [withCheck, fieldAt_append_of_le, class_', class_, Nat.mod_eq_of_lt room, Nat.mod_eq_of_lt low, id]
  | renew receiver | leave receiver =>
    simp only [parseReply, Reply.bytes, checkOk_withCheck]
    simp [withCheck, fieldAt_append_of_le, id]

theorem exists_parseReply_iff (bs : List Byte) : (∃ r, parseReply bs = some r) ↔ checkOk bs = true
    ∧ (fieldAt bs 0 1 = 1 ∧ bs.length = 14 ∧ fieldAt bs 10 1 ≤ 3 ∨ fieldAt bs 0 1 = 2 ∧ bs.length = 7
      ∨ fieldAt bs 0 1 = 3 ∧ bs.length = 7) := by
  unfold parseReply
  split
  · rename_i ok
    split
    all_goals simp_all
  · rename_i bad
    simp [bad]

/-- Settles O16: both directions of the two formats, and what the check is. -/
theorem imageAndReplyRoundTrip : Obligations.ImageAndReplyRoundTrip := by
  refine ⟨fun c good => ⟨c.length_bytes, parseImage_bytes good⟩, fun r => parseReply_bytes, checkOk_iff, fun bs => ⟨?_, ?_⟩,
    exists_parseReply_iff⟩
  · exact ⟨fun ⟨c, h⟩ => ((parseImage_eq_some_iff bs c).1 h).1, fun h => ⟨_, (parseImage_eq_some_iff bs _).2 ⟨h, rfl⟩⟩⟩
  · intro c h
    obtain ⟨-, rfl⟩ := (parseImage_eq_some_iff bs c).1 h
    exact ⟨rfl, Nat.mod_eq_of_lt (fieldAt_byte_lt _ _), Nat.mod_eq_of_lt (fieldAt_four_lt _ _), rfl, rfl⟩

end Sys2Proof.Machine

/-! The statements on a record judged and on records that come back from their bytes (R158 to R160, R179). -/

namespace Sys2Proof.Machine

/-! ## A record judged (R160) -/

/-- The length that a body of a kind must have, the counts read from the body itself (R179). -/
def requiredLength (body : List Byte) : Nat → Nat
  | 1 => 9 + 8 * fieldAt body 8 1
  | 4 => 5
  | 5 => 3 + fieldAt body 2 1
  | 6 => 12 + fieldAt body 11 1
  | 7 => 5
  | 8 => 9
  | 9 => 5 + 32 * fieldAt body 4 1
  | 10 => 2
  | 11 => 2
  | _ => 0

theorem kind_cases {kind : Nat} (low : 1 ≤ kind) (high : kind ≤ 11) : kind = 1 ∨ kind = 2 ∨ kind = 3 ∨ kind = 4 ∨ kind = 5
    ∨ kind = 6 ∨ kind = 7 ∨ kind = 8 ∨ kind = 9 ∨ kind = 10 ∨ kind = 11 := by omega

theorem parseBody_of_length {kind : Nat} {body : List Byte} (low : 1 ≤ kind) (high : kind ≤ 11)
    (h : body.length = requiredLength body kind) : ∃ r, parseBody kind body = some r ∧ r.kindCode = kind := by
  obtain rfl | rfl | rfl | rfl | rfl | rfl | rfl | rfl | rfl | rfl | rfl := kind_cases low high
  all_goals exact ⟨_, if_pos (beq_iff_eq.2 h), rfl⟩

theorem parseBody_of_other_length {kind : Nat} {body : List Byte} (low : 1 ≤ kind) (high : kind ≤ 11)
    (h : body.length ≠ requiredLength body kind) : parseBody kind body = none := by
  obtain rfl | rfl | rfl | rfl | rfl | rfl | rfl | rfl | rfl | rfl | rfl := kind_cases low high
  all_goals exact if_neg (mt beq_iff_eq.1 h)

/-- The body of a whole record: as long as its length field says. -/
theorem length_body {bs : List Byte} (h : wholeRecord bs = true) :
    bs.length = 5 + fieldAt bs 1 2 ∧ ((beforeCheck bs).drop 3).length = fieldAt bs 1 2 := by
  simp only [wholeRecord, Bool.and_eq_true, beq_iff_eq] at h
  refine ⟨h.2, ?_⟩
  rw [List.length_drop, beforeCheck, List.length_take]
  omega

theorem fieldAt_body {bs : List Byte} {off n : Nat} (h : wholeRecord bs = true) (within : off + n ≤ fieldAt bs 1 2) :
    fieldAt ((beforeCheck bs).drop 3) off n = fieldAt bs (3 + off) n := by
  have long := (length_body h).1
  rw [fieldAt_drop, fieldAt_beforeCheck (by omega)]

/-- A count within the body is read alike from the body and from the record; a body too short to hold it is short both ways. -/
theorem eq_counted_iff {bs : List Byte} {off a k : Nat} (h : wholeRecord bs = true) (within : off + 1 ≤ a) :
    fieldAt bs 1 2 = a + k * fieldAt ((beforeCheck bs).drop 3) off 1
      ↔ fieldAt bs 1 2 = a + k * fieldAt bs (3 + off) 1 := by
  by_cases room : off + 1 ≤ fieldAt bs 1 2
  · rw [fieldAt_body h room]
  · constructor
    all_goals
      intro eq
      omega

theorem judgeRecord_of_bad_check {bs : List Byte} (h : checkOk bs = false) : judgeRecord bs = .error .badCheck := by
  simp [judgeRecord, h]

theorem judgeRecord_of_unknown_kind {bs : List Byte} (ok : checkOk bs = true) (h : fieldAt bs 0 1 < 1 ∨ 11 < fieldAt bs 0 1) :
    judgeRecord bs = .error .unknownKind := by
  rw [judgeRecord, ok, Bool.not_true, if_neg (by decide), if_pos (by simpa using h)]

theorem judgeRecord_of_bad_length {bs : List Byte} (ok : checkOk bs = true) (low : 1 ≤ fieldAt bs 0 1)
    (high : fieldAt bs 0 1 ≤ 11) (h : parseBody (fieldAt bs 0 1) ((beforeCheck bs).drop 3) = none) :
    judgeRecord bs = .error .badLength := by
  rw [judgeRecord, ok, Bool.not_true, if_neg (by decide), if_neg (by simp; omega), h]

theorem judgeRecord_of_body {bs : List Byte} {r : Record} (ok : checkOk bs = true) (low : 1 ≤ fieldAt bs 0 1)
    (high : fieldAt bs 0 1 ≤ 11) (h : parseBody (fieldAt bs 0 1) ((beforeCheck bs).drop 3) = some r) :
    judgeRecord bs = .ok r := by
  rw [judgeRecord, ok, Bool.not_true, if_neg (by decide), if_neg (by simp; omega), h]

section
variable {u : State} {bs : List Byte} (inside : u.link.framing = .inRecord) (whole : wholeRecord bs = true)
include inside whole

theorem State.recordComplete_of_refused {reason : Reason} (h : judgeRecord bs = .error reason) :
    u.recordComplete bs = (u.setFraming .hunt).refuse (portRefusal bs reason) := by
  simp [State.recordComplete, inside, whole, h]

theorem State.recordComplete_of_good {r : Record} (h : judgeRecord bs = .ok r) :
    u.recordComplete bs = (u.setFraming .hunt).queueRecord r := by
  simp [State.recordComplete, inside, whole, h]

end

@[simp] theorem ShowLink.handStatus_rxQueue (k : ShowLink) : k.handStatus.rxQueue = k.rxQueue := by
  unfold ShowLink.handStatus
  (repeat' split) <;> rfl

@[simp] theorem ShowLink.raise_rxQueue (e : Event) (k : ShowLink) : (k.raise e).rxQueue = k.rxQueue := by
  unfold ShowLink.raise
  split
  · rfl
  · simp

/-- Settles O45: the check, the kind and the length decide in this order; then the queue's room. -/
theorem completedRecordsAreJudged : Obligations.CompletedRecordsAreJudged := by
  intro dt s u bs hu inside whole
  refine ⟨judgeRecord_of_bad_check, judgeRecord_of_unknown_kind, fun length ok low high hlength => ?_,
    fun reason refused => exec_of_effect hu ?_, fun r good room => exec_of_effect hu ?_,
    fun r good full => ⟨_, exec_of_effect hu ?_, rfl, by simp, by simp [ShowLink.has_raise]⟩⟩
  · have same : fieldAt bs 1 2 = length
        ↔ ((beforeCheck bs).drop 3).length = requiredLength ((beforeCheck bs).drop 3) (fieldAt bs 0 1) := by
      rw [(length_body whole).2, hlength]
      have counted (off a k : Nat) (within : off + 1 ≤ a) := (eq_counted_iff (k := k) whole within).symm
      obtain kind | kind | kind | kind | kind | kind | kind | kind | kind | kind | kind := kind_cases low high
      all_goals rw [kind]
      case inl => exact counted 8 9 8 (by omega)
      case inr.inr.inr.inr.inl => simpa [requiredLength] using counted 2 3 1 (by omega)
      case inr.inr.inr.inr.inr.inl => simpa [requiredLength] using counted 11 12 1 (by omega)
      case inr.inr.inr.inr.inr.inr.inr.inr.inl => exact counted 4 5 32 (by omega)
      all_goals rfl
    refine ⟨fun differs => ?_, fun equal => ?_⟩
    · exact judgeRecord_of_bad_length ok low high (parseBody_of_other_length low high (mt same.2 differs))
    · obtain ⟨r, parsed, kind⟩ := parseBody_of_length low high (same.1 equal)
      exact ⟨r, judgeRecord_of_body ok low high parsed, kind⟩
  · exact State.recordComplete_of_refused inside whole refused
  · exact (State.recordComplete_of_good inside whole good).trans (if_pos room)
  · exact (State.recordComplete_of_good inside whole good).trans (if_neg (Nat.not_lt.2 full))

end Sys2Proof.Machine

/-! The statement on the records of the show link: inward ones come back from their bytes, outward ones carry their fields, and a
byte comes back from its ten bits (R158, R162, R165, R179). -/

namespace Sys2Proof.Machine

/-! ## Runs of bytes -/

theorem drop_append_of_le {a : List Byte} {k : Nat} (h : a.length ≤ k) (b : List Byte) :
    (a ++ b).drop k = b.drop (k - a.length) := by
  rw [List.drop_append, List.drop_eq_nil_of_le h, List.nil_append]

theorem bitAt_append_of_le {a : List Byte} {off : Nat} (h : a.length ≤ off) (b : List Byte) (bit : Nat) :
    bitAt (a ++ b) off bit = bitAt b (off - a.length) bit := by
  rw [bitAt, bitAt, drop_append_of_le h]

theorem bitAt_byte (v : Nat) (rest : List Byte) {bit : Nat} (h : bit < 8) :
    bitAt (bytesOfNat 1 v ++ rest) 0 bit = v.testBit bit := by
  change (BitVec.ofNat 8 (v / 256 ^ 0)).getLsbD bit = _
  rw [Nat.pow_zero, Nat.div_one, BitVec.getLsbD_ofNat, decide_eq_true h, Bool.true_and]

theorem bitAt_only_byte (v : Nat) {bit : Nat} (h : bit < 8) : bitAt (bytesOfNat 1 v) 0 bit = v.testBit bit := by
  rw [← List.append_nil (bytesOfNat 1 v), bitAt_byte v [] h]

/-- The i-th of some blocks of k bytes each. -/
theorem take_drop_flatMap {α : Type} {f : α → List Byte} {k : Nat} {xs : List α} (hk : ∀ a ∈ xs, (f a).length = k) {i : Nat}
    {x : α} (h : xs[i]? = some x) (rest : List Byte) : ((xs.flatMap f ++ rest).drop (k * i)).take k = f x := by
  induction xs generalizing i with
  | nil => cases h
  | cons y ys ih =>
    have long : (f y).length = k := hk y List.mem_cons_self
    rw [List.flatMap_cons, List.append_assoc]
    cases i with
    | zero =>
      cases h
      rw [Nat.mul_zero, List.drop_zero, List.take_left' long]
    | succ i =>
      rw [drop_append_of_le (by rw [long, Nat.mul_succ]; omega), long, Nat.mul_succ, Nat.add_sub_cancel]
      exact ih (fun a ha => hk a (List.mem_cons_of_mem _ ha)) h

theorem fieldAt_flatMap {α : Type} {f : α → List Byte} {k : Nat} {xs : List α} (hk : ∀ a ∈ xs, (f a).length = k) {i : Nat}
    {x : α} (h : xs[i]? = some x) (rest : List Byte) {off n : Nat} (within : off + n ≤ k) :
    fieldAt (xs.flatMap f ++ rest) (k * i + off) n = fieldAt (f x) off n := by
  rw [← fieldAt_drop, ← fieldAt_take within, take_drop_flatMap hk h rest]

theorem length_flatMap_of_length {α : Type} {f : α → List Byte} {k : Nat} {xs : List α} (hk : ∀ a ∈ xs, (f a).length = k) :
    (xs.flatMap f).length = k * xs.length := by
  rw [List.length_flatMap, List.map_congr_left hk, List.map_const', List.sum_replicate, smul_eq_mul, Nat.mul_comm]

/-! ## A record framed (R159, R179) -/

section
variable (kind : Nat) (body : List Byte)

@[simp] theorem length_frameRecord : (frameRecord kind body).length = 5 + body.length := by
  simp [frameRecord]
  omega

@[simp] theorem checkOk_frameRecord : checkOk (frameRecord kind body) = true := checkOk_withCheck _

theorem drop_beforeCheck_frameRecord : (beforeCheck (frameRecord kind body)).drop 3 = body := by
  rw [frameRecord, beforeCheck_withCheck, List.drop_left' (by simp)]

theorem fieldAt_frameRecord_kind : fieldAt (frameRecord kind body) 0 1 = kind % 256 := by
  simp [frameRecord, withCheck]

theorem fieldAt_frameRecord_length : fieldAt (frameRecord kind body) 1 2 = body.length % 65536 := by
  simp [frameRecord, withCheck, fieldAt_append_of_le]

/-- What the receiver finds of a record framed. -/
theorem carriesRecord_frameRecord (short : body.length < 65536) :
    carriesRecord (BitVec.ofNat 8 kind) body (165#8 :: frameRecord kind body) := by
  have drop : (165#8 :: frameRecord kind body).drop 4 = body ++ checkBytes (bytesOfNat 1 kind ++ bytesOfNat 2 body.length ++ body) := by
    rw [List.drop_succ_cons, frameRecord, withCheck, List.append_assoc (_ ++ _), List.drop_left' (by simp)]
  refine ⟨rfl, by simp [frameRecord, withCheck, bytesOfNat], ?_, ?_, ?_, checkOk_frameRecord _ _⟩
  · have behind := fieldAt_drop (165#8 :: frameRecord kind body) 1 1 2
    rw [List.drop_one, List.tail_cons, fieldAt_frameRecord_length, Nat.mod_eq_of_lt short] at behind
    exact behind.symm
  · rw [drop, List.take_left' rfl]
  · rw [List.length_cons, length_frameRecord]
    omega

theorem wholeRecord_frameRecord (short : body.length ≤ Config.maxBody) : wholeRecord (frameRecord kind body) = true := by
  have most : Config.maxBody = 261 := rfl
  have length : fieldAt (frameRecord kind body) 1 2 = body.length := by
    rw [fieldAt_frameRecord_length, Nat.mod_eq_of_lt (by omega)]
  have complete : gathering (frameRecord kind body) = .complete := by
    rw [gathering, length, length_frameRecord, if_neg (by omega), if_neg (by omega), if_neg (by omega)]
  simp [wholeRecord, complete, length]

end

/-! ## Inward records -/

theorem boolBit_lt (b : Bool) : boolBit b < 2 := by cases b <;> decide

theorem boolBit_odd (b : Bool) : decide (boolBit b % 2 = 1) = b := by cases b <;> rfl

theorem testBit_two_boolBits (a b : Bool) :
    (boolBit a + 2 * boolBit b).testBit 0 = a ∧ (boolBit a + 2 * boolBit b).testBit 1 = b := by
  cases a <;> cases b <;> decide

theorem TrackEntry.length_bytes {e : TrackEntry} (h : e.fits) : e.bytes.length = 8 := by
  obtain ⟨-, -, language, -, -⟩ := h
  simp [TrackEntry.bytes, language]

theorem trackEntryAt_append (pre bs : List Byte) : trackEntryAt (pre ++ bs) pre.length = trackEntryAt bs 0 := by
  simp [trackEntryAt, fieldAt_append_of_le, bitAt_append_of_le]

theorem trackEntryAt_bytes {e : TrackEntry} (h : e.fits) (rest : List Byte) : trackEntryAt (e.bytes ++ rest) 0 = e := by
  obtain ⟨number, kind, language, class_, table⟩ := h
  have three : (e.language ++ (bytesOfNat 1 e.requiredClass ++ (bytesOfNat 1 e.table ++ (bytesOfNat 1 (boolBit e.carryAlways)
      ++ rest)))).take 3 = e.language := List.take_left' language
  simp [trackEntryAt, TrackEntry.bytes, fieldAt_append_of_le, bitAt_append_of_le, drop_append_of_le, language, three,
    bitAt_byte, boolBit_odd, Nat.mod_eq_of_lt number, Nat.mod_eq_of_lt kind, Nat.mod_eq_of_lt class_,
    Nat.mod_eq_of_lt table]

/-- Track entries read back one after the other, whatever stands before them. -/
theorem trackEntries_flatMap {tracks : List TrackEntry} (h : ∀ e ∈ tracks, e.fits) (pre : List Byte) :
    trackEntries (pre ++ tracks.flatMap TrackEntry.bytes) pre.length tracks.length = tracks := by
  induction tracks generalizing pre with
  | nil => rfl
  | cons e es ih =>
    have fits := h e List.mem_cons_self
    have rest := ih (fun x hx => h x (List.mem_cons_of_mem _ hx)) (pre ++ e.bytes)
    rw [List.length_append, TrackEntry.length_bytes fits, List.append_assoc] at rest
    rw [List.flatMap_cons, List.length_cons, trackEntries, trackEntryAt_append, trackEntryAt_bytes fits, rest]

/-- Blocks read back one after the other, whatever stands before them. -/
theorem blocksAt_flatten {blocks : List (List Byte)} (h : ∀ b ∈ blocks, b.length = 32) (pre : List Byte) :
    blocksAt (pre ++ blocks.flatten) pre.length blocks.length = blocks := by
  induction blocks generalizing pre with
  | nil => rfl
  | cons b bs ih =>
    have long := h b List.mem_cons_self
    have rest := ih (fun x hx => h x (List.mem_cons_of_mem _ hx)) (pre ++ b)
    rw [List.length_append, long, List.append_assoc] at rest
    rw [List.flatten_cons, List.length_cons, blocksAt, rest, List.drop_left' rfl, List.take_left' long]

theorem length_flatten_of_length {blocks : List (List Byte)} (h : ∀ b ∈ blocks, b.length = 32) :
    blocks.flatten.length = 32 * blocks.length := by
  have long := length_flatMap_of_length (f := id) h
  rwa [List.flatMap_id] at long

/-- A record's body is within the largest body of any kind. -/
theorem Record.length_body {r : Record} (h : r.fits) : r.body.length ≤ Config.maxBody := by
  have most : Config.maxBody = 261 := rfl
  rw [most]
  cases r with
  | showLoad session time tracks =>
    obtain ⟨-, few, fits⟩ := h
    have long := length_flatMap_of_length (fun e he => TrackEntry.length_bytes (fits e he))
    simp only [Record.body, List.length_append, length_bytesOfNat, long]
    omega
  | clipData id first blocks =>
    obtain ⟨-, -, few, fits⟩ := h
    simp only [Record.body, List.length_append, length_bytesOfNat, length_flatten_of_length fits]
    omega
  | tableLoad table first values =>
    obtain ⟨-, -, few⟩ := h
    simp only [Record.body, List.length_append, length_bytesOfNat]
    omega
  | cue track start stop region italic speakerChange text =>
    obtain ⟨-, -, -, -, few⟩ := h
    simp only [Record.body, List.length_append, length_bytesOfNat]
    omega
  | _ => simp [Record.body]

/-- Each kind's body reads back as the record. -/
theorem parseBody_body {r : Record} (h : r.fits) : parseBody r.kindCode r.body = some r := by
  cases r with
  | showLoad session time tracks =>
    obtain ⟨time_, few, fits⟩ := h
    have long := length_flatMap_of_length (fun e he => TrackEntry.length_bytes (fits e he))
    have id := ofNat_toNat_mod session
    have entries := trackEntries_flatMap fits (bytesOfNat 4 session.toNat ++ bytesOfNat 4 time ++ bytesOfNat 1 tracks.length)
    simp only [List.length_append, length_bytesOfNat, List.append_assoc, Nat.reduceAdd, Nat.reducePow] at entries id
    simp [parseBody, Record.kindCode, Record.body, fieldAt_append_of_le, long, Nat.mod_eq_of_lt time_,
      Nat.mod_eq_of_lt (show tracks.length < 256 by omega), id, entries]
    omega
  | showEnd | showClear => rfl
  | mark time running =>
    simp [parseBody, Record.kindCode, Record.body, bitAt_append_of_le, bitAt_only_byte, boolBit_odd,
      Nat.mod_eq_of_lt (show time < 4294967296 from h)]
  | tableLoad table first values =>
    obtain ⟨table_, first_, few⟩ := h
    simp [parseBody, Record.kindCode, Record.body, fieldAt_append_of_le, drop_append_of_le, Nat.mod_eq_of_lt table_,
      Nat.mod_eq_of_lt first_, Nat.mod_eq_of_lt (show values.length < 256 by omega)]
    omega
  | cue track start stop region italic speakerChange text =>
    obtain ⟨track_, start_, stop_, region_, few⟩ := h
    obtain ⟨slanted, changes⟩ := testBit_two_boolBits italic speakerChange
    simp [parseBody, Record.kindCode, Record.body, fieldAt_append_of_le, drop_append_of_le, bitAt_append_of_le, bitAt_byte,
      Nat.mod_eq_of_lt track_, Nat.mod_eq_of_lt start_, Nat.mod_eq_of_lt stop_, Nat.mod_eq_of_lt region_, slanted, changes,
      Nat.mod_eq_of_lt (show text.length < 256 by omega)]
    omega
  | cueCancel track start =>
    obtain ⟨track_, start_⟩ := h
    simp [parseBody, Record.kindCode, Record.body, fieldAt_append_of_le, Nat.mod_eq_of_lt track_, Nat.mod_eq_of_lt start_]
  | clipHead id track start length =>
    obtain ⟨id_, track_, start_, length_⟩ := h
    simp [parseBody, Record.kindCode, Record.body, fieldAt_append_of_le, Nat.mod_eq_of_lt id_, Nat.mod_eq_of_lt track_,
      Nat.mod_eq_of_lt start_, Nat.mod_eq_of_lt length_]
  | clipData id first blocks =>
    obtain ⟨id_, first_, few, fits⟩ := h
    have read := blocksAt_flatten fits (bytesOfNat 2 id ++ bytesOfNat 2 first ++ bytesOfNat 1 blocks.length)
    simp only [List.length_append, length_bytesOfNat, List.append_assoc, Nat.reduceAdd] at read
    simp only [parseBody, Record.kindCode, Record.body, List.length_append, length_flatten_of_length fits]
    simp [fieldAt_append_of_le, Nat.mod_eq_of_lt id_, Nat.mod_eq_of_lt first_,
      Nat.mod_eq_of_lt (show blocks.length < 256 by omega), read]
  | clipCancel id =>
    simp [parseBody, Record.kindCode, Record.body, Nat.mod_eq_of_lt (show id < 65536 from h)]
  | eventAck events =>
    have id := ofNat_toNat_mod events
    simp only [Nat.reducePow] at id
    simp [parseBody, Record.kindCode, Record.body, id]

theorem Record.kindCode_range (r : Record) : 1 ≤ r.kindCode ∧ r.kindCode ≤ 11 := by
  cases r <;> simp [Record.kindCode]

theorem judgeRecord_bytes {r : Record} (h : r.fits) : judgeRecord r.bytes = .ok r := by
  obtain ⟨low, high⟩ := r.kindCode_range
  have kind : fieldAt r.bytes 0 1 = r.kindCode := by
    rw [Record.bytes, fieldAt_frameRecord_kind, Nat.mod_eq_of_lt (by omega)]
  refine judgeRecord_of_body (checkOk_frameRecord _ _) (kind ▸ low) (kind ▸ high) ?_
  rw [kind, Record.bytes, drop_beforeCheck_frameRecord, parseBody_body h]

/-! ## A byte's ten bits (R158) -/

theorem foldr_testBit (n v : Nat) :
    ((List.range n).map v.testBit).foldr (fun b acc => b.toNat + 2 * acc) 0 = v % 2 ^ n := by
  induction n generalizing v with
  | zero => simp [Nat.mod_one]
  | succ n ih =>
    have tail : ((List.range n).map Nat.succ).map v.testBit = (List.range n).map (v / 2).testBit := by
      rw [List.map_map]
      exact List.map_congr_left fun i _ => Nat.testBit_succ v i
    rw [List.range_succ_eq_map, List.map_cons, List.foldr_cons, tail, ih, Nat.pow_succ', Nat.mod_mul, Nat.testBit_zero]
    congr 1
    obtain even | odd := Nat.mod_two_eq_zero_or_one v
    · simp [even]
    · simp [odd]

theorem byteOfBits_bitsLsbFirst (b : Byte) : byteOfBits (bitsLsbFirst b) = b := by
  have bits : bitsLsbFirst b = (List.range 8).map b.toNat.testBit := List.map_congr_left fun i _ => rfl
  rw [byteOfBits, bits, foldr_testBit, ofNat_toNat_mod]

theorem uartByte_uartFrame (b : Byte) : uartByte (uartFrame b) = some b := by
  have eight : (bitsLsbFirst b).length = 8 := by simp [bitsLsbFirst]
  simp [uartByte, uartFrame, eight, byteOfBits_bitsLsbFirst]

/-! ## Outward records (R162, R165) -/

theorem length_stampedBytes (h : Stamped) : (stampedBytes h).length = 5 := by simp [stampedBytes]

theorem positionCode_eq (p : Position) : positionCode p = positionNumber p := by
  rw [positionCode, positionNumber, Nat.mul_comm]

theorem positionCode_lt (p : Position) : positionCode p < 64 := by
  have carrier := p.carrier.isLt
  have slot := p.slot.isLt
  rw [positionCode]
  omega

/-- The bytes of a STATUS before the holdings. -/
def StatusReport.front (r : StatusReport) : List Byte :=
  bytesOfNat 1 (stationCode r.station) ++ bytesOfNat 1 (timingCode r.timing) ++ bytesOfNat 1 (showCode r.show_)
    ++ bytesOfNat 4 r.showTime ++ bytesOfNat 1 r.holdings.length

/-- The bytes of a STATUS after the holdings. -/
def StatusReport.back (r : StatusReport) : List Byte :=
  bytesOfNat 1 r.demand ++ (r.listeners.toList.flatMap (bytesOfNat 1) ++ (bytesOfNat 2 r.events.toNat
    ++ (r.counters.flatMap (bytesOfNat 2) ++ [])))

theorem StatusReport.body_eq (r : StatusReport) :
    r.body = r.front ++ (r.holdings.flatMap stampedBytes ++ r.back) := by
  simp [StatusReport.body, StatusReport.front, StatusReport.back]

theorem StatusReport.length_front (r : StatusReport) : r.front.length = 8 := by simp [StatusReport.front]

theorem StatusReport.fieldAt_holdings (r : StatusReport) (off n : Nat) :
    fieldAt r.body (8 + off) n = fieldAt (r.holdings.flatMap stampedBytes ++ r.back) off n := by
  rw [r.body_eq, fieldAt_append_of_le (by rw [r.length_front]; omega), r.length_front, Nat.add_sub_cancel_left]

theorem StatusReport.fieldAt_back (r : StatusReport) (off n : Nat) :
    fieldAt r.body (8 + (5 * r.holdings.length + off)) n = fieldAt r.back off n := by
  have long : (r.holdings.flatMap stampedBytes).length = 5 * r.holdings.length :=
    length_flatMap_of_length fun h _ => length_stampedBytes h
  rw [r.fieldAt_holdings, fieldAt_append_of_le (by omega), long, Nat.add_sub_cancel_left]

theorem PerTrack.toList_getElem? (v : PerTrack) {k : Nat} (h : k < 8) : v.toList[k]? = some (v.get (k + 1)) := by
  match k, h with
  | 0, _ | 1, _ | 2, _ | 3, _ | 4, _ | 5, _ | 6, _ | 7, _ => rfl

theorem carriesStatus_body {r : StatusReport} (h : r.fits) : carriesStatus r r.body := by
  obtain ⟨time, few, demand, listeners, nineteen, counters⟩ := h
  have eight : (r.listeners.toList.flatMap (bytesOfNat 1)).length = 8 :=
    length_flatMap_of_length (k := 1) fun n _ => length_bytesOfNat 1 n
  have front (off n : Nat) (within : off + n ≤ 8) : fieldAt r.body off n = fieldAt r.front off n := by
    rw [r.body_eq, fieldAt_append_of_within (by rw [r.length_front]; exact within)]
  refine ⟨?_, ?_, ?_, ?_, ?_, ?_, fun i x hx => ⟨?_, ?_⟩, ?_, fun k hk => ?_, ?_, fun k c hc => ?_⟩
  · have held : (r.holdings.flatMap stampedBytes).length = 5 * r.holdings.length :=
      length_flatMap_of_length fun h _ => length_stampedBytes h
    have counted : (r.counters.flatMap (bytesOfNat 2)).length = 2 * r.counters.length :=
      length_flatMap_of_length fun n _ => length_bytesOfNat 2 n
    rw [r.body_eq, List.length_append, List.length_append, r.length_front, held, StatusReport.back]
    simp only [List.length_append, length_bytesOfNat, eight, counted, nineteen, List.length_nil]
    omega
  · rw [front 0 1 (by omega)]
    cases hs : r.station <;> simp [StatusReport.front, hs, stationCode, stationNumber]
  · rw [front 1 1 (by omega)]
    cases ht : r.timing <;> simp [StatusReport.front, ht, timingCode, timingNumber, fieldAt_append_of_le]
  · rw [front 2 1 (by omega)]
    cases hs : r.show_ <;> simp [StatusReport.front, hs, showCode, showNumber, fieldAt_append_of_le]
  · rw [front 3 4 (by omega)]
    simp [StatusReport.front, fieldAt_append_of_le, Nat.mod_eq_of_lt time]
  · rw [front 7 1 (by omega)]
    simp [StatusReport.front, fieldAt_append_of_le]
    omega
  · rw [show 8 + 5 * i = 8 + (5 * i + 0) by omega, r.fieldAt_holdings,
      fieldAt_flatMap (fun h _ => length_stampedBytes h) hx _ (by omega), stampedBytes, fieldAt_bytesOfNat_append,
      ← positionCode_eq]
    have := positionCode_lt x.position
    omega
  · rw [show 9 + 5 * i = 8 + (5 * i + 1) by omega, r.fieldAt_holdings,
      fieldAt_flatMap (fun h _ => length_stampedBytes h) hx _ (by omega), stampedBytes,
      fieldAt_append_of_le (by simp)]
    simp
    omega
  · rw [show 8 + 5 * r.holdings.length = 8 + (5 * r.holdings.length + 0) by omega, r.fieldAt_back, StatusReport.back,
      fieldAt_bytesOfNat_append]
    omega
  · rw [show 9 + 5 * r.holdings.length + k = 8 + (5 * r.holdings.length + (1 + k)) by omega, r.fieldAt_back,
      StatusReport.back, fieldAt_append_of_le (by simp), length_bytesOfNat, Nat.add_sub_cancel_left,
      show k = 1 * k + 0 by omega,
      fieldAt_flatMap (fun n _ => length_bytesOfNat 1 n) (r.listeners.toList_getElem? hk) _ (by omega), fieldAt_bytesOfNat]
    have := listeners (k + 1)
    simp
    omega
  · rw [show 17 + 5 * r.holdings.length = 8 + (5 * r.holdings.length + 9) by omega, r.fieldAt_back, StatusReport.back,
      fieldAt_append_of_le (by simp), length_bytesOfNat, fieldAt_append_of_le (by simp [eight]), eight]
    simp
    omega
  · have small := counters c (List.mem_of_getElem? hc)
    rw [show 19 + 5 * r.holdings.length + 2 * k = 8 + (5 * r.holdings.length + (11 + (2 * k + 0))) by omega, r.fieldAt_back,
      StatusReport.back, fieldAt_append_of_le (by simp; omega), length_bytesOfNat, fieldAt_append_of_le (by rw [eight]; omega),
      eight, fieldAt_append_of_le (by simp; omega), length_bytesOfNat,
      show 11 + (2 * k + 0) - 1 - 8 - 2 = 2 * k + 0 by omega,
      fieldAt_flatMap (fun n _ => length_bytesOfNat 2 n) hc _ (by omega), fieldAt_bytesOfNat]
    omega

theorem reasonsInOrder_reasonCode (r : Reason) :
    reasonsInOrder[reasonCode r - 1]? = some r ∧ 1 ≤ reasonCode r ∧ reasonCode r < 256 := by
  cases r <;> decide

theorem RefusalRecord.body_eq (r : RefusalRecord) : r.body = bytesOfNat 1 (r.kind.getD 0).toNat
    ++ bytesOfNat 1 (reasonCode r.reason) ++ bytesOfNat 1 (boolBit r.cue.isSome + 2 * boolBit r.clip.isSome)
    ++ bytesOfNat 1 (r.cue.getD (0, 0)).1 ++ bytesOfNat 4 (r.cue.getD (0, 0)).2 ++ bytesOfNat 2 (r.clip.getD 0) := by
  have kind : [r.kind.getD 0] = bytesOfNat 1 (r.kind.getD 0).toNat := by simp [bytesOfNat]
  rw [RefusalRecord.body, kind]

theorem RefusalRecord.length_body (r : RefusalRecord) : r.body.length = 10 := by simp [RefusalRecord.body]

theorem carriesRefusal_body {r : RefusalRecord} (h : r.fits) : carriesRefusal r r.body := by
  obtain ⟨cue, clip⟩ := h
  obtain ⟨reason, positive, code⟩ := reasonsInOrder_reasonCode r.reason
  have reasonField : fieldAt r.body 1 1 = reasonCode r.reason := by
    simp [r.body_eq, fieldAt_append_of_le, Nat.mod_eq_of_lt code]
  refine ⟨r.length_body, ?_, by rw [reasonField, reason], by rw [reasonField]; exact positive, ?_, ?_, ?_, ?_⟩
  · simp [r.body_eq]
    exact (r.kind.getD 0).isLt
  · simp only [r.body_eq, List.append_assoc, fieldAt_append_of_le, length_bytesOfNat, Nat.one_le_ofNat, Nat.reduceSub,
      le_refl, fieldAt_bytesOfNat_append]
    cases r.cue
    all_goals
      cases r.clip
      all_goals rfl
  · match hcue : r.cue with
    | none => simp [r.body_eq, fieldAt_append_of_le, hcue]
    | some (track, start) => simp [r.body_eq, fieldAt_append_of_le, hcue, Nat.mod_eq_of_lt (cue track start hcue).1]
  · match hcue : r.cue with
    | none => simp [r.body_eq, fieldAt_append_of_le, hcue]
    | some (track, start) => simp [r.body_eq, fieldAt_append_of_le, hcue, Nat.mod_eq_of_lt (cue track start hcue).2]
  · match hclip : r.clip with
    | none => simp [r.body_eq, fieldAt_append_of_le, hclip]
    | some id => simp [r.body_eq, fieldAt_append_of_le, hclip, Nat.mod_eq_of_lt (clip id hclip)]

theorem Event.index_of_eventsInOrder {n : Nat} {e : Event} (h : eventsInOrder[n]? = some e) : n = e.index := by
  have indices : eventsInOrder.map Event.index = List.range 10 := by decide
  have at_ : (eventsInOrder.map Event.index)[n]? = some e.index := by rw [List.getElem?_map, h]; rfl
  rw [indices] at at_
  obtain ⟨_, same⟩ := List.getElem?_eq_some_iff.1 at_
  rwa [List.getElem_range] at same

/-- Settles O17. -/
theorem recordRoundTrip : Obligations.RecordRoundTrip := by
  refine ⟨fun r fits => ⟨wholeRecord_frameRecord _ _ (Record.length_body fits), judgeRecord_bytes fits⟩,
    fun b => ⟨uartByte_uartFrame b, ?_, rfl, ?_, fun i hi => ?_⟩,
    fun r fits => ⟨carriesStatus_body fits, carriesRecord_frameRecord 128 _ ?_⟩,
    fun r fits => ⟨carriesRefusal_body fits, carriesRecord_frameRecord 129 _ ?_⟩, fun n e h => ?_⟩
  · simp [uartFrame, bitsLsbFirst]
  · rw [uartFrame, ← List.cons_append, List.getLast?_concat, linkIdle]
  · simp [uartFrame, bitsLsbFirst, hi, List.getElem?_append]
  · rw [(carriesStatus_body fits).1]
    have := fits.2.1
    omega
  · rw [r.length_body]
    decide
  · rw [e.bit_eq_twoPow, ← Event.index_of_eventsInOrder h, BitVec.twoPow_eq]
    rfl

end Sys2Proof.Machine

/-! The statement on the messages of the house line (R112, R113, R119, R122, R177, R178, R183). -/

namespace Sys2Proof.Machine

/-! ## Positions, timing states and reasons as numbers -/

theorem positionOfCode_positionCode (p : Position) : positionOfCode (positionCode p) = some p := by
  have carrier := p.carrier.isLt
  have slot := p.slot.isLt
  have first : (p.carrier.val * 8 + p.slot.val) / 8 = p.carrier.val := by omega
  have second : (p.carrier.val * 8 + p.slot.val) % 8 = p.slot.val := by omega
  rw [positionOfCode, dif_pos (positionCode_lt p)]
  simp only [positionCode, first, second]

theorem exists_positionOfCode_iff (n : Nat) : (∃ p, positionOfCode n = some p) ↔ n ≤ 63 := by
  unfold positionOfCode
  split
  · simp
    omega
  · simp
    omega

theorem timingOfCode_timingCode (t : TimingState) : timingOfCode (timingCode t) = some t := by cases t <;> rfl

theorem exists_timingOfCode_iff (n : Nat) : (∃ t, timingOfCode n = some t) ↔ n ≤ 3 := by
  match n with
  | 0 | 1 | 2 | 3 => exact ⟨fun _ => by omega, fun _ => ⟨_, rfl⟩⟩
  | n + 4 => exact ⟨fun ⟨t, h⟩ => (nomatch h), fun h => by omega⟩

theorem releaseOfCode_releaseCode (r : ReleaseReason) : releaseOfCode (releaseCode r) = some r := by cases r <;> rfl

theorem exists_releaseOfCode_iff (n : Nat) : (∃ r, releaseOfCode n = some r) ↔ 1 ≤ n ∧ n ≤ 2 := by
  match n with
  | 1 | 2 => exact ⟨fun _ => by omega, fun _ => ⟨_, rfl⟩⟩
  | 0 | n + 3 => exact ⟨fun ⟨t, h⟩ => (nomatch h), fun h => by omega⟩

/-! ## Positions with their stamps -/

theorem stampedAt_append (pre bs : List Byte) (off : Nat) :
    stampedAt (pre ++ bs) (pre.length + off) = stampedAt bs off := by
  rw [stampedAt, stampedAt, fieldAt_append_of_le (by omega), fieldAt_append_of_le (by omega), Nat.add_assoc,
    Nat.add_sub_cancel_left, Nat.add_sub_cancel_left]

theorem stampedAt_stampedBytes (h : Stamped) (rest : List Byte) : stampedAt (stampedBytes h ++ rest) 0 = some h := by
  have code : positionCode h.position % 256 = positionCode h.position := by
    have := positionCode_lt h.position
    omega
  have stamp := ofNat_toNat_mod h.stamp
  simp only [Nat.reducePow] at stamp
  simp [stampedAt, stampedBytes, fieldAt_append_of_le, code, stamp, positionOfCode_positionCode]

theorem stampedRun_append (pre bs : List Byte) (off n : Nat) :
    stampedRun (pre ++ bs) (pre.length + off) n = stampedRun bs off n := by
  induction n generalizing off with
  | zero => rfl
  | succ n ih => rw [stampedRun, stampedRun, stampedAt_append, Nat.add_assoc, ih]

/-- Positions read back one after the other, whatever stands before them. -/
theorem stampedRun_flatMap (hs : List Stamped) (rest : List Byte) :
    stampedRun (hs.flatMap stampedBytes ++ rest) 0 hs.length = some hs := by
  induction hs with
  | nil => rfl
  | cons h hs ih =>
    have behind := stampedRun_append (stampedBytes h) (hs.flatMap stampedBytes ++ rest) 0 hs.length
    rw [length_stampedBytes, ih] at behind
    rw [List.flatMap_cons, List.append_assoc, List.length_cons, stampedRun, stampedAt_stampedBytes, Nat.zero_add]
    rw [show (5 : Nat) = 5 + 0 by rfl, behind]

theorem exists_stampedAt_iff (bs : List Byte) (off : Nat) : (∃ h, stampedAt bs off = some h) ↔ fieldAt bs off 1 ≤ 63 := by
  rw [← exists_positionOfCode_iff, stampedAt]
  cases positionOfCode (fieldAt bs off 1) with
  | none => simp
  | some p => simp

theorem exists_stampedRun_iff (bs : List Byte) (off n : Nat) :
    (∃ hs, stampedRun bs off n = some hs) ↔ ∀ i < n, fieldAt bs (off + 5 * i) 1 ≤ 63 := by
  induction n generalizing off with
  | zero => simp [stampedRun]
  | succ n ih =>
    have both : (∃ hs, stampedRun bs off (n + 1) = some hs)
        ↔ (∃ h, stampedAt bs off = some h) ∧ ∃ hs, stampedRun bs (off + 5) n = some hs := by
      rw [stampedRun]
      cases stampedAt bs off with
      | none => simp
      | some h =>
        cases stampedRun bs (off + 5) n with
        | none => simp
        | some hs => simp
    rw [both, exists_stampedAt_iff, ih]
    constructor
    · rintro ⟨first, later⟩ i hi
      cases i with
      | zero => exact first
      | succ i => exact (show off + 5 + 5 * i = off + 5 * (i + 1) by omega) ▸ later i (by omega)
    · intro all
      exact ⟨all 0 (by omega), fun i hi => (show off + 5 * (i + 1) = off + 5 + 5 * i by omega) ▸ all (i + 1) (by omega)⟩

/-! ## A message from its bytes -/

/-- The nine bytes that every message begins with (R178). -/
def commonBytes (m : Sender) (kind : Nat) : List Byte :=
  bytesOfNat 1 kind ++ bytesOfNat 1 m.number ++ bytesOfNat 4 m.frame.toNat ++ bytesOfNat 2 m.phase
    ++ bytesOfNat 1 (timingCode m.timing)

theorem length_commonBytes (m : Sender) (kind : Nat) : (commonBytes m kind).length = 9 := by simp [commonBytes]

theorem messageBytes_eq (m : Sender) (c : MessageContent) :
    messageBytes m c = withCheck (commonBytes m (contentKind c) ++ contentBytes c) := rfl

theorem claimBytes_eq (c : Option Stamped) : claimBytes c = c.toList.flatMap stampedBytes := by
  cases c <;> simp [claimBytes]

theorem fieldAt_common_kind (m : Sender) (kind : Nat) (rest : List Byte) :
    fieldAt (commonBytes m kind ++ rest) 0 1 = kind % 256 := by simp [commonBytes]

theorem fieldAt_common (m : Sender) (kind : Nat) (rest : List Byte) (off n : Nat) :
    fieldAt (commonBytes m kind ++ rest) (9 + off) n = fieldAt rest off n := by
  rw [fieldAt_append_of_le (by rw [length_commonBytes]; omega), length_commonBytes, Nat.add_sub_cancel_left]

/-- The content reads back from behind the common part. -/
theorem parseContent_bytes (m : Sender) {c : MessageContent} (h : contentFits c) :
    parseContent (commonBytes m (contentKind c) ++ contentBytes c) = some c := by
  have code (p : Position) : positionCode p % 256 = positionCode p := by
    have := positionCode_lt p
    omega
  have stamp (f : FrameNo) := ofNat_toNat_mod f
  simp only [Nat.reducePow] at stamp
  have at_ (kind : Nat) := fieldAt_common m kind
  cases c with
  | object p f claimant =>
    obtain ⟨low, high⟩ := h
    have claimant_ : claimant % 256 = claimant := by omega
    simp only [parseContent, fieldAt_common_kind, contentKind, at_ 1 _ 0, at_ 1 _ 1, at_ 1 _ 5]
    simp [contentBytes, fieldAt_append_of_le, code, positionOfCode_positionCode, length_commonBytes, claimant_, stamp,
      stationNumberOk, low, high]
  | release p reason =>
    have reason_ : releaseCode reason % 256 = releaseCode reason := by cases reason <;> rfl
    simp only [parseContent, fieldAt_common_kind, contentKind, at_ 2 _ 0, at_ 2 _ 1]
    simp [contentBytes, fieldAt_append_of_le, code, positionOfCode_positionCode, length_commonBytes, reason_,
      releaseOfCode_releaseCode]
  | claim p f =>
    have read := stampedAt_stampedBytes ⟨p, f⟩ []
    have behind := stampedAt_append (commonBytes m 3) (stampedBytes ⟨p, f⟩ ++ []) 0
    rw [length_commonBytes, read, List.append_nil] at behind
    have content : contentBytes (.claim p f) = stampedBytes ⟨p, f⟩ := rfl
    simp only [parseContent, fieldAt_common_kind, contentKind, content, behind]
    simp [length_commonBytes, length_stampedBytes]
  | announce a =>
    obtain ⟨demand, few⟩ := h
    obtain ⟨front, hfront⟩ : ∃ front, front = bytesOfNat 4 a.neighbours.toNat ++ bytesOfNat 1 a.demand
        ++ bytesOfNat 1 a.holdings.length ++ bytesOfNat 1 (if a.claim.isSome then 1 else 0) := ⟨_, rfl⟩
    have seven : front.length = 7 := by simp [hfront]
    have content : contentBytes (.announce a) =
        front ++ (a.holdings.flatMap stampedBytes ++ a.claim.toList.flatMap stampedBytes) := by
      simp [contentBytes, hfront, claimBytes_eq]
    have fields : fieldAt (contentBytes (.announce a)) 0 4 = a.neighbours.toNat
        ∧ fieldAt (contentBytes (.announce a)) 4 1 = a.demand ∧ fieldAt (contentBytes (.announce a)) 5 1 = a.holdings.length
        ∧ fieldAt (contentBytes (.announce a)) 6 1 = a.claim.toList.length := by
      have neighbours := Nat.mod_eq_of_lt a.neighbours.isLt
      simp only [Nat.reducePow] at neighbours
      rw [content, hfront]
      refine ⟨?_, ?_, ?_, ?_⟩
      · simp [neighbours]
      · simp [fieldAt_append_of_le]
        omega
      · simp [fieldAt_append_of_le]
        omega
      · cases a.claim <;> simp [fieldAt_append_of_le]
    have sixteen : (commonBytes m 4 ++ front).length = 16 := by rw [List.length_append, length_commonBytes, seven]
    have holdings : stampedRun (commonBytes m 4 ++ contentBytes (.announce a)) 16 a.holdings.length = some a.holdings := by
      have read := stampedRun_append (commonBytes m 4 ++ front)
        (a.holdings.flatMap stampedBytes ++ a.claim.toList.flatMap stampedBytes) 0 a.holdings.length
      rwa [sixteen, stampedRun_flatMap, List.append_assoc, ← content] at read
    have held : (a.holdings.flatMap stampedBytes).length = 5 * a.holdings.length :=
      length_flatMap_of_length fun h _ => length_stampedBytes h
    have claimed : (a.claim.toList.flatMap stampedBytes).length = 5 * a.claim.toList.length :=
      length_flatMap_of_length fun h _ => length_stampedBytes h
    have claims : stampedRun (commonBytes m 4 ++ contentBytes (.announce a)) (16 + 5 * a.holdings.length)
        a.claim.toList.length = some a.claim.toList := by
      have read := stampedRun_append (commonBytes m 4 ++ front ++ a.holdings.flatMap stampedBytes)
        (a.claim.toList.flatMap stampedBytes ++ []) 0 a.claim.toList.length
      rwa [stampedRun_flatMap, List.append_nil, List.length_append, sixteen, held, List.append_assoc, List.append_assoc,
        ← content] at read
    have one : a.claim.toList.length ≤ 1 := by cases a.claim <;> simp
    have long : (commonBytes m 4 ++ contentBytes (.announce a)).length
        = 16 + 5 * a.holdings.length + 5 * a.claim.toList.length := by
      rw [content, ← List.append_assoc, List.length_append, sixteen, List.length_append, held, claimed, Nat.add_assoc]
    obtain ⟨neighbours, demand_, count, present⟩ := fields
    have id := ofNat_toNat_mod a.neighbours
    rw [Nat.mod_eq_of_lt a.neighbours.isLt] at id
    simp only [parseContent, fieldAt_common_kind, contentKind, at_ 4 _ 0, at_ 4 _ 4, at_ 4 _ 5, at_ 4 _ 6, neighbours,
      demand_, count, present, holdings, claims, long, id]
    simp [demand, few, one]

theorem parseMessage_bytes {m : Sender} {c : MessageContent} (hm : m.wf = true) (hc : contentFits c) :
    parseMessage (messageBytes m c) = some (m, c) := by
  have ranges := hm
  simp only [Sender.wf, stationNumberOk, Bool.and_eq_true, decide_eq_true_eq] at ranges
  obtain ⟨⟨low, high⟩, phase⟩ := ranges
  have frame := ofNat_toNat_mod m.frame
  simp only [Nat.reducePow] at frame
  have number : m.number % 256 = m.number := by omega
  have phase_ : m.phase % 65536 = m.phase := by omega
  have timing : timingCode m.timing % 256 = timingCode m.timing := by cases m.timing <;> rfl
  have common : fieldAt (commonBytes m (contentKind c) ++ contentBytes c) 1 1 = m.number
      ∧ BitVec.ofNat 32 (fieldAt (commonBytes m (contentKind c) ++ contentBytes c) 2 4) = m.frame
      ∧ fieldAt (commonBytes m (contentKind c) ++ contentBytes c) 6 2 = m.phase
      ∧ fieldAt (commonBytes m (contentKind c) ++ contentBytes c) 8 1 = timingCode m.timing := by
    refine ⟨?_, ?_, ?_, ?_⟩
    all_goals simp [commonBytes, fieldAt_append_of_le, number, phase_, timing, frame]
  obtain ⟨hnumber, hframe, hphase, htiming⟩ := common
  rw [messageBytes_eq, parseMessage, if_pos (checkOk_withCheck _)]
  simp only [beforeCheck_withCheck, parseContent_bytes m hc, hnumber, hframe, hphase, htiming, timingOfCode_timingCode]
  exact if_pos hm

/-! ## The line's bits (R112, R177) -/

@[simp] theorem length_lineFrame (b : Byte) : (lineFrame b).length = 9 := by simp [lineFrame, bitsMsbFirst]

theorem length_lineBits (bs : List Byte) : (lineBits bs).length = 9 * bs.length := by
  induction bs with
  | nil => rfl
  | cons b bs ih =>
    rw [lineBits, List.flatMap_cons, List.length_append, length_lineFrame, ← lineBits, ih, List.length_cons]
    omega

theorem lineBits_append (a b : List Byte) : lineBits (a ++ b) = lineBits a ++ lineBits b := List.flatMap_append

theorem lineBits_cons (b : Byte) (bs : List Byte) :
    lineBits (b :: bs) = .driven :: (bitsMsbFirst b).map lineBit ++ lineBits bs := List.flatMap_cons

theorem keepsLine_append_same (same a b : List LineBit) : keepsLine (same ++ a) (same ++ b) = keepsLine a b := by
  induction same with
  | nil => rfl
  | cons x xs ih => simp [keepsLine, ih]

/-- Of two numbers sent most significant bit first the smaller keeps the line: where they differ first it drives it. -/
theorem keepsLine_of_lt (n : Nat) {a b : Nat} (h : a % 2 ^ n < b % 2 ^ n) (as bs : List LineBit) :
    keepsLine (((List.range n).reverse.map a.testBit).map lineBit ++ as)
        (((List.range n).reverse.map b.testBit).map lineBit ++ bs) = true
      ∧ keepsLine (((List.range n).reverse.map b.testBit).map lineBit ++ bs)
        (((List.range n).reverse.map a.testBit).map lineBit ++ as) = false := by
  induction n with
  | zero => simp [Nat.mod_one] at h
  | succ n ih =>
    have topA : a.testBit n = decide (a / 2 ^ n % 2 = 1) := Nat.testBit_eq_decide_div_mod_eq
    have topB : b.testBit n = decide (b / 2 ^ n % 2 = 1) := Nat.testBit_eq_decide_div_mod_eq
    have lowA : a % 2 ^ n < 2 ^ n := Nat.mod_lt _ (by positivity)
    have lowB : b % 2 ^ n < 2 ^ n := Nat.mod_lt _ (by positivity)
    rw [Nat.mod_pow_succ, Nat.mod_pow_succ] at h
    rw [List.range_succ, List.reverse_concat, List.map_cons, List.map_cons, List.map_cons, List.map_cons, topA, topB]
    obtain zeroA | oneA := Nat.mod_two_eq_zero_or_one (a / 2 ^ n)
    all_goals
      obtain zeroB | oneB := Nat.mod_two_eq_zero_or_one (b / 2 ^ n)
    · rw [zeroA, zeroB] at h
      simpa [keepsLine, zeroA, zeroB] using ih (by omega)
    · simp [keepsLine, zeroA, oneB, lineBit, LineBit.with_]
    · rw [oneA, zeroB] at h
      omega
    · rw [oneA, oneB] at h
      simpa [keepsLine, oneA, oneB] using ih (by omega)

theorem bitsMsbFirst_eq (b : Byte) : bitsMsbFirst b = (List.range 8).reverse.map b.toNat.testBit := rfl

/-- The smaller byte at the first difference keeps the line. -/
theorem keepsLine_lineBits {a b : Byte} (h : a.toNat < b.toNat) (same as bs : List Byte) :
    keepsLine (lineBits (same ++ a :: as)) (lineBits (same ++ b :: bs)) = true
      ∧ keepsLine (lineBits (same ++ b :: bs)) (lineBits (same ++ a :: as)) = false := by
  have lt : a.toNat % 2 ^ 8 < b.toNat % 2 ^ 8 := by rwa [Nat.mod_eq_of_lt a.isLt, Nat.mod_eq_of_lt b.isLt]
  have bytes := keepsLine_of_lt 8 lt (lineBits as) (lineBits bs)
  rw [← bitsMsbFirst_eq, ← bitsMsbFirst_eq] at bytes
  simp only [lineBits_append, keepsLine_append_same, lineBits_cons]
  simpa [keepsLine] using bytes

/-! ## Which bytes are a message (R122, R183) -/

/-- The n bytes before the check say what a message of some kind can say. -/
def contentReadable (bs : List Byte) (n : Nat) : Prop :=
  fieldAt bs 0 1 = 1 ∧ n = 15 ∧ fieldAt bs 9 1 ≤ 63 ∧ 1 ≤ fieldAt bs 14 1 ∧ fieldAt bs 14 1 ≤ 32
    ∨ fieldAt bs 0 1 = 2 ∧ n = 11 ∧ fieldAt bs 9 1 ≤ 63 ∧ 1 ≤ fieldAt bs 10 1 ∧ fieldAt bs 10 1 ≤ 2
    ∨ fieldAt bs 0 1 = 3 ∧ n = 14 ∧ fieldAt bs 9 1 ≤ 63
    ∨ fieldAt bs 0 1 = 4 ∧ fieldAt bs 13 1 ≤ 4 ∧ fieldAt bs 14 1 ≤ 4 ∧ fieldAt bs 15 1 ≤ 1
      ∧ n = 16 + 5 * fieldAt bs 14 1 + 5 * fieldAt bs 15 1
      ∧ ∀ i < fieldAt bs 14 1 + fieldAt bs 15 1, fieldAt bs (16 + 5 * i) 1 ≤ 63

theorem exists_parseContent_iff (bs : List Byte) : (∃ c, parseContent bs = some c) ↔ contentReadable bs bs.length := by
  unfold parseContent contentReadable
  split
  · rename_i kind
    rw [← exists_positionOfCode_iff, ← stationNumberOk_iff, kind]
    cases positionOfCode (fieldAt bs 9 1) with
    | none => simp
    | some p => simp
  · rename_i kind
    rw [← exists_positionOfCode_iff, ← exists_releaseOfCode_iff, kind]
    cases positionOfCode (fieldAt bs 9 1) with
    | none => simp
    | some p =>
      cases releaseOfCode (fieldAt bs 10 1) with
      | none => simp
      | some r => simp
  · rename_i kind
    rw [← exists_stampedAt_iff, kind]
    cases stampedAt bs 9 with
    | none => simp
    | some h => simp
  · rename_i kind
    have runs : (∀ i < fieldAt bs 14 1 + fieldAt bs 15 1, fieldAt bs (16 + 5 * i) 1 ≤ 63)
        ↔ (∃ hs, stampedRun bs 16 (fieldAt bs 14 1) = some hs)
          ∧ ∃ cs, stampedRun bs (16 + 5 * fieldAt bs 14 1) (fieldAt bs 15 1) = some cs := by
      rw [exists_stampedRun_iff, exists_stampedRun_iff]
      refine ⟨fun all => ⟨fun i hi => all i (by omega), fun i hi => ?_⟩, fun ⟨held, claimed⟩ i hi => ?_⟩
      · exact (show 16 + 5 * (fieldAt bs 14 1 + i) = 16 + 5 * fieldAt bs 14 1 + 5 * i by omega) ▸ all _ (by omega)
      · obtain early | late := Nat.lt_or_ge i (fieldAt bs 14 1)
        · exact held i early
        · have := claimed (i - fieldAt bs 14 1) (by omega)
          rwa [show 16 + 5 * fieldAt bs 14 1 + 5 * (i - fieldAt bs 14 1) = 16 + 5 * i by omega] at this
    rw [runs, kind]
    dsimp only
    split
    · rename_i ranges
      simp only [Bool.and_eq_true, decide_eq_true_eq, beq_iff_eq] at ranges
      cases stampedRun bs 16 (fieldAt bs 14 1) with
      | none => simp
      | some hs =>
        cases stampedRun bs (16 + 5 * fieldAt bs 14 1) (fieldAt bs 15 1) with
        | none => simp
        | some cs => simp; tauto
    · rename_i ranges
      simp only [Bool.and_eq_true, decide_eq_true_eq, beq_iff_eq] at ranges
      simp
      tauto
  · rename_i object release claim announce
    refine ⟨fun ⟨c, h⟩ => (nomatch h), ?_⟩
    rintro (⟨kind, -⟩ | ⟨kind, -⟩ | ⟨kind, -⟩ | ⟨kind, -⟩)
    · exact (object kind).elim
    · exact (release kind).elim
    · exact (claim kind).elim
    · exact (announce kind).elim

/-- Fields that are alike as far as the check are readable alike. -/
theorem contentReadable_congr {a b : List Byte} {n : Nat} (h : ∀ off k, off + k ≤ n → fieldAt a off k = fieldAt b off k)
    (ha : contentReadable a n) : contentReadable b n := by
  unfold contentReadable at ha ⊢
  have first (one : 1 ≤ n) := h 0 1 (by omega)
  obtain ⟨kind, long, rest⟩ | ⟨kind, long, rest⟩ | ⟨kind, long, rest⟩ | ⟨kind, demand, few, one, long, rest⟩ := ha
  · rw [← h 0 1 (by omega), ← h 9 1 (by omega), ← h 14 1 (by omega)]
    exact .inl ⟨kind, long, rest⟩
  · rw [← h 0 1 (by omega), ← h 9 1 (by omega), ← h 10 1 (by omega)]
    exact .inr (.inl ⟨kind, long, rest⟩)
  · rw [← h 0 1 (by omega), ← h 9 1 (by omega)]
    exact .inr (.inr (.inl ⟨kind, long, rest⟩))
  · rw [← h 0 1 (by omega), ← h 13 1 (by omega), ← h 14 1 (by omega), ← h 15 1 (by omega)]
    exact .inr (.inr (.inr ⟨kind, demand, few, one, long, fun i hi => h (16 + 5 * i) 1 (by omega) ▸ rest i hi⟩))

theorem contentReadable_length {bs : List Byte} {n : Nat} (h : contentReadable bs n) : 11 ≤ n := by
  unfold contentReadable at h
  omega

theorem exists_parseMessage_iff (bs : List Byte) : (∃ m, parseMessage bs = some m) ↔ checkOk bs = true
    ∧ (1 ≤ fieldAt bs 1 1 ∧ fieldAt bs 1 1 ≤ 32) ∧ fieldAt bs 6 2 ≤ 19999 ∧ fieldAt bs 8 1 ≤ 3
    ∧ contentReadable bs (bs.length - 2) := by
  by_cases ok : checkOk bs = true
  · have two : (beforeCheck bs).length = bs.length - 2 := by simp [beforeCheck]
    have same (off k : Nat) (h : off + k ≤ bs.length - 2) : fieldAt (beforeCheck bs) off k = fieldAt bs off k := fieldAt_take h
    have body : (∃ m, parseMessage bs = some m) ↔ (∃ t, timingOfCode (fieldAt (beforeCheck bs) 8 1) = some t)
        ∧ (∃ c, parseContent (beforeCheck bs) = some c)
        ∧ (1 ≤ fieldAt (beforeCheck bs) 1 1 ∧ fieldAt (beforeCheck bs) 1 1 ≤ 32) ∧ fieldAt (beforeCheck bs) 6 2 ≤ 19999 := by
      rw [parseMessage, if_pos ok]
      dsimp only
      cases timingOfCode (fieldAt (beforeCheck bs) 8 1) with
      | none => simp
      | some t =>
        cases parseContent (beforeCheck bs) with
        | none => simp
        | some c => simp [Sender.wf, stationNumberOk_iff]
    rw [body, exists_timingOfCode_iff, exists_parseContent_iff, two]
    constructor
    · rintro ⟨timing, content, number, phase⟩
      have long := contentReadable_length content
      rw [same _ _ (by omega)] at timing number phase
      exact ⟨ok, number, phase, timing, contentReadable_congr same content⟩
    · rintro ⟨-, number, phase, timing, content⟩
      have long := contentReadable_length content
      rw [same 8 1 (by omega), same 1 1 (by omega), same 6 2 (by omega)]
      exact ⟨timing, contentReadable_congr (fun off k h => (same off k h).symm) content, number, phase⟩
  · simp [parseMessage, ok]

/-- Settles O18. -/
theorem messageRoundTrip : Obligations.MessageRoundTrip := by
  refine ⟨fun m c => parseMessage_bytes, fun m c => length_lineBits _, fun b => ⟨rfl, length_lineFrame b, fun i hi => ?_⟩,
    fun same as bs a b h => keepsLine_lineBits h same as bs, fun bs => ?_⟩
  · simp [lineFrame, bitsMsbFirst, hi, lineBit]
  · have checked (n : Nat) (h : 1 ≤ n) : bs.length - 2 = n ↔ bs.length = n + 2 := by omega
    have announced : 16 + 5 * fieldAt bs 14 1 + 5 * fieldAt bs 15 1 + 2
        = 18 + 5 * fieldAt bs 14 1 + 5 * fieldAt bs 15 1 := by omega
    rw [exists_parseMessage_iff, contentReadable, checked 15 (by omega), checked 11 (by omega), checked 14 (by omega),
      checked _ (by omega), announced, and_assoc (a := 1 ≤ fieldAt bs 1 1)]

end Sys2Proof.Machine

/-! The statement on the radio port's tuning, the lock indicator and garbled replies (R63, R74 to R78). -/

namespace Sys2Proof.Machine

/-! ## Tuning (R74, R75) -/

theorem State.need_of_tuned {s : State} {needed : Option (Fin 8)} (h : needed = none ∨ needed = s.radio.tuned) :
    s.need needed = s := by
  cases needed with
  | none => rfl
  | some c =>
    obtain h | h := h
    · cases h
    · exact if_pos (beq_iff_eq.2 h.symm)

theorem State.need_of_other {s : State} {c : Fin 8} (h : s.radio.tuned ≠ some c) :
    s.need (some c) = { s with radio := s.radio.tune s.timing.localTime c } := if_neg (mt beq_iff_eq.1 h)

theorem State.retune_of_joined {s : State} (h : s.joined = true) : s.retune = s.need s.slotEndCarrier := if_pos h

theorem State.retune_of_away {s : State} (h : s.joined = false) : s.retune = s := if_neg (Bool.eq_false_iff.1 h)

theorem State.slotEnd_of_slot {s : State} (idle : s.radio.activity ≠ .idle) (sending : s.radio.activity ≠ .sending) :
    s.slotEnd = State.retune { s with radio := { s.radio with activity := .idle } } := by
  unfold State.slotEnd
  split
  · exact absurd ‹_› idle
  · exact absurd ‹_› sending
  · rfl

theorem firstBy_slot_least {held : List Stamped} {h : Stamped}
    (first : firstBy (fun a b => a.position.slot < b.position.slot) held = some h) :
    ∀ k ∈ held, h.position.slot ≤ k.position.slot := by
  intro k hk
  have least := firstBy_least (rank := fun a : Stamped => a.position.slot.val) (fun _ _ => rfl) first k hk
  exact least

/-! ## A burst cancelled (R78) -/

theorem Composer.any_planned_iff (c : Composer) (p : Position) :
    c.bursts.any (fun b => b.position == p && b.progress == .planned) = true
      ↔ ∃ b ∈ c.bursts, b.position = p ∧ b.progress = .planned := by
  simp [List.any_eq_true]

theorem State.cancelBurst_of_planned {s : State} {p : Position}
    (h : ∃ b ∈ s.plan.bursts, b.position = p ∧ b.progress = .planned) :
    s.cancelBurst p = if s.radio.activity == .sending then (s.setProgress p .cancelled).reportUnsent p
      else ((s.setProgress p .cancelled).reportUnsent p).retune := if_pos ((s.plan.any_planned_iff p).2 h)

theorem State.cancelBurst_of_none {s : State} {p : Position}
    (h : ∀ b ∈ s.plan.bursts, b.position = p → b.progress ≠ .planned) : s.cancelBurst p = s := by
  refine if_neg fun planned => ?_
  obtain ⟨b, hb, position, progress⟩ := (s.plan.any_planned_iff p).1 planned
  exact h b hb position progress

/-! ## The next PLANNED burst (R63) -/

theorem Composer.nextPlanned_eq_none_iff (c : Composer) :
    c.nextPlanned = none ↔ ∀ o ∈ c.bursts, o.progress ≠ .planned := by
  simp [Composer.nextPlanned, List.find?_eq_none]

theorem Composer.nextPlanned_eq_some_iff (c : Composer) (b : Burst) : c.nextPlanned = some b ↔
    ∃ before after, c.bursts = before ++ b :: after ∧ b.progress = .planned ∧ ∀ o ∈ before, o.progress ≠ .planned := by
  simp only [Composer.nextPlanned, List.find?_eq_some_iff_append, beq_iff_eq, Bool.not_eq_true', beq_eq_false_iff_ne, ne_eq]
  constructor
  · rintro ⟨planned, before, after, split, others⟩
    exact ⟨before, after, split, planned, others⟩
  · rintro ⟨before, after, split, planned, others⟩
    exact ⟨planned, before, after, split, others⟩

/-- Settles O30: the ended slot and the cancelled burst choose the same carrier; the lock indicator and a garbled reply write the
port alone. -/
theorem radioPortTunesFollowsLockAndCountsGarbledReplies :
    Obligations.RadioPortTunesFollowsLockAndCountsGarbledReplies := by
  refine ⟨fun dt s u needed hu joined idle sending hneeded => ?slot,
    fun held h first => ⟨mem_of_firstBy first, firstBy_slot_least first⟩, fun u v p needed hv hneeded => ?cancel,
    fun plan b => ⟨plan.nextPlanned_eq_none_iff, plan.nextPlanned_eq_some_iff b⟩, fun dt s u hu => ?lock⟩
  case slot =>
    have ended : u.slotEnd = State.need needed { u with radio := { u.radio with activity := .idle } } := by
      rw [State.slotEnd_of_slot idle sending, State.retune_of_joined (by exact joined), hneeded]
      rfl
    refine ⟨fun stays => exec_of_effect hu (ended.trans (State.need_of_tuned stays)), fun c hc other => ?_⟩
    rw [hc] at ended
    exact exec_of_effect hu (ended.trans (State.need_of_other other))
  case cancel =>
    refine ⟨State.cancelBurst_of_none, fun planned => ?_⟩
    have changed : (u.setProgress p .cancelled).reportUnsent p = v := hv.symm
    have cancelled := State.cancelBurst_of_planned planned
    rw [changed] at cancelled
    have radio : v.radio = u.radio := by rw [hv]
    have joined : v.joined = u.joined := by rw [hv]; rfl
    have choice : v.slotEndCarrier = needed := by
      have holdings : v.pm.holdings = u.pm.holdings := by rw [hv]
      rw [hneeded, State.slotEndCarrier, holdings] <;> rfl
    refine ⟨fun stays => ?_, fun c quiet here hc other => ?_⟩
    · rw [cancelled]
      split
      · rfl
      · rename_i quiet
        obtain sends | away | stays := stays
        · exact absurd (beq_iff_eq.2 sends) quiet
        · exact State.retune_of_away (joined.trans away)
        · cases here : u.joined with
          | false => exact State.retune_of_away (joined.trans here)
          | true =>
            rw [State.retune_of_joined (joined.trans here), choice]
            exact State.need_of_tuned (radio ▸ stays)
    · rw [cancelled, if_neg (mt beq_iff_eq.1 quiet), State.retune_of_joined (joined.trans here), choice, hc,
        State.need_of_other (radio ▸ other), radio]
      rw [hv]
      rfl
  case lock =>
    refine ⟨fun receives => exec_of_effect hu ?_, fun before => exec_of_effect hu ?_, exec_at hu,
      fun reply inGap gap garbled => exec_of_effect hu ?_⟩
    · simp [Instr.effect, State.lockAsserted, receives_of receives]
    · have deaf : u.loader.station.receives = false := by
        obtain h | h := before
        all_goals rw [h]; rfl
      simp [Instr.effect, State.lockAsserted, deaf]
    · have bad : ((parseReply reply).isSome && inGap) = false := by
        obtain none_ | late := garbled
        · simp [none_]
        · simp [late]
      simp [Instr.effect, State.garbledReply, gap, bad, State.gapUsed]

end Sys2Proof.Machine

/-! The statements on the end of a show and on lost marks (R5, R15, R16, R38, R39, R59, R60). -/

namespace Sys2Proof.Machine

/-! ## Clears owed (R22) -/

section
variable (q : CueQueue)

/-- Owing a clear reads and changes the clear list and its serial numbers alone. -/
theorem CueQueue.oweClear_content (track start region : Nat) (es : List Cue) (generation late skipped : Nat) :
    CueQueue.oweClear { q with entries := es, generation := generation, lateCue := late, skippedCue := skipped } track start
        region =
      { q.oweClear track start region with
        entries := es, generation := generation, lateCue := late, skippedCue := skipped } := by
  unfold CueQueue.oweClear
  dsimp only
  split <;> rfl

theorem CueQueue.oweClears_cons (e : Cue) (es : List Cue) :
    q.oweClears (e :: es) = (q.oweClear e.track e.start e.region).oweClears es := rfl

theorem CueQueue.oweClears_with_entries (owed es : List Cue) :
    CueQueue.oweClears { q with entries := es } owed = { q.oweClears owed with entries := es } := by
  induction owed generalizing q with
  | nil => rfl
  | cons e owed ih =>
    rw [CueQueue.oweClears_cons, q.oweClear_content e.track e.start e.region es q.generation q.lateCue q.skippedCue,
      CueQueue.oweClears_cons, ← ih]
    congr 1
    unfold CueQueue.oweClear
    dsimp only
    split <;> rfl

@[simp] theorem CueQueue.oweClear_lateCue (track start region : Nat) :
    (q.oweClear track start region).lateCue = q.lateCue := by
  unfold CueQueue.oweClear
  dsimp only
  split <;> rfl

@[simp] theorem CueQueue.oweClear_skippedCue (track start region : Nat) :
    (q.oweClear track start region).skippedCue = q.skippedCue := by
  unfold CueQueue.oweClear
  dsimp only
  split <;> rfl

@[simp] theorem CueQueue.oweClears_lateCue (es : List Cue) : (q.oweClears es).lateCue = q.lateCue :=
  List.foldlRecOn (motive := fun t : CueQueue => t.lateCue = q.lateCue) es _ rfl
    fun t h e _ => (t.oweClear_lateCue e.track e.start e.region).trans h

@[simp] theorem CueQueue.oweClears_skippedCue (es : List Cue) : (q.oweClears es).skippedCue = q.skippedCue :=
  List.foldlRecOn (motive := fun t : CueQueue => t.skippedCue = q.skippedCue) es _ rfl
    fun t h e _ => (t.oweClear_skippedCue e.track e.start e.region).trans h

theorem CueQueue.moveAll_clears (f : Cue → Cue) : (q.moveAll f).clears =
    (q.oweClears (q.entries.filter (fun e => e.onAir && (f e).state != CueState.showing))).clears := by
  rw [CueQueue.moveAll, CueQueue.oweClears_with_entries]

@[simp] theorem CueQueue.moveAll_lateCue (f : Cue → Cue) : (q.moveAll f).lateCue = q.lateCue :=
  CueQueue.oweClears_lateCue _ _

@[simp] theorem CueQueue.moveAll_skippedCue (f : Cue → Cue) : (q.moveAll f).skippedCue = q.skippedCue :=
  CueQueue.oweClears_skippedCue _ _

/-- The clear list has an item for a cue. -/
def CueQueue.owes (q : CueQueue) (track start : Nat) : Prop := ∃ c ∈ q.clears, c.track = track ∧ c.start = start

theorem CueQueue.oweClear_owes (track start region : Nat) : (q.oweClear track start region).owes track start := by
  unfold CueQueue.oweClear
  dsimp only
  split
  · rename_i listed
    simpa [CueQueue.owes, List.any_eq_true] using listed
  · exact ⟨_, List.mem_append_right _ (List.mem_singleton_self _), rfl, rfl⟩

/-- With room on the list a clear owed takes one place at most and displaces none. -/
theorem CueQueue.oweClear_of_room {q : CueQueue} (track start region : Nat) (room : q.clears.length < Config.maxClears) :
    (q.oweClear track start region).clears.length ≤ q.clears.length + 1
      ∧ ∀ c ∈ q.clears, c ∈ (q.oweClear track start region).clears := by
  unfold CueQueue.oweClear
  dsimp only
  rw [if_pos room]
  split
  · exact ⟨Nat.le_succ _, fun _ h => h⟩
  · exact ⟨by simp, fun c hc => List.mem_append_left _ hc⟩

/-- With room for all of them every clear owed stands on the list, and those that stood there still do. -/
theorem CueQueue.oweClears_owes {q : CueQueue} {es : List Cue} (room : q.clears.length + es.length ≤ Config.maxClears) :
    (∀ c ∈ q.clears, c ∈ (q.oweClears es).clears) ∧ ∀ e ∈ es, (q.oweClears es).owes e.track e.start := by
  induction es generalizing q with
  | nil => exact ⟨fun _ h => h, nofun⟩
  | cons e es ih =>
    rw [List.length_cons] at room
    obtain ⟨length, kept⟩ := CueQueue.oweClear_of_room (q := q) e.track e.start e.region (by omega)
    obtain ⟨stay, owed⟩ := ih (q := q.oweClear e.track e.start e.region) (by omega)
    rw [CueQueue.oweClears_cons]
    refine ⟨fun c hc => stay c (kept c hc), fun x hx => ?_⟩
    obtain rfl | later := List.mem_cons.1 hx
    · obtain ⟨c, hc, same⟩ := q.oweClear_owes x.track x.start x.region
      exact ⟨c, stay c hc, same⟩
    · exact owed x later

end

/-! ## Every SHOWING entry leaves (R38, R39) -/

/-- What the freeze and the ended signal make of an entry. -/
def Cue.hide (dest : CueState) (e : Cue) : Cue := if e.state == .showing then e.leave dest else e

theorem CueQueue.freeze_eq (q : CueQueue) : q.freeze = q.moveAll (Cue.hide .waiting) := rfl

theorem CueQueue.endShow_eq (q : CueQueue) : q.endShow = q.moveAll (Cue.hide .spent) := rfl

theorem Cue.hide_eq (dest : CueState) : Cue.hide dest = fun e => if e.state = .showing then
    { e with state := dest, startedFrame := none, refreshDue := none, lateNoted := false } else e := by
  funext e
  simp only [Cue.hide, Cue.leave, beq_iff_eq]

section
variable (q : CueQueue) {dest : CueState} (away : dest ≠ .showing)
include away

theorem Cue.hide_not_showing (e : Cue) : (Cue.hide dest e).state ≠ .showing := by
  unfold Cue.hide
  split
  · exact away
  · rename_i h
    exact mt beq_iff_eq.2 h

theorem CueQueue.hide_clears : (q.moveAll (Cue.hide dest)).clears =
    (q.oweClears (q.entries.filter (fun e => e.state == .showing && e.refreshDue.isSome))).clears := by
  rw [CueQueue.moveAll_clears]
  congr 2
  refine List.filter_congr fun e _ => ?_
  have hidden : ((Cue.hide dest e).state != CueState.showing) = true := bne_iff_ne.2 (Cue.hide_not_showing away e)
  rw [hidden, Bool.and_true, Cue.onAir]

/-- With room on the list each entry that the receivers show is owed its clear. -/
theorem CueQueue.hide_owes (room : q.clears.length + q.entries.length ≤ 32) {e : Cue} (he : e ∈ q.entries)
    (shown : e.state = .showing) (onAir : e.refreshDue ≠ none) :
    ∃ c ∈ (q.moveAll (Cue.hide dest)).clears, c.track = e.track ∧ c.start = e.start := by
  rw [q.hide_clears away]
  have fewer : (q.entries.filter (fun e => e.state == .showing && e.refreshDue.isSome)).length ≤ q.entries.length :=
    List.length_filter_le _ _
  have most : Config.maxClears = 32 := rfl
  refine (CueQueue.oweClears_owes (by omega)).2 e (List.mem_filter.2 ⟨he, ?_⟩)
  simp [shown, Option.isSome_iff_ne_none, onAir]

end

/-! ## The clip store at the end and at a freeze (R59, R60) -/

theorem ClipStore.endShow_eq (s : ClipStore) : s.endShow = { s with
    clips := s.clips.map (fun c => if c.state = .playing ∨ c.state = .late then { c with state := .spent } else c)
    engines := .all { current := none, next := none } } := by
  unfold ClipStore.endShow
  congr 2
  funext c
  cases hc : c.state <;> simp

theorem ClipStore.chooseNext_of_ended {show_ : ShowControl} (ended : show_.state = .ended) (s : ClipStore)
    (bound : Option Nat) (e : Engine) : s.chooseNext show_ bound e = none := by
  unfold ClipStore.chooseNext
  split
  · rfl
  · rw [ended]
    rfl

theorem ClipStore.rechoose_endShow {show_ : ShowControl} (ended : show_.state = .ended) (s : ClipStore) :
    s.endShow.rechoose show_ = s.endShow := by
  simp only [ClipStore.rechoose, ClipStore.chooseNext_of_ended ended, ClipStore.endShow, PerEngine.zip, PerEngine.all,
    Option.map_none]

/-- What the freeze signal makes of the clips. -/
theorem ClipStore.freeze_clips (show_ : ShowControl) (s : ClipStore) : (s.freeze show_).clips = s.clips.map (fun c =>
    if c.state = .playing then { c with state := .ready }
    else if c.state = .late then { c with state := .loading } else c) := by
  refine List.map_congr_left fun c _ => ?_
  cases hc : c.state <;> simp

theorem ClipStore.freeze_current (show_ : ShowControl) (s : ClipStore) (i : Nat) :
    ((s.freeze show_).engines.get i).current = none := by
  rw [ClipStore.freeze, ClipStore.rechoose_get, PerEngine.get_map]

theorem ClipStore.rechoose_current (show_ : ShowControl) (s : ClipStore) (i : Nat) :
    ((s.rechoose show_).engines.get i).current = (s.engines.get i).current := by
  rw [ClipStore.rechoose_get]

/-! ## A change of the show state (R19, R56, R141) -/

theorem State.signalState_of_change {s : State} {before : ShowState} (h : s.show_.state ≠ before) : s.signalState before =
    { s with clips := s.clips.rechoose s.show_, pm := s.recomputeDemand.pm, line := s.recomputeDemand.line } := by
  rw [State.signalState, if_neg (mt beq_iff_eq.1 h)]
  exact State.recomputeDemand_content s s.link s.cues (s.clips.rechoose s.show_) s.roster

/-- Demand reads the show, the counts and the position manager's surroundings: not the link, the cues, or the clips. -/
theorem State.recomputeDemand_of_content (s : State) (k : ShowLink) (q : CueQueue) (c : ClipStore) :
    (State.recomputeDemand { s with link := k, cues := q, clips := c }).pm = s.recomputeDemand.pm
      ∧ (State.recomputeDemand { s with link := k, cues := q, clips := c }).line = s.recomputeDemand.line := by
  have content : State.recomputeDemand { s with link := k, cues := q, clips := c } = _ :=
    State.recomputeDemand_content s k q c s.roster
  rw [content]
  exact ⟨rfl, rfl⟩

/-- The show ended: cues and clips on the ended signal, demand worked out once. -/
theorem State.showEnd_of_live {s : State} (live : s.show_.state.live = true) : s.showEnd =
    { s with
      show_ := s.show_.endShow, cues := s.cues.endShow, clips := s.clips.endShow
      pm := (State.recomputeDemand { s with show_ := s.show_.endShow }).pm
      line := (State.recomputeDemand { s with show_ := s.show_.endShow }).line } := by
  have running : s.show_.endShow.state ≠ s.show_.state := by
    intro same
    rw [← same] at live
    cases live
  have ended : State.signalEnded { s with show_ := s.show_.endShow } = { s with
      show_ := s.show_.endShow, cues := s.cues.endShow, clips := s.clips.endShow
      pm := (State.recomputeDemand { s with show_ := s.show_.endShow }).pm
      line := (State.recomputeDemand { s with show_ := s.show_.endShow }).line } :=
    State.recomputeDemand_content { s with show_ := s.show_.endShow } s.link s.cues.endShow s.clips.endShow s.roster
  have settled : State.recomputeDemand (State.signalEnded { s with show_ := s.show_.endShow })
      = State.signalEnded { s with show_ := s.show_.endShow } := State.recomputeDemand_idem _
  have unchanged : s.clips.endShow.rechoose s.show_.endShow = s.clips.endShow := ClipStore.rechoose_endShow rfl _
  rw [State.showEnd, if_pos live, State.signalState_of_change (by rw [ended]; exact running), settled, ended]
  dsimp only
  rw [unchanged]

/-- Settles O49: the show is live and ends, or the record is refused. -/
theorem showEndEndsTheShow : Obligations.ShowEndEndsTheShow := by
  intro dt s u rest hu hq
  have taken : (Instr.showEnd dt).effect u = State.showEnd { u with link := { u.link with rxQueue := rest } } :=
    State.takeHead_of_head hq rfl
  refine ⟨fun over_ => exec_of_effect hu (taken.trans ?_), fun shown going => ?_⟩
  · have dead : u.show_.state.live = false := by
      obtain h | h := over_
      all_goals rw [h]; rfl
    exact if_neg (Bool.eq_false_iff.1 dead)
  · have live : u.show_.state.live = true := (ShowState.live_iff _).2 ⟨shown, going⟩
    have ended := taken.trans (State.showEnd_of_live live)
    obtain ⟨pm, line⟩ := State.recomputeDemand_of_content { u with show_ := u.show_.endShow }
      { u.link with rxQueue := rest } u.cues u.clips
    refine ⟨u.cues.endShow, u.clips.endShow, _, _, exec_of_effect hu ended, ?_, u.cues.hide_clears (by decide),
      fun room e he shows onAir => u.cues.hide_owes (by decide) room he shows onAir, u.cues.moveAll_lateCue _,
      u.cues.moveAll_skippedCue _, u.clips.endShow_eq, ?_, ?_, ?_, ?_⟩
    · rw [CueQueue.endShow_eq, CueQueue.moveAll_entries, Cue.hide_eq]
    · rintro v rfl
      exact ⟨pm, line⟩
    · rw [State.recomputeDemand_demand]
      rfl
    · rw [State.recomputeDemand_counts]
    · rw [State.recomputeDemand_holdings]

/-! ## Lost marks (R15, R16) -/

theorem ShowControl.marksMissing_of {c : ShowControl} {m micros : Nat} (h : c.markLoss = some m) (long : micros ≤ m) :
    c.marksMissing micros = true := by
  simp [ShowControl.marksMissing, h, long]

/-- Settles O53: the show coasts with what it holds, or freezes with nothing on air. -/
theorem lostMarksCoastThenFreeze : Obligations.LostMarksCoastThenFreeze := by
  intro dt m s u hu loss
  refine ⟨fun running long => ?_, fun timed long => ?_⟩
  · have lost : u.marksLost = State.signalState .running
        (State.raise .marksLost { u with show_ := { u.show_ with state := .coasting } }) := by
      rw [State.marksLost, running, ShowControl.marksMissing_of loss long]
      rfl
    have effect := lost.trans (State.signalState_of_change (by simp))
    obtain ⟨pm, line⟩ := State.recomputeDemand_of_content { u with show_ := { u.show_ with state := .coasting } }
      (u.link.raise .marksLost) u.cues u.clips
    refine ⟨_, _, _, _, exec_of_effect hu effect, rfl, by simp [ShowLink.has_raise], ?_, rfl, ?_, ?_⟩
    · rw [State.recomputeDemand_holdings]
      rfl
    · rintro i - next rfl
      exact ClipStore.rechoose_get _ _ _
    · rintro v rfl
      exact ⟨pm, line⟩
  · obtain ⟨frozen, hfrozen⟩ : ∃ c, c = { u.show_ with state := .frozen, gate := none, markLoss := none } := ⟨_, rfl⟩
    have timed' : u.show_.state.timed = true := by
      obtain h | h | h := timed
      all_goals rw [h]; rfl
    have change : ShowState.frozen ≠ u.show_.state := by
      obtain h | h | h := timed
      all_goals
        rw [h]
        decide
    have effect : u.freeze = State.signalState u.show_.state
        (State.signalFreeze (State.raise .frozen { u with show_ := frozen })) := by
      rw [State.freeze, timed', ShowControl.marksMissing_of loss long, hfrozen]
      rfl
    rw [State.signalState_of_change (by rw [hfrozen]; exact change)] at effect
    have state : frozen.state = .frozen := by rw [hfrozen]
    have binding : frozen.binding = u.show_.binding := by rw [hfrozen]
    obtain ⟨pm, line⟩ := State.recomputeDemand_of_content { u with show_ := frozen }
      (u.link.raise .frozen) u.cues.freeze (u.clips.freeze frozen)
    have clips : ((u.clips.freeze frozen).rechoose frozen).clips = u.clips.clips.map (fun c =>
        if c.state = .playing then { c with state := .ready }
        else if c.state = .late then { c with state := .loading } else c) := u.clips.freeze_clips frozen
    have entries : u.cues.freeze.entries = u.cues.entries.map (Cue.hide .waiting) := CueQueue.moveAll_entries _ _
    refine ⟨_, exec_of_effect hu effect, ?_⟩
    simp only [finish_show, finish_has, finish_faultLine, finish_cues, finish_clips, finish_pm, finish_line, finish_roster,
      finish_plan]
    refine ⟨hfrozen, by simp [State.signalFreeze, ShowLink.has_raise], ?_,
      entries.trans (by rw [Cue.hide_eq]), u.cues.hide_clears (by decide),
      fun room e he shows onAir => u.cues.hide_owes (by decide) room he shows onAir, u.cues.moveAll_lateCue _,
      u.cues.moveAll_skippedCue _, clips, fun i _ => ?_, rfl, rfl, rfl, rfl, ?_, ?_, ?_, ?_, ?_, rfl, rfl⟩
    · exact (faultLineAt_iff _ _ _).2 (.inr (.inr (.inr state)))
    · have silent : (((u.clips.freeze frozen).rechoose frozen).engines.get i).current = none := by
        rw [ClipStore.rechoose_current, ClipStore.freeze_current]
      have next := ClipStore.rechoose_next frozen (u.clips.freeze frozen) i
      rw [binding] at next
      exact (Engine.mk.injEq _ _ _ _).mpr ⟨silent, next⟩
    · intro e he
      obtain ⟨o, -, rfl⟩ := List.mem_map.1 (entries ▸ he)
      exact Cue.hide_not_showing (by decide) o
    · exact (congrArg List.length entries).trans (List.length_map _)
    · intro c hc
      obtain ⟨o, -, rfl⟩ := List.mem_map.1 (clips ▸ hc)
      split
      · exact ⟨nofun, nofun⟩
      · rename_i quiet
        split
        · exact ⟨nofun, nofun⟩
        · rename_i early
          exact ⟨quiet, early⟩
    · rintro v rfl
      rw [← hfrozen]
      exact ⟨pm, line⟩
    · simp [State.signalFreeze]

end Sys2Proof.Machine

/-! The statement on CUE (R23 to R25). -/

namespace Sys2Proof.Machine

/-! ## The first of some elements -/

/-- An element that none before it equals and none behind it precedes is the first. -/
theorem firstBy_of_split {α : Type} {before : α → α → Bool} {x : α} {front back : List α}
    (ahead : ∀ y ∈ front, before x y = true) (behind : ∀ y ∈ back, before y x = false) :
    firstBy before (front ++ x :: back) = some x := by
  induction front with
  | nil =>
    rw [List.nil_append, firstBy]
    split
    · rfl
    · rename_i y hy
      rw [behind y (mem_of_firstBy hy)]
      rfl
  | cons z zs ih =>
    rw [List.cons_append, firstBy, ih fun y hy => ahead y (List.mem_cons_of_mem _ hy)]
    exact if_pos (ahead z List.mem_cons_self)

/-! ## The checks (R23) -/

theorem isCaptionTrack_iff (tracks : List Track) (number : Nat) :
    isCaptionTrack tracks number = true ↔ ∃ k ∈ tracks, k.number = number ∧ k.kind = .caption := by
  simp [isCaptionTrack, List.any_eq_true]

section
variable {show_ : ShowControl} {track start stop region length : Nat}

/-- A field of the CUE lies outside its range. -/
def cueBad (start stop region length : Nat) : Prop :=
  2147483647 < start ∨ stop ≤ start ∨ 30000 < stop - start ∨ 2147483647 < stop ∨ 3 < region ∨ length = 0 ∨ 120 < length

theorem cueBad_iff : (decide (Config.maxShowTime < start) || decide (stop ≤ start) || decide (start + 30000 < stop)
    || decide (Config.maxShowTime < stop) || decide (3 < region) || length == 0 || decide (120 < length)) = true
      ↔ cueBad start stop region length := by
  have most : Config.maxShowTime = 2147483647 := rfl
  simp only [Bool.or_eq_true, decide_eq_true_eq, beq_iff_eq, most, cueBad]
  omega

theorem cueRefusal_of_no_show (h : show_.state = .noShow ∨ show_.state = .ended) :
    cueRefusal show_ track start stop region length = some .wrongState := by
  simp [cueRefusal, h]

variable (shown : show_.state ≠ .noShow) (going : show_.state ≠ .ended)
include shown going

theorem ShowControl.not_over : ¬ (show_.state == .noShow || show_.state == .ended) = true := by simp [shown, going]

theorem cueRefusal_of_no_track (h : isCaptionTrack show_.tracks track = false) :
    cueRefusal show_ track start stop region length = some .noTrack := by
  rw [cueRefusal, if_neg (ShowControl.not_over shown going), h]
  rfl

theorem cueRefusal_of_bad (caption : isCaptionTrack show_.tracks track = true) (h : cueBad start stop region length) :
    cueRefusal show_ track start stop region length = some .badField := by
  rw [cueRefusal, if_neg (ShowControl.not_over shown going), caption, if_neg (by decide), if_pos (cueBad_iff.2 h)]

/-- A CUE in range is too late, or taken. -/
theorem cueRefusal_of_good (caption : isCaptionTrack show_.tracks track = true) (h : ¬ cueBad start stop region length) :
    cueRefusal show_ track start stop region length =
      if show_.state.advances && stop ≤ show_.clock then some .tooLate else none := by
  rw [cueRefusal, if_neg (ShowControl.not_over shown going), caption, if_neg (by decide), if_neg (mt cueBad_iff.1 h)]

end

/-! ## The queue takes a cue (R24, R25) -/

section
variable {q : CueQueue} {f : FrameNo} {new : Cue}

theorem CueQueue.take_of_room (missing : q.find new.track new.start = none) (room : q.entries.length < Config.maxCues) :
    q.take f new = some { q with entries := insertBy cueBefore new q.entries } := by
  simp [CueQueue.take, missing, room]

theorem CueQueue.take_of_victim {v : Cue} (missing : q.find new.track new.start = none)
    (full : Config.maxCues ≤ q.entries.length) (h : q.victim = some v) :
    q.take f new = some { q with entries := insertBy cueBefore new (q.remove v.track v.start).entries } := by
  simp [CueQueue.take, missing, Nat.not_lt.2 full, h, CueQueue.remove]

theorem CueQueue.take_of_no_victim (missing : q.find new.track new.start = none)
    (full : Config.maxCues ≤ q.entries.length) (h : q.victim = none) : q.take f new = none := by
  simp [CueQueue.take, missing, Nat.not_lt.2 full, h]

theorem CueQueue.take_of_found {e : Cue} (found : q.find new.track new.start = some e) :
    q.take f new = some (q.update new.track new.start (Cue.replace f new)) := by
  simp [CueQueue.take, found]

theorem CueQueue.victim_of_split {v : Cue} {before after : List Cue} (split : q.entries = before ++ v :: after)
    (spent : v.state = .spent) (ahead : ∀ e ∈ before, e.state = .spent → v.stop < e.stop)
    (behind : ∀ e ∈ after, e.state = .spent → v.stop ≤ e.stop) : q.victim = some v := by
  have spent_ : (v.state == .spent) = true := beq_iff_eq.2 spent
  rw [CueQueue.victim, split, List.filter_append, List.filter_cons_of_pos (p := fun e : Cue => e.state == .spent) spent_]
  refine firstBy_of_split (fun e he => ?_) fun e he => ?_
  · obtain ⟨he, state⟩ := List.mem_filter.1 he
    exact decide_eq_true (ahead e he (beq_iff_eq.1 state))
  · obtain ⟨he, state⟩ := List.mem_filter.1 he
    exact decide_eq_false (Nat.not_lt.2 (behind e he (beq_iff_eq.1 state)))

theorem CueQueue.victim_of_no_spent (h : ∀ e ∈ q.entries, e.state ≠ .spent) : q.victim = none := by
  have none_ : q.entries.filter (fun e => e.state == .spent) = [] := by
    simpa [List.filter_eq_nil_iff] using h
  rw [CueQueue.victim, none_]
  rfl

/-- In a queue in order removing a cue removes its entry alone. -/
theorem CueQueue.remove_of_split {v : Cue} {before after : List Cue} (legal : q.legal)
    (split : q.entries = before ++ v :: after) : (q.remove v.track v.start).entries = before ++ after := by
  have order := legal.1
  rw [split, List.pairwise_append, List.pairwise_cons] at order
  obtain ⟨-, ⟨behind, -⟩, ahead⟩ := order
  have others : ∀ e ∈ before ++ after, (!e.is v.track v.start) = true := by
    intro e he
    rw [Bool.not_eq_true']
    obtain early | late := List.mem_append.1 he
    · refine Bool.eq_false_iff.2 fun same => ?_
      have differs := not_is_of_cueBefore (ahead e early v List.mem_cons_self) v.track v.start same
      rw [v.is_self] at differs
      cases differs
    · exact not_is_of_cueBefore (behind e late) v.track v.start v.is_self
  have self : ¬ (!v.is v.track v.start) = true := by simp [v.is_self]
  rw [CueQueue.remove, split, List.filter_append, List.filter_cons_of_neg (p := fun e : Cue => !e.is v.track v.start) self,
    ← List.filter_append, List.filter_eq_self.2 others]

theorem CueQueue.find_update {track start : Nat} {e : Cue} {g : Cue → Cue} (keeps : KeepsCue g)
    (found : q.find track start = some e) : (q.update track start g).find track start = some (g e) := by
  have same : (fun o : Cue => o.is track start) ∘ (fun o => if o.is track start then g o else o)
      = fun o => o.is track start := by
    funext o
    obtain ⟨track', start'⟩ := keeps o
    rw [Function.comp_apply]
    split
    · rw [Cue.is, Cue.is, track', start']
    · rfl
  have is_ : e.is track start = true := List.find?_some (p := fun o : Cue => o.is track start) found
  rw [CueQueue.find] at found
  rw [CueQueue.find, CueQueue.update, List.find?_map, same, found, Option.map_some, if_pos is_]

end

/-! ## CUE taken or refused -/

section
variable {track start stop region : Nat} {italic speaker : Bool} {text : List Byte} {s : State}

theorem State.cue_of_refusal {reason : Reason}
    (h : cueRefusal s.show_ track start stop region text.length = some reason) :
    s.cue track start stop region italic speaker text = s.refuseCue 6 track start reason := by
  simp [State.cue, h]

theorem State.cue_of_taken {q : CueQueue} (h : cueRefusal s.show_ track start stop region text.length = none)
    (taken : s.cues.take s.timing.frameNumber (Cue.fresh track start stop region italic speaker text) = some q) :
    s.cue track start stop region italic speaker text = { s with cues := q } := by
  simp [State.cue, h, taken]

theorem State.cue_of_full (h : cueRefusal s.show_ track start stop region text.length = none)
    (full : s.cues.take s.timing.frameNumber (Cue.fresh track start stop region italic speaker text) = none) :
    s.cue track start stop region italic speaker text = (s.refuseCue 6 track start .queueFull).raise .queueFull := by
  simp [State.cue, h, full]

end

/-- What a replacement makes of the entry (R24). -/
theorem Cue.replace_spec (f : FrameNo) (new e : Cue) :
    (Cue.replace f new e).stop = new.stop ∧ (Cue.replace f new e).region = new.region
      ∧ (Cue.replace f new e).text = new.text ∧ (Cue.replace f new e).changed = true
      ∧ (Cue.replace f new e).italic = new.italic ∧ (Cue.replace f new e).speakerChange = new.speakerChange
      ∧ (Cue.replace f new e).everShown = e.everShown ∧ (Cue.replace f new e).startedFrame = e.startedFrame
      ∧ (Cue.replace f new e).state = (if e.state = .spent then .waiting else e.state)
      ∧ (Cue.replace f new e).refreshDue = (if e.state = .showing ∧ e.refreshDue ≠ none then some f else e.refreshDue) := by
  cases hs : e.state
  case showing =>
    cases hd : e.refreshDue
    all_goals simp [Cue.replace, hs, hd]
  all_goals simp [Cue.replace, hs]

/-- Settles O55: the checks in order, then replacement, insertion, the victim's place, or QUEUE FULL. -/
theorem cuesAreTakenOrRefused : Obligations.CuesAreTakenOrRefused := by
  rintro dt s u track start stop region italic speaker text rest refused entry caption bad over_ hu hq rfl rfl hcaption hbad
    hover
  have effect : (Instr.cue dt).effect u = State.cue track start stop region italic speaker text
      { u with link := { u.link with rxQueue := rest } } := State.takeHead_of_head hq rfl
  have refusal {reason : Reason} (h : cueRefusal u.show_ track start stop region text.length = some reason) :=
    exec_of_effect (c := .cue dt) hu (effect.trans (State.cue_of_refusal h))
  have caption_ : caption ↔ isCaptionTrack u.show_.tracks track = true := hcaption.trans (isCaptionTrack_iff _ _).symm
  have bad_ : bad ↔ cueBad start stop region text.length := hbad
  have late : over_ ↔ (u.show_.state.advances && decide (stop ≤ u.show_.clock)) = true := by
    rw [hover, Bool.and_eq_true, ShowState.advances_iff, decide_eq_true_eq]
  refine ⟨fun gone => refusal (cueRefusal_of_no_show gone), fun shown going => ⟨fun not_caption => refusal ?_,
    fun is_caption is_bad => refusal ?_, fun is_caption good is_late => refusal ?_, fun is_caption good in_time => ?_⟩⟩
  · exact cueRefusal_of_no_track shown going (Bool.eq_false_iff.2 (mt caption_.2 not_caption))
  · exact cueRefusal_of_bad shown going (caption_.1 is_caption) (bad_.1 is_bad)
  · rw [cueRefusal_of_good shown going (caption_.1 is_caption) (mt bad_.2 good), if_pos (late.1 is_late)]
  · have passes : cueRefusal u.show_ track start stop region text.length = none := by
      rw [cueRefusal_of_good shown going (caption_.1 is_caption) (mt bad_.2 good), if_neg (mt late.2 in_time)]
    have taken {q : CueQueue} (h : u.cues.take u.timing.frameNumber
        (Cue.fresh track start stop region italic speaker text) = some q) :=
      exec_of_effect (c := .cue dt) hu (effect.trans (State.cue_of_taken passes h))
    refine ⟨fun missing room => taken (CueQueue.take_of_room missing room),
      fun before v after missing full legal split spent ahead behind => ?_, fun missing full none_spent => ?_,
      fun e found => ?_⟩
    · have victim := CueQueue.take_of_victim (new := Cue.fresh track start stop region italic speaker text)
        (f := u.timing.frameNumber) missing full (CueQueue.victim_of_split split spent ahead behind)
      rw [CueQueue.remove_of_split legal split] at victim
      exact taken victim
    · exact exec_of_effect hu (effect.trans (State.cue_of_full passes
        (CueQueue.take_of_no_victim missing full (CueQueue.victim_of_no_spent none_spent))))
    · obtain ⟨stop_, region_, text_, changed, italic_, speaker_, ever, started, state, due⟩ :=
        Cue.replace_spec u.timing.frameNumber (Cue.fresh track start stop region italic speaker text) e
      refine ⟨_, _, taken (CueQueue.take_of_found found), CueQueue.find_update (Cue.replace_keepsCue _ _) found, stop_, region_,
        text_, changed, italic_, speaker_, ever, started, state, due, List.length_map _, rfl, fun o ho other => ?_⟩
      have differs : ¬ o.is track start = true := by simpa [Cue.is] using other
      exact List.mem_map.2 ⟨o, ho, if_neg differs⟩

end Sys2Proof.Machine

/-! The statement on CLIP HEAD (R46 to R48). -/

namespace Sys2Proof.Machine

/-! ## Room made (R47) -/

/-- The store without some clips. -/
def ClipStore.without (vs : List Clip) (s : ClipStore) : ClipStore :=
  { s with clips := s.clips.filter (fun c => !vs.any (fun v => v.id == c.id)) }

theorem ClipStore.without_nil (s : ClipStore) : s.without [] = s := by simp [ClipStore.without]

theorem ClipStore.without_cons (v : Clip) (vs : List Clip) (s : ClipStore) :
    s.without (v :: vs) = ClipStore.without vs { s with clips := s.clips.filter (fun c => c.id != v.id) } := by
  simp only [ClipStore.without, List.filter_filter, List.any_cons, Bool.not_or]
  congr 2
  funext c
  rw [Bool.and_comm, bne, BEq.comm (a := v.id)]

/-- Clips go in order for as long as there is no room. -/
theorem ClipStore.evictUntil_of_first {p : Nat} {victims : List Clip} {s : ClipStore} {k : Nat}
    (room : (s.without (victims.take k)).fits p = true) (before : ∀ j < k, (s.without (victims.take j)).fits p = false) :
    s.evictUntil p victims = some (s.without (victims.take k)) := by
  induction victims generalizing s k with
  | nil =>
    rw [List.take_nil, ClipStore.without_nil] at room ⊢
    rw [ClipStore.evictUntil, if_pos room]
  | cons v rest ih =>
    cases k with
    | zero =>
      rw [List.take_zero, ClipStore.without_nil] at room ⊢
      rw [ClipStore.evictUntil, if_pos room]
    | succ k =>
      have full : s.fits p = false := by
        have none_gone := before 0 (by omega)
        rwa [List.take_zero, ClipStore.without_nil] at none_gone
      rw [List.take_succ_cons, ClipStore.without_cons] at room ⊢
      rw [ClipStore.evictUntil, full]
      refine ih room fun j hj => ?_
      have later := before (j + 1) (by omega)
      rwa [List.take_succ_cons, ClipStore.without_cons] at later

theorem ClipStore.evictUntil_of_never {p : Nat} {victims : List Clip} {s : ClipStore}
    (never : ∀ k, (s.without (victims.take k)).fits p = false) : s.evictUntil p victims = none := by
  induction victims generalizing s with
  | nil =>
    have full := never 0
    rw [List.take_zero, ClipStore.without_nil] at full
    rw [ClipStore.evictUntil, full]
    rfl
  | cons v rest ih =>
    have full := never 0
    rw [List.take_zero, ClipStore.without_nil] at full
    rw [ClipStore.evictUntil, full]
    refine ih fun k => ?_
    have later := never (k + 1)
    rwa [List.take_succ_cons, ClipStore.without_cons] at later

/-! ## The checks (R46) -/

theorem isDescriptionTrack_iff (tracks : List Track) (number : Nat) :
    isDescriptionTrack tracks number = true ↔ ∃ k ∈ tracks, k.number = number ∧ k.kind = .description := by
  simp [isDescriptionTrack, List.any_eq_true]

section
variable {show_ : ShowControl} {s : ClipStore} {id track start length : Nat}

/-- A field of the CLIP HEAD lies outside its range. -/
def clipHeadBad (id start length : Nat) : Prop :=
  id = 0 ∨ length = 0 ∨ 3000 < length ∨ 2147483647 < start ∨ 2147483647 < start + length * 20

theorem clipHeadBad_iff : (id == 0 || length == 0 || decide (3000 < length) || decide (Config.maxShowTime < start)
    || decide (Config.maxShowTime < start + length * 20)) = true ↔ clipHeadBad id start length := by
  have most : Config.maxShowTime = 2147483647 := rfl
  simp only [Bool.or_eq_true, decide_eq_true_eq, beq_iff_eq, most, clipHeadBad, or_assoc]

theorem duplicate_iff : s.clips.any (fun c => c.id == id || (c.track == track && c.start == start)) = true
    ↔ ∃ c ∈ s.clips, c.id = id ∨ c.track = track ∧ c.start = start := by
  simp [List.any_eq_true]

theorem clipHeadRefusal_of_no_show (h : show_.state = .noShow ∨ show_.state = .ended) :
    clipHeadRefusal show_ s id track start length = some .wrongState := by
  simp [clipHeadRefusal, h]

variable (shown : show_.state ≠ .noShow) (going : show_.state ≠ .ended)
include shown going

theorem clipHeadRefusal_of_no_track (h : isDescriptionTrack show_.tracks track = false) :
    clipHeadRefusal show_ s id track start length = some .noTrack := by
  rw [clipHeadRefusal, if_neg (ShowControl.not_over shown going), h]
  rfl

variable (described : isDescriptionTrack show_.tracks track = true)
include described

theorem clipHeadRefusal_of_bad (h : clipHeadBad id start length) :
    clipHeadRefusal show_ s id track start length = some .badField := by
  rw [clipHeadRefusal, if_neg (ShowControl.not_over shown going), described, if_neg (by decide),
    if_pos (clipHeadBad_iff.2 h)]

/-- A CLIP HEAD in range is a duplicate, or too late, or taken. -/
theorem clipHeadRefusal_of_good (h : ¬ clipHeadBad id start length) :
    clipHeadRefusal show_ s id track start length =
      if s.clips.any (fun c => c.id == id || (c.track == track && c.start == start)) then some .duplicate
      else if show_.state.advances && start + length * 20 ≤ show_.clock then some .tooLate else none := by
  rw [clipHeadRefusal, if_neg (ShowControl.not_over shown going), described, if_neg (by decide),
    if_neg (mt clipHeadBad_iff.1 h)]

end

/-! ## CLIP HEAD taken or refused -/

section
variable {id track start length : Nat} {s : State}

theorem State.clipHead_of_refusal {reason : Reason} (h : clipHeadRefusal s.show_ s.clips id track start length = some reason) :
    s.clipHead id track start length = s.refuseClip 8 id reason := by
  simp [State.clipHead, h]

theorem State.clipHead_of_room {store : ClipStore} (h : clipHeadRefusal s.show_ s.clips id track start length = none)
    (room : s.clips.makeRoom (pagesFor length) = some store) :
    s.clipHead id track start length = { s with clips := store.insert s.show_ id track start length } := by
  simp [State.clipHead, h, room]

theorem State.clipHead_of_no_room (h : clipHeadRefusal s.show_ s.clips id track start length = none)
    (full : s.clips.makeRoom (pagesFor length) = none) :
    s.clipHead id track start length = (s.refuseClip 8 id .noRoom).raise .clipNoRoom := by
  simp [State.clipHead, h, full]

end

/-- Settles O57: the checks in order, then room after the fewest evictions, or NO ROOM. -/
theorem clipHeadsTakePages : Obligations.ClipHeadsTakePages := by
  rintro dt s u id track start length rest refused description bad same over_ order left room hu hq rfl hdescription hbad hsame
    hover horder hleft hroom
  have effect : (Instr.clipHead dt).effect u = State.clipHead id track start length
      { u with link := { u.link with rxQueue := rest } } := State.takeHead_of_head hq rfl
  have refusal {reason : Reason} (h : clipHeadRefusal u.show_ u.clips id track start length = some reason) :=
    exec_of_effect (c := .clipHead dt) hu (effect.trans (State.clipHead_of_refusal h))
  have description_ : description ↔ isDescriptionTrack u.show_.tracks track = true :=
    hdescription.trans (isDescriptionTrack_iff _ _).symm
  have bad_ : bad ↔ clipHeadBad id start length := hbad
  have same_ := hsame.trans duplicate_iff.symm
  have late : over_ ↔ (u.show_.state.advances && decide (start + length * 20 ≤ u.show_.clock)) = true := by
    rw [hover, Bool.and_eq_true, ShowState.advances_iff, decide_eq_true_eq]
  have left_ : left = fun k => u.clips.without (order.take k) := hleft
  have room_ (k : Nat) : room k ↔ (u.clips.without (order.take k)).fits (pagesFor length) = true := by
    rw [hroom, left_, ClipStore.fits, Bool.and_eq_true, decide_eq_true_eq, decide_eq_true_eq]
    rfl
  have makeRoom : u.clips.makeRoom (pagesFor length) = u.clips.evictUntil (pagesFor length) order := by
    rw [horder]
    rfl
  refine ⟨fun gone => refusal (clipHeadRefusal_of_no_show gone), fun shown going => ⟨fun other => refusal ?_,
    fun described is_bad => refusal ?_, fun described good is_same => refusal ?_,
    fun described good new is_late => refusal ?_, fun described good new in_time => ?_⟩⟩
  · exact clipHeadRefusal_of_no_track shown going (Bool.eq_false_iff.2 (mt description_.2 other))
  · exact clipHeadRefusal_of_bad shown going (description_.1 described) (bad_.1 is_bad)
  · rw [clipHeadRefusal_of_good shown going (description_.1 described) (mt bad_.2 good), if_pos (same_.1 is_same)]
  · rw [clipHeadRefusal_of_good shown going (description_.1 described) (mt bad_.2 good), if_neg (mt same_.2 new),
      if_pos (late.1 is_late)]
  · have passes : clipHeadRefusal u.show_ u.clips id track start length = none := by
      rw [clipHeadRefusal_of_good shown going (description_.1 described) (mt bad_.2 good), if_neg (mt same_.2 new),
        if_neg (mt late.2 in_time)]
    refine ⟨fun k enough fewer => ?_, fun never => exec_of_effect hu (effect.trans (State.clipHead_of_no_room passes ?_))⟩
    · have made := makeRoom.trans (ClipStore.evictUntil_of_first ((room_ k).1 enough)
        fun j hj => Bool.eq_false_iff.2 (mt (room_ j).2 (fewer j hj)))
      rw [left_]
      refine ⟨_, exec_of_effect hu (effect.trans (State.clipHead_of_room passes made)), rfl, ?_, rfl, rfl, rfl, rfl,
        fun i _ => ⟨ClipStore.rechoose_current _ _ i, ClipStore.rechoose_next _ _ i⟩⟩
      rintro rfl
      exact congrArg ClipStore.clips u.clips.without_nil
    · exact makeRoom.trans (ClipStore.evictUntil_of_never fun k => Bool.eq_false_iff.2 (mt (room_ k).2 (never k)))

end Sys2Proof.Machine

/-! The statement on CLIP DATA (R43, R49, R50). -/

namespace Sys2Proof.Machine

/-! ## Runs of clip memory -/

theorem Memory.readRun_eq (d : Nat → Byte) (m : List Host.Cell) (a n : Nat) :
    Memory.readRun d m a n = (List.range n).map (fun k => Memory.read d m (a + k)) := by
  induction n generalizing a with
  | zero => rfl
  | succ n ih =>
    have shift : (fun k => Memory.read d m (a + k)) ∘ Nat.succ = fun k => Memory.read d m (a + 1 + k) := by
      funext k
      simp only [Function.comp_apply, Nat.succ_eq_add_one]
      congr 1
      omega
    rw [Memory.readRun, ih, List.range_succ_eq_map, List.map_cons, List.map_map, shift]
    rfl

/-- A run read back where it was written. -/
theorem Memory.readRun_writeRun_self {d : Nat → Byte} {m : List Host.Cell} (h : Memory.wf d m = true) (a : Nat)
    (vs : List Byte) : Memory.readRun d (Memory.writeRun d m a vs) a vs.length = vs := by
  rw [Memory.readRun_eq]
  refine List.ext_getElem (by simp) fun k hk _ => ?_
  have within : k < vs.length := by simpa using hk
  rw [List.getElem_map, List.getElem_range, Memory.read_writeRun d vs m a _ h, if_pos (by omega), Nat.add_sub_cancel_left,
    List.getD_eq_getElem _ _ within]

/-- A run beside the one written reads as before. -/
theorem Memory.readRun_writeRun_beside {d : Nat → Byte} {m : List Host.Cell} (h : Memory.wf d m = true) {a a' n : Nat}
    {vs : List Byte} (beside : a' + n ≤ a ∨ a + vs.length ≤ a') :
    Memory.readRun d (Memory.writeRun d m a vs) a' n = Memory.readRun d m a' n := by
  rw [Memory.readRun_eq, Memory.readRun_eq]
  refine List.map_congr_left fun k hk => ?_
  have within := List.mem_range.1 hk
  rw [Memory.read_writeRun d vs m a _ h, if_neg (by omega)]

/-! ## A clip's blocks (R43) -/

/-- The place of a clip's block in clip memory, in blocks. -/
def Clip.place (c : Clip) (i : Nat) : Nat := c.pages.getD (i / 64) 0 * 64 + i % 64

theorem Clip.blockAddress_eq (c : Clip) (i : Nat) : c.blockAddress i = c.place i * 32 := rfl

section
variable {s : ClipStore}

theorem ClipStore.block_of_memory {s' : ClipStore} (memory : s'.memory = s.memory) {c c' : Clip} (pages : c'.pages = c.pages)
    (i : Nat) : s'.block c' i = s.block c i := by
  rw [ClipStore.block, ClipStore.block, memory, Clip.blockAddress, Clip.blockAddress, pages]

/-- A block at another place than those written reads as before. -/
theorem ClipStore.block_writeBlocks_of_ne {c d : Clip} {i first : Nat} {blocks : List (List Byte)}
    (canonical : Memory.wf clipDefault s.memory = true) (length : ∀ b ∈ blocks, b.length = 32)
    (away : ∀ k < blocks.length, d.place i ≠ c.place (first + k)) :
    (s.writeBlocks c first blocks).block d i = s.block d i := by
  induction blocks generalizing first s with
  | nil => rfl
  | cons b bs ih =>
    have long := length b List.mem_cons_self
    have apart := away 0 (by simp)
    rw [Nat.add_zero] at apart
    rw [ClipStore.writeBlocks, ih (Memory.wf_writeRun _ _ _ _ canonical) (fun x hx => length x (List.mem_cons_of_mem _ hx))
      fun k hk => ?_]
    · refine Memory.readRun_writeRun_beside canonical ?_
      rw [d.blockAddress_eq, c.blockAddress_eq, long]
      have bytes : Config.blockBytes = 32 := rfl
      omega
    · have later := away (k + 1) (by simpa using hk)
      rwa [show first + (k + 1) = first + 1 + k by omega] at later

/-- The blocks read back, if no two of them share a place. -/
theorem ClipStore.block_writeBlocks_self {c : Clip} {first : Nat} {blocks : List (List Byte)}
    (canonical : Memory.wf clipDefault s.memory = true) (length : ∀ b ∈ blocks, b.length = 32)
    (apart : ∀ j < blocks.length, ∀ k < blocks.length, c.place (first + j) = c.place (first + k) → j = k) {i : Nat}
    (hi : i < blocks.length) : (s.writeBlocks c first blocks).block c (first + i) = blocks.getD i [] := by
  induction blocks generalizing first s i with
  | nil => cases hi
  | cons b bs ih =>
    have long := length b List.mem_cons_self
    have others : ∀ x ∈ bs, x.length = 32 := fun x hx => length x (List.mem_cons_of_mem _ hx)
    have canonical' : Memory.wf clipDefault (Memory.writeRun clipDefault s.memory (c.blockAddress first) b) = true :=
      Memory.wf_writeRun _ _ _ _ canonical
    rw [ClipStore.writeBlocks]
    cases i with
    | zero =>
      rw [Nat.add_zero, ClipStore.block_writeBlocks_of_ne canonical' others fun k hk same => ?_]
      · have written := Memory.readRun_writeRun_self canonical (c.blockAddress first) b
        rw [long] at written
        exact written
      · have := apart 0 (by simp) (k + 1) (by simpa using hk)
          (by rwa [Nat.add_zero, show first + (k + 1) = first + 1 + k by omega])
        omega
    | succ i =>
      rw [show first + (i + 1) = first + 1 + i by omega, List.getD_cons_succ]
      refine ih canonical' others (fun j hj k hk same => ?_) (by simpa using hi)
      have := apart (j + 1) (by simpa using hj) (k + 1) (by simpa using hk)
        (by rwa [show first + (j + 1) = first + 1 + j by omega, show first + (k + 1) = first + 1 + k by omega])
      omega

/-- Of a legal store no two blocks share a place. -/
theorem ClipStore.place_inj (h : s.legal) {c d : Clip} (hc : c ∈ s.clips) (hd : d ∈ s.clips) {i j : Nat} (hi : i < c.length)
    (hj : j < d.length) (same : c.place i = d.place j) : c = d ∧ i = j := by
  obtain ⟨-, distinct, each⟩ := h
  have page {x : Clip} (hx : x ∈ s.clips) {k : Nat} (hk : k < x.length) :
      ∃ h : k / 64 < x.pages.length, x.pages.getD (k / 64) 0 = x.pages[k / 64] := by
    have pages : x.pages.length = (x.length + 63) / 64 := (each x hx).1
    have within : k / 64 < x.pages.length := by omega
    exact ⟨within, List.getD_eq_getElem _ _ within⟩
  obtain ⟨withinC, pageC⟩ := page hc hi
  obtain ⟨withinD, pageD⟩ := page hd hj
  rw [Clip.place, Clip.place, pageC, pageD] at same
  have pages : c.pages[i / 64] = d.pages[j / 64] := by omega
  rw [List.nodup_flatMap] at distinct
  have one : c = d := by
    by_contra differs
    have symm : Std.Symm (Function.onFun List.Disjoint fun x : Clip => x.pages) := ⟨fun _ _ h => h.symm⟩
    have apart := distinct.2.forall hc hd differs
    exact apart (List.getElem_mem withinC) (pages ▸ List.getElem_mem withinD)
  subst one
  have index := (distinct.1 c hc).getElem_inj_iff.1 pages
  exact ⟨rfl, by omega⟩

end

/-! ## A change of one clip -/

/-- A change of a clip in its state alone. -/
def KeepsContent (f : Clip → Clip) : Prop := ∀ c : Clip, (f c).id = c.id ∧ (f c).pages = c.pages ∧ (f c).start = c.start
  ∧ (f c).length = c.length ∧ (f c).loaded = c.loaded

theorem KeepsContent.ite {f : Clip → Clip} {p : Clip → Prop} [DecidablePred p] (keeps : KeepsContent f) :
    KeepsContent (fun c => if p c then f c else c) := by
  intro c
  dsimp only
  split
  · exact keeps c
  · exact ⟨rfl, rfl, rfl, rfl, rfl⟩

theorem keepsContent_state (st : ClipState) : KeepsContent (fun c => { c with state := st }) := fun _ => ⟨rfl, rfl, rfl, rfl, rfl⟩

theorem keepsContent_play : KeepsContent Clip.play := fun _ => ⟨rfl, rfl, rfl, rfl, rfl⟩

theorem keepsContent_id : KeepsContent id := fun _ => ⟨rfl, rfl, rfl, rfl, rfl⟩

theorem KeepsContent.comp {f g : Clip → Clip} (hf : KeepsContent f) (hg : KeepsContent g) : KeepsContent (f ∘ g) := by
  intro c
  obtain ⟨id, pages, start, length, loaded⟩ := hf (g c)
  obtain ⟨id', pages', start', length', loaded'⟩ := hg c
  exact ⟨id.trans id', pages.trans pages', start.trans start', length.trans length', loaded.trans loaded'⟩

theorem ClipStore.find_of_map {s s' : ClipStore} {f : Clip → Clip} (clips : s'.clips = s.clips.map f)
    (keeps : ∀ c, (f c).id = c.id) (id : Nat) : s'.find id = (s.find id).map f := by
  have same : (fun c : Clip => c.id == id) ∘ f = fun c => c.id == id := by
    funext c
    rw [Function.comp_apply, keeps]
  rw [ClipStore.find, clips, List.find?_map, same, ClipStore.find]

theorem ClipStore.find_update_self {s : ClipStore} {id : Nat} {c : Clip} {f : Clip → Clip} (keeps : ∀ c, (f c).id = c.id)
    (found : s.find id = some c) : (s.update id f).find id = some (f c) := by
  have map : (s.update id f).find id = (s.find id).map (fun c => if c.id == id then f c else c) := by
    refine ClipStore.find_of_map rfl (fun c => ?_) id
    split
    · exact keeps c
    · rfl
  rw [map, found, Option.map_some, if_pos (beq_iff_eq.2 (ClipStore.find_id found))]

theorem ClipStore.mem_update_of_ne {s : ClipStore} {id : Nat} {f : Clip → Clip} {d : Clip} (hd : d ∈ s.clips) (other : d.id ≠ id) :
    d ∈ (s.update id f).clips := List.mem_map.2 ⟨d, hd, if_neg (mt beq_iff_eq.1 other)⟩

/-! ## CLIP DATA in the store (R49, R50) -/

/-- The store once the blocks are written and their flags set. -/
def ClipStore.written (c : Clip) (first : Nat) (blocks : List (List Byte)) (s : ClipStore) : ClipStore :=
  (s.writeBlocks c first blocks).update c.id (fun k => { k with loaded := setLoaded c.loaded first blocks.length })

section
variable (show_ : ShowControl) {c : Clip} (first : Nat) (blocks : List (List Byte)) (s : ClipStore)

theorem ClipStore.writeBlocks_counters (c : Clip) : (s.writeBlocks c first blocks).skipped = s.skipped
    ∧ (s.writeBlocks c first blocks).overlap = s.overlap := by
  induction blocks generalizing first s with
  | nil => exact ⟨rfl, rfl⟩
  | cons b bs ih => exact ih (first + 1) _

theorem ClipStore.takeData_of_unjudged
    (h : c.complete = true ∨ (setLoaded c.loaded first blocks.length).all (fun b => b) = false
      ∨ (c.state ≠ .loading ∧ c.state ≠ .late)) :
    s.takeData show_ c first blocks = (s.written c first blocks).rechoose show_ := by
  unfold ClipStore.takeData
  dsimp only
  split
  · rename_i judged
    simp only [Bool.and_eq_true, Bool.not_eq_true'] at judged
    obtain whole | part | ⟨loading, late⟩ := h
    · rw [whole] at judged
      cases judged.1
    · rw [part] at judged
      cases judged.2
    · split
      · exact absurd ‹_› loading
      · exact absurd ‹_› late
      · rfl
  · rfl

variable (part : c.complete = false) (whole : (setLoaded c.loaded first blocks.length).all (fun b => b) = true)
include part whole

theorem ClipStore.takeData_of_loading (h : c.state = .loading) :
    s.takeData show_ c first blocks = ((s.written c first blocks).setState c.id .ready).rechoose show_ := by
  simp only [ClipStore.takeData, part, whole, h, Bool.not_false, Bool.and_self, if_true, ClipStore.written]

theorem ClipStore.takeData_of_late (h : c.state = .late) :
    s.takeData show_ c first blocks = ((s.written c first blocks).lateRule show_ c).rechoose show_ := by
  simp only [ClipStore.takeData, part, whole, h, Bool.not_false, Bool.and_self, if_true, ClipStore.written]

end

theorem ClipStore.lateRule_of_tooLate {show_ : ShowControl} {c : Clip} {s : ClipStore}
    (h : c.tooLateToEnter show_.clock = true) :
    s.lateRule show_ c = { s.setState c.id .spent with skipped := bump s.skipped } := if_pos h

theorem ClipStore.lateRule_of_engine {show_ : ShowControl} {c : Clip} {s : ClipStore} {i : Nat}
    (h : c.tooLateToEnter show_.clock = false) (engine : engineOf show_ c.track = some i) :
    s.lateRule show_ c = ((s.cut i).update c.id Clip.play).setCurrent i
      (some { clip := c.id, index := (expectedIndex c.start show_.clock).toNat }) := by
  rw [ClipStore.lateRule, h, engine]
  rfl

theorem Clip.tooLateToEnter_of_started {c : Clip} {t : Nat} (started : c.start ≤ t) :
    c.tooLateToEnter t = decide (c.length < (t - c.start) / 20 + 10) := by
  have blocks : Config.lateBlocks = 10 := rfl
  rw [Clip.tooLateToEnter, expectedIndex, if_pos started, blocks, decide_eq_decide, Int.ofNat_eq_natCast]
  omega

theorem engineOf_of_only {show_ : ShowControl} {track i : Nat} (hi : i < 4) (bound : show_.binding.get i = some track)
    (only : ∀ j < 4, show_.binding.get j = some track → j = i) : engineOf show_ track = some i := by
  cases found : engineOf show_ track with
  | none =>
    have unbound := List.find?_eq_none.1 found i (by simp; omega)
    exact absurd (beq_iff_eq.2 bound) unbound
  | some j =>
    obtain ⟨hj, own⟩ := ClipStore.Sound.engineOf_spec found
    rw [only j hj own]

/-- A cut clip is SPENT, and no other clip changes. -/
theorem ClipStore.cut_map (s : ClipStore) (i : Nat) : ∃ f, KeepsContent f ∧ (s.cut i).clips = s.clips.map f := by
  unfold ClipStore.cut
  split
  · exact ⟨_, KeepsContent.ite (keepsContent_state .spent), rfl⟩
  · exact ⟨id, keepsContent_id, (List.map_id _).symm⟩

theorem ClipStore.lateRule_map (show_ : ShowControl) (c : Clip) (s : ClipStore) :
    ∃ f, KeepsContent f ∧ (s.lateRule show_ c).clips = s.clips.map f := by
  unfold ClipStore.lateRule
  split
  · exact ⟨_, KeepsContent.ite (keepsContent_state .spent), rfl⟩
  · split
    · rename_i i _
      obtain ⟨f, keeps, clips⟩ := s.cut_map i
      refine ⟨_, (KeepsContent.ite (p := fun k => (k.id == c.id) = true) keepsContent_play).comp keeps, ?_⟩
      rw [← List.map_map, ← clips]
      rfl
    · exact ⟨id, keepsContent_id, (List.map_id _).symm⟩

/-- Whatever a completed clip becomes, the clips keep their content. -/
theorem ClipStore.takeData_map (show_ : ShowControl) (c : Clip) (first : Nat) (blocks : List (List Byte)) (s : ClipStore) :
    ∃ f, KeepsContent f ∧ (s.takeData show_ c first blocks).clips = (s.written c first blocks).clips.map f := by
  unfold ClipStore.takeData
  dsimp only
  split
  · split
    · exact ⟨_, KeepsContent.ite (keepsContent_state .ready), rfl⟩
    · exact ClipStore.lateRule_map show_ c _
    · exact ⟨id, keepsContent_id, (List.map_id _).symm⟩
  · exact ⟨id, keepsContent_id, (List.map_id _).symm⟩

theorem ClipStore.cut_of_none {s : ClipStore} {i : Nat} (h : (s.engines.get i).current = none) : s.cut i = s := by
  simp [ClipStore.cut, h]

theorem ClipStore.cut_of_current {s : ClipStore} {i : Nat} {cur : Current} (h : (s.engines.get i).current = some cur) :
    s.cut i = { (s.setState cur.clip .spent).setCurrent i none with overlap := bump s.overlap } := by
  simp [ClipStore.cut, h]

/-- A clip takes an engine over: it plays, and the clip that stood there is cut. -/
def ClipStore.enter (i id : Nat) (cur : Current) (s : ClipStore) : ClipStore :=
  ((s.cut i).update id Clip.play).setCurrent i (some cur)

section
variable {s : ClipStore} {i id : Nat} (cur : Current)

theorem ClipStore.find_enter {k : Clip} (found : s.find id = some k) : ∃ k, (s.enter i id cur).find id = some (Clip.play k) := by
  obtain ⟨f, keeps, clips⟩ := s.cut_map i
  have cut := ClipStore.find_of_map clips (fun c => (keeps c).1) id
  rw [found, Option.map_some] at cut
  exact ⟨_, ClipStore.find_update_self (fun _ => rfl) cut⟩

theorem ClipStore.enter_current (hi : i < 4) : ((s.enter i id cur).engines.get i).current = some cur := by
  rw [ClipStore.enter, ClipStore.setCurrent, PerEngine.get_set _ _ hi hi, if_pos rfl]

theorem ClipStore.enter_of_none (h : (s.engines.get i).current = none) : (s.enter i id cur).overlap = s.overlap
    ∧ ∀ d ∈ s.clips, d.id ≠ id → d ∈ (s.enter i id cur).clips := by
  rw [ClipStore.enter, ClipStore.cut_of_none h]
  exact ⟨rfl, fun d hd other => ClipStore.mem_update_of_ne hd other⟩

theorem ClipStore.enter_of_current {old : Current} (h : (s.engines.get i).current = some old) :
    (s.enter i id cur).overlap = bump s.overlap
      ∧ ∀ d ∈ (s.enter i id cur).clips, d.id = old.clip → old.clip ≠ id → d.state = .spent := by
  rw [ClipStore.enter, ClipStore.cut_of_current h]
  refine ⟨rfl, fun d hd own other => ?_⟩
  obtain ⟨e, he, rfl⟩ := List.mem_map.1 hd
  obtain ⟨o, -, rfl⟩ := List.mem_map.1 he
  have played : o.id = old.clip := by
    rw [← own]
    (repeat' split) <;> rfl
  simp [played, other]

end

section
variable {show_ : ShowControl} {s : ClipStore} {id : Nat} {c : Clip} {first : Nat} {blocks : List (List Byte)}
  (found : s.find id = some c)
include found

theorem ClipStore.find_written : (s.written c first blocks).find id =
    some { c with loaded := setLoaded c.loaded first blocks.length } := by
  obtain rfl := ClipStore.find_id found
  exact ClipStore.find_update_self (f := fun k => { k with loaded := setLoaded c.loaded first blocks.length }) (fun _ => rfl)
    ((ClipStore.find_writeBlocks c first blocks s c.id).trans found)

theorem ClipStore.mem_written_of_ne {d : Clip} (hd : d ∈ s.clips) (other : d.id ≠ id) : d ∈ (s.written c first blocks).clips := by
  have own := ClipStore.find_id found
  refine ClipStore.mem_update_of_ne ?_ (own ▸ other)
  rw [(ClipStore.writeBlocks_clips c first blocks s).1]
  exact hd

/-- The clip as it is found after CLIP DATA: its content and its flags. -/
theorem ClipStore.find_takeData (show_ : ShowControl) : ∃ c', (s.takeData show_ c first blocks).find id = some c'
    ∧ c'.pages = c.pages ∧ c'.start = c.start ∧ c'.length = c.length
    ∧ c'.loaded = setLoaded c.loaded first blocks.length := by
  obtain ⟨f, keeps, clips⟩ := s.takeData_map show_ c first blocks
  have map := ClipStore.find_of_map clips (fun c => (keeps c).1) id
  rw [ClipStore.find_written found, Option.map_some] at map
  obtain ⟨-, pages, start, length, loaded⟩ := keeps { c with loaded := setLoaded c.loaded first blocks.length }
  exact ⟨_, map, pages, start, length, loaded⟩

/-- The blocks are where the clip's pages say, and every other clip's blocks are as they were. -/
theorem ClipStore.block_takeData (legal : s.legal) (canonical : Memory.wf clipDefault s.memory = true)
    (length : ∀ b ∈ blocks, b.length = 32) (within : first + blocks.length ≤ c.length) {c' : Clip}
    (pages : c'.pages = c.pages) : (∀ i < blocks.length,
        (s.takeData show_ c first blocks).block c' (first + i) = blocks.getD i [])
      ∧ ∀ d ∈ s.clips, d.id ≠ id → ∀ i < d.length, (s.takeData show_ c first blocks).block d i = s.block d i := by
  have hc := List.mem_of_find?_eq_some found
  have memory := s.takeData_memory show_ c first blocks
  refine ⟨fun i hi => ?_, fun d hd other i hi => ?_⟩
  · rw [ClipStore.block_of_memory memory pages]
    refine ClipStore.block_writeBlocks_self canonical length (fun j hj k hk same => ?_) hi
    obtain ⟨-, index⟩ := ClipStore.place_inj legal hc hc (by omega) (by omega) same
    omega
  · rw [ClipStore.block_of_memory memory rfl]
    refine ClipStore.block_writeBlocks_of_ne canonical length fun k hk same => ?_
    obtain ⟨rfl, -⟩ := ClipStore.place_inj legal hd hc hi (by omega) same
    exact other (ClipStore.find_id found)

/-- A clip that is not judged stays in its state. -/
theorem ClipStore.find_takeData_of_unjudged (h : c.complete = true
      ∨ (setLoaded c.loaded first blocks.length).all (fun b => b) = false ∨ (c.state ≠ .loading ∧ c.state ≠ .late)) :
    (s.takeData show_ c first blocks).find id = some { c with loaded := setLoaded c.loaded first blocks.length } := by
  rw [ClipStore.takeData_of_unjudged show_ first blocks s h]
  exact ClipStore.find_written found

/-- But for a LATE clip completed, CLIP DATA touches its own clip alone. -/
theorem ClipStore.takeData_of_quiet (h : c.complete = true
      ∨ (setLoaded c.loaded first blocks.length).all (fun b => b) = false ∨ c.state ≠ .late) :
    (∀ d ∈ s.clips, d.id ≠ id → d ∈ (s.takeData show_ c first blocks).clips)
      ∧ (s.takeData show_ c first blocks).skipped = s.skipped ∧ (s.takeData show_ c first blocks).overlap = s.overlap
      ∧ (∃ k, (s.takeData show_ c first blocks).find id = some k ∧ k.everPlayed = c.everPlayed)
      ∧ ∀ i, ((s.takeData show_ c first blocks).engines.get i).current = (s.engines.get i).current := by
  have engines : (s.written c first blocks).engines = s.engines := (ClipStore.writeBlocks_clips c first blocks s).2
  obtain ⟨skipped, overlap⟩ := s.writeBlocks_counters first blocks c
  by_cases loading : c.complete = false ∧ (setLoaded c.loaded first blocks.length).all (fun b => b) = true ∧ c.state = .loading
  · obtain ⟨part, whole, loading⟩ := loading
    obtain rfl := ClipStore.find_id found
    have ready := ClipStore.find_update_self (f := fun k => { k with state := .ready }) (fun _ => rfl)
      (ClipStore.find_written (first := first) (blocks := blocks) found)
    rw [ClipStore.takeData_of_loading show_ first blocks s part whole loading]
    refine ⟨fun d hd other => ClipStore.mem_update_of_ne (ClipStore.mem_written_of_ne found hd other) other, skipped, overlap,
      ⟨_, ready, rfl⟩, fun i => ?_⟩
    · rw [ClipStore.rechoose_current]
      exact congrArg (fun e => (PerEngine.get e i).current) engines
  · have unjudged : c.complete = true ∨ (setLoaded c.loaded first blocks.length).all (fun b => b) = false
        ∨ (c.state ≠ .loading ∧ c.state ≠ .late) := by
      simp only [not_and, ← Bool.not_eq_true] at loading h ⊢
      tauto
    rw [ClipStore.takeData_of_unjudged show_ first blocks s unjudged]
    refine ⟨fun d hd other => ClipStore.mem_written_of_ne found hd other, skipped, overlap,
      ⟨_, ClipStore.find_written found, rfl⟩, fun i => ?_⟩
    rw [ClipStore.rechoose_current, engines]

variable (part : c.complete = false) (whole : (setLoaded c.loaded first blocks.length).all (fun b => b) = true)
include part whole

theorem ClipStore.find_takeData_of_loading (h : c.state = .loading) : (s.takeData show_ c first blocks).find id =
    some { c with loaded := setLoaded c.loaded first blocks.length, state := .ready } := by
  obtain rfl := ClipStore.find_id found
  rw [ClipStore.takeData_of_loading show_ first blocks s part whole h]
  exact ClipStore.find_update_self (f := fun k => { k with state := .ready }) (fun _ => rfl) (ClipStore.find_written found)

theorem ClipStore.takeData_of_tooLate (h : c.state = .late) (late : c.tooLateToEnter show_.clock = true) :
    (s.takeData show_ c first blocks).find id =
        some { c with loaded := setLoaded c.loaded first blocks.length, state := .spent }
      ∧ (s.takeData show_ c first blocks).skipped = bump s.skipped := by
  obtain rfl := ClipStore.find_id found
  rw [ClipStore.takeData_of_late show_ first blocks s part whole h, ClipStore.lateRule_of_tooLate late]
  refine ⟨ClipStore.find_update_self (f := fun k => { k with state := .spent }) (fun _ => rfl) (ClipStore.find_written found),
    ?_⟩
  exact congrArg bump (s.writeBlocks_counters first blocks c).1

/-- A clip in time enters its engine, and cuts the clip that stands there. -/
theorem ClipStore.takeData_of_entering (h : c.state = .late) (early : c.tooLateToEnter show_.clock = false) {i : Nat} (hi : i < 4)
    (engine : engineOf show_ c.track = some i) :
    (∃ k, (s.takeData show_ c first blocks).find id = some (Clip.play k))
      ∧ (s.takeData show_ c first blocks).skipped = s.skipped
      ∧ ((s.takeData show_ c first blocks).engines.get i).current =
          some { clip := id, index := (expectedIndex c.start show_.clock).toNat }
      ∧ ((s.engines.get i).current = none → (s.takeData show_ c first blocks).overlap = s.overlap
          ∧ ∀ d ∈ s.clips, d.id ≠ id → d ∈ (s.takeData show_ c first blocks).clips)
      ∧ ∀ cur, (s.engines.get i).current = some cur → (s.takeData show_ c first blocks).overlap = bump s.overlap
          ∧ ∀ d ∈ (s.takeData show_ c first blocks).clips, d.id = cur.clip → cur.clip ≠ id → d.state = .spent := by
  obtain rfl := ClipStore.find_id found
  have engines : (s.written c first blocks).engines = s.engines := (ClipStore.writeBlocks_clips c first blocks s).2
  obtain ⟨skipped, overlap⟩ := s.writeBlocks_counters first blocks c
  obtain ⟨cur, hcur⟩ : ∃ cur : Current, cur = { clip := c.id, index := (expectedIndex c.start show_.clock).toNat } := ⟨_, rfl⟩
  have entered : s.takeData show_ c first blocks =
      ((s.written c first blocks).enter i c.id cur).rechoose show_ := by
    rw [ClipStore.takeData_of_late show_ first blocks s part whole h, ClipStore.lateRule_of_engine early engine, hcur]
    rfl
  rw [entered, ← hcur]
  refine ⟨ClipStore.find_enter cur (ClipStore.find_written found), ?_, ?_, fun none_ => ?_, fun old hold => ?_⟩
  · exact ((s.written c first blocks).cut_skipped i).trans skipped
  · rw [ClipStore.rechoose_current, ClipStore.enter_current cur hi]
  · obtain ⟨same, others⟩ := ClipStore.enter_of_none (s := s.written c first blocks) (id := c.id) cur
      (engines ▸ none_)
    exact ⟨same.trans overlap, fun d hd other => others d (ClipStore.mem_written_of_ne found hd other) other⟩
  · obtain ⟨more, spent⟩ := ClipStore.enter_of_current (s := s.written c first blocks) (id := c.id) cur (engines ▸ hold)
    exact ⟨more.trans (congrArg bump overlap), spent⟩

end

/-! ## CLIP DATA taken or refused -/

section
variable {s : State} {id first : Nat} {blocks : List (List Byte)}

theorem State.clipData_of_refusal {reason : Reason} (h : clipDataRefusal s.show_ s.clips id first blocks.length = some reason) :
    s.clipData id first blocks = s.refuseClip 9 id reason := by
  simp [State.clipData, h]

theorem State.clipData_of_found {c : Clip} (h : clipDataRefusal s.show_ s.clips id first blocks.length = none)
    (found : s.clips.find id = some c) :
    s.clipData id first blocks = { s with clips := s.clips.takeData s.show_ c first blocks } := by
  simp [State.clipData, h, found]

end

section
variable {show_ : ShowControl} {s : ClipStore} {id first count : Nat}

theorem clipDataRefusal_of_no_show (h : show_.state = .noShow ∨ show_.state = .ended) :
    clipDataRefusal show_ s id first count = some .wrongState := by
  simp [clipDataRefusal, h]

variable (shown : show_.state ≠ .noShow) (going : show_.state ≠ .ended)
include shown going

theorem clipDataRefusal_of_count (h : count < 1 ∨ 8 < count) : clipDataRefusal show_ s id first count = some .badField := by
  have bad : (count == 0 || decide (8 < count)) = true := by
    simp only [Bool.or_eq_true, beq_iff_eq, decide_eq_true_eq]
    omega
  rw [clipDataRefusal, if_neg (ShowControl.not_over shown going), if_pos bad]

/-- With its count in range a CLIP DATA is judged by its clip. -/
theorem clipDataRefusal_of_clip (low : 1 ≤ count) (high : count ≤ 8) : clipDataRefusal show_ s id first count =
    match s.find id with
    | none => some .unknownClip
    | some c => if c.length ≤ first + count - 1 then some .badField else none := by
  have good : ¬ (count == 0 || decide (8 < count)) = true := by
    simp only [Bool.or_eq_true, beq_iff_eq, decide_eq_true_eq]
    omega
  rw [clipDataRefusal, if_neg (ShowControl.not_over shown going), if_neg good] <;> rfl

end

/-- Settles O58: the checks in order; then the blocks written, and what a completed clip becomes. -/
theorem clipDataWritesItsBlocks : Obligations.ClipDataWritesItsBlocks := by
  rintro dt s u id first blocks rest refused hu hq rfl
  have effect : (Instr.clipData dt).effect u = State.clipData id first blocks
      { u with link := { u.link with rxQueue := rest } } := State.takeHead_of_head hq rfl
  have refusal {reason : Reason} (h : clipDataRefusal u.show_ u.clips id first blocks.length = some reason) :=
    exec_of_effect (c := .clipData dt) hu (effect.trans (State.clipData_of_refusal h))
  refine ⟨fun gone => refusal (clipDataRefusal_of_no_show gone), fun shown going => ⟨fun count => refusal ?_,
    fun low high => ?_⟩⟩
  · exact clipDataRefusal_of_count shown going count
  have judged := clipDataRefusal_of_clip (s := u.clips) (id := id) (first := first) shown going low high
  refine ⟨fun unknown => refusal ?_, fun c found long => refusal ?_, fun c found within legal canonical length => ?_⟩
  · rw [judged, unknown]
  · rw [judged, found]
    exact if_pos long
  have passes : clipDataRefusal u.show_ u.clips id first blocks.length = none := by
    rw [judged, found]
    exact if_neg (Nat.not_le.2 within)
  obtain ⟨clips, hclips⟩ : ∃ clips, clips = u.clips.takeData u.show_ c first blocks := ⟨_, rfl⟩
  obtain ⟨c', found', pages, start, length', loaded⟩ := ClipStore.find_takeData (first := first) (blocks := blocks) found u.show_
  obtain ⟨own, others⟩ := ClipStore.block_takeData (c := c) (first := first) (show_ := u.show_) found legal canonical.1 length (by omega) pages
  have complete : c'.complete = (setLoaded c.loaded first blocks.length).all (fun b => b) := by
    rw [Clip.complete, loaded]
  have is_ {k : Clip} (h : (u.clips.takeData u.show_ c first blocks).find id = some k) : c' = k :=
    Option.some.inj (found'.symm.trans h)
  refine ⟨_, c', exec_of_effect hu (effect.trans (State.clipData_of_found passes found)), found', pages, start, length', loaded,
    own, others, fun unjudged => ?_, fun part whole loading => ?_, fun part whole spent => ?_, fun quiet => ?_,
    fun part whole late started short => ?_, fun i hi part whole late started long bound only => ?_,
    fun i _ => ClipStore.rechoose_next _ _ i⟩
  · rw [complete] at unjudged
    rw [is_ (ClipStore.find_takeData_of_unjudged found (unjudged.imp_right .inl))]
  · rw [is_ (ClipStore.find_takeData_of_loading found part (complete ▸ whole) loading)]
  · rw [is_ (ClipStore.find_takeData_of_unjudged found (.inr (.inr ⟨by simp [spent], by simp [spent]⟩)))]
    exact spent
  · obtain ⟨kept, skipped, overlap, ⟨k, hk, played⟩, engines⟩ :=
      ClipStore.takeData_of_quiet (show_ := u.show_) found (complete ▸ quiet)
    exact ⟨kept, skipped, overlap, (congrArg Clip.everPlayed (is_ hk)).trans played, fun i _ => engines i⟩
  · have tooLate : c.tooLateToEnter u.show_.clock = true :=
      (Clip.tooLateToEnter_of_started started).trans (decide_eq_true short)
    obtain ⟨spent, skipped⟩ := ClipStore.takeData_of_tooLate (show_ := u.show_) found part (complete ▸ whole) late tooLate
    exact ⟨congrArg Clip.state (is_ spent), skipped⟩
  · have early : c.tooLateToEnter u.show_.clock = false :=
      (Clip.tooLateToEnter_of_started started).trans (decide_eq_false (Nat.not_lt.2 long))
    obtain ⟨⟨k, hk⟩, skipped, current, none_, cut⟩ := ClipStore.takeData_of_entering (show_ := u.show_) found part
      (complete ▸ whole) late early hi (engineOf_of_only hi bound only)
    rw [expectedIndex, if_pos started] at current
    exact ⟨congrArg Clip.state (is_ hk), congrArg Clip.everPlayed (is_ hk), skipped, current, none_, cut⟩

end Sys2Proof.Machine

/-! The statement on MARK (R9 to R14, R36, R57, R58). -/

namespace Sys2Proof.Machine

/-! ## Cues set by a show time (R36) -/

section
variable {t : Nat} {f : FrameNo} {all : List Cue} {e : Cue}

theorem Cue.chosen_iff : e.chosen t all = true ↔ (laterCues t all e).length < 3 := by
  have same : all.filter (fun o => o.track == e.track && o.candidate t && e.start < o.start) = laterCues t all e := by
    refine List.filter_congr fun o _ => ?_
    rw [Cue.candidate, Bool.and_assoc, Bool.and_assoc, Bool.and_assoc, Bool.and_assoc]
  rw [Cue.chosen, same, decide_eq_true_eq]
  exact Iff.rfl

theorem Cue.reevaluate_of_past (h : e.stop ≤ t) : (Cue.reevaluate t f all e).state = .spent := by
  unfold Cue.reevaluate
  rw [if_pos h]
  split
  · rfl
  · rfl
  · assumption

theorem Cue.reevaluate_of_future (h : t < e.stop) (early : t < e.start) : (Cue.reevaluate t f all e).state = .waiting := by
  unfold Cue.reevaluate
  rw [if_neg (Nat.not_le.2 h), if_pos early]
  split
  · assumption
  · rfl
  · rfl

theorem Cue.reevaluate_of_candidate (h : t < e.stop) (started : e.start ≤ t) : Cue.reevaluate t f all e =
    if (laterCues t all e).length < 3 then (if e.state = .showing then e else e.show_ f) else e.leave .spent := by
  rw [Cue.reevaluate, if_neg (Nat.not_le.2 h), if_neg (Nat.not_lt.2 started)]
  simp only [Cue.chosen_iff, beq_iff_eq]

theorem Cue.reevaluate_keeps (t : Nat) (f : FrameNo) (all : List Cue) (e : Cue) :
    (Cue.reevaluate t f all e).track = e.track ∧ (Cue.reevaluate t f all e).start = e.start
      ∧ (Cue.reevaluate t f all e).stop = e.stop ∧ (Cue.reevaluate t f all e).region = e.region
      ∧ (Cue.reevaluate t f all e).text = e.text := by
  unfold Cue.reevaluate
  (repeat' split) <;> exact ⟨rfl, rfl, rfl, rfl, rfl⟩

theorem Cue.reevaluate_settled (t : Nat) (f : FrameNo) (all : List Cue) (e : Cue) :
    cueSettled t f all e (Cue.reevaluate t f all e) := by
  refine ⟨Cue.reevaluate_keeps t f all e, Cue.reevaluate_of_past, Cue.reevaluate_of_future, fun h started many => ?_,
    fun h started few => ⟨fun shows => ?_, fun hidden => ?_⟩⟩
  · rw [Cue.reevaluate_of_candidate h started, if_neg (Nat.not_lt.2 many)]
    rfl
  · rw [Cue.reevaluate_of_candidate h started, if_pos few, if_pos shows]
  · rw [Cue.reevaluate_of_candidate h started, if_pos few, if_neg hidden]
    exact ⟨rfl, rfl, rfl, rfl, rfl, rfl⟩

/-- An entry is SHOWING afterwards exactly if it is among the last candidates of its track. -/
theorem Cue.reevaluate_showing_iff : (Cue.reevaluate t f all e).state = .showing ↔
    e.start ≤ t ∧ t < e.stop ∧ (laterCues t all e).length < 3 := by
  by_cases past : e.stop ≤ t
  · rw [Cue.reevaluate_of_past past]
    simp [Nat.not_lt.2 past]
  · have h := Nat.not_le.1 past
    by_cases early : t < e.start
    · rw [Cue.reevaluate_of_future h early]
      simp [Nat.not_le.2 early]
    · have started := Nat.not_lt.1 early
      rw [Cue.reevaluate_of_candidate h started]
      by_cases few : (laterCues t all e).length < 3
      · by_cases shows : e.state = .showing
        · simp [h, started, few, shows]
        · simp [h, started, few, shows, Cue.show_]
      · simp [few, Cue.leave]

end

section
variable (q : CueQueue) (t : Nat) (jump : Bool) (f : FrameNo)

theorem CueQueue.reevaluate_entries :
    (q.reevaluate t jump f).entries = q.entries.map (Cue.reevaluate t f q.entries) := CueQueue.moveAll_entries _ _

theorem CueQueue.reevaluate_clears : (q.reevaluate t jump f).clears =
    (q.oweClears (q.entries.filter (fun e => e.state == .showing && e.refreshDue.isSome
      && !(e.start ≤ t && t < e.stop && (laterCues t q.entries e).length < 3)))).clears := by
  refine (CueQueue.moveAll_clears q _).trans ?_
  congr 2
  refine List.filter_congr fun e _ => ?_
  rw [Cue.onAir]
  congr 1
  rw [Bool.eq_iff_iff, bne_iff_ne, ne_eq, Cue.reevaluate_showing_iff, Bool.not_eq_true', ← Bool.not_eq_true, Bool.and_eq_true,
    Bool.and_eq_true, decide_eq_true_eq, decide_eq_true_eq, decide_eq_true_eq, and_assoc]

theorem CueQueue.reevaluate_skippedCue : (q.reevaluate t jump f).skippedCue = bumpBy (if jump then
    (q.entries.filter (fun e => e.state == .waiting && e.stop ≤ t && !e.everShown)).length else 0) q.skippedCue := by
  have skipped : (q.moveAll (Cue.reevaluate t f q.entries)).skippedCue = q.skippedCue := CueQueue.moveAll_skippedCue _ _
  rw [CueQueue.reevaluate]
  dsimp only
  rw [skipped]
  cases jump <;> simp

end

theorem forall₂_map_right {α β : Type} {R : α → β → Prop} {f : α → β} (h : ∀ a, R a (f a)) (l : List α) :
    l.Forall₂ R (l.map f) := by
  rw [List.forall₂_map_right_iff, List.forall₂_same]
  exact fun a _ => h a

/-! ## Clips set by a show time (R57, R58) -/

section
variable {t : Nat} {all : List Clip} {c : Clip}

theorem Clip.stop_eq (c : Clip) : c.stop = c.start + c.length * 20 := rfl

theorem Clip.chosen_iff : c.chosen t all = true ↔
    c.start ≤ t ∧ t < c.start + c.length * 20 ∧ laterClips t all c = [] := by
  have none_ : laterClips t all c = [] ↔
      all.any (fun o => o.track == c.track && o.candidate t && c.start < o.start) = false := by
    rw [laterClips, List.filter_eq_nil_iff, List.any_eq_false]
    refine forall₂_congr fun o _ => ?_
    rw [Clip.candidate, Clip.stop_eq, Bool.and_assoc, Bool.and_assoc, Bool.and_assoc, Bool.and_assoc]
  rw [Clip.chosen, Bool.and_eq_true, Bool.not_eq_true', ← none_, Clip.candidate, Bool.and_eq_true, decide_eq_true_eq,
    decide_eq_true_eq, and_assoc, Clip.stop_eq]

theorem Clip.reevaluate_keeps (t : Nat) (all : List Clip) (c : Clip) :
    (c.reevaluate t all).id = c.id ∧ (c.reevaluate t all).track = c.track ∧ (c.reevaluate t all).start = c.start
      ∧ (c.reevaluate t all).length = c.length ∧ (c.reevaluate t all).pages = c.pages
      ∧ (c.reevaluate t all).loaded = c.loaded := by
  unfold Clip.reevaluate Clip.play
  (repeat' split) <;> exact ⟨rfl, rfl, rfl, rfl, rfl, rfl⟩

theorem Clip.reevaluate_of_past (h : c.start + c.length * 20 ≤ t) : (c.reevaluate t all).state = .spent := by
  rw [Clip.reevaluate, if_pos (by rw [Clip.stop_eq]; exact h)]

theorem Clip.reevaluate_of_future (h : t < c.start) : (c.reevaluate t all).state = (match c.state with
    | .loading => .loading
    | .ready => .ready
    | .late => .loading
    | .playing => .ready
    | .spent => if c.complete then .ready else .loading) := by
  rw [Clip.reevaluate, if_neg (by rw [Clip.stop_eq]; omega), if_pos h]
  cases state : c.state <;> simp [state]

/-- A clip whose window holds t plays, is LATE, or gives way to a later one. -/
theorem Clip.reevaluate_of_candidate (started : c.start ≤ t) (h : t < c.start + c.length * 20) :
    c.reevaluate t all = if laterClips t all c = [] then (if c.complete = true then c.play else { c with state := .late })
      else { c with state := .spent } := by
  rw [Clip.reevaluate, if_neg (by rw [Clip.stop_eq]; omega), if_neg (Nat.not_lt.2 started)]
  simp only [Clip.chosen_iff, started, h, true_and]

theorem Clip.reevaluate_settled (t : Nat) (all : List Clip) (c : Clip) : clipSettled t all c (c.reevaluate t all) := by
  refine ⟨Clip.reevaluate_keeps t all c, Clip.reevaluate_of_past, Clip.reevaluate_of_future, fun started h later => ?_,
    fun started h last whole => ?_, fun started h last part => ?_⟩
  · rw [Clip.reevaluate_of_candidate started h, if_neg later]
  · rw [Clip.reevaluate_of_candidate started h, if_pos last, if_pos whole]
    exact ⟨rfl, rfl⟩
  · rw [Clip.reevaluate_of_candidate started h, if_pos last, if_neg (by simp [part])]

theorem Clip.skippedBy_eq (t : Nat) (all : List Clip) (c : Clip) : c.skippedBy t all =
    if c.start + c.length * 20 ≤ t then
      c.state == .loading || c.state == .late || (c.state == .ready && !c.everPlayed)
    else c.start ≤ t && !(laterClips t all c).isEmpty && !c.everPlayed := by
  rw [Clip.skippedBy, Clip.stop_eq]
  split
  · cases state : c.state <;> simp
  · rename_i h
    have open_ : t < c.start + c.length * 20 := Nat.not_le.1 h
    congr 1
    rw [Bool.eq_iff_iff, Bool.and_eq_true, Bool.and_eq_true, Bool.not_eq_true', Bool.not_eq_true', ← Bool.not_eq_true,
      Clip.chosen_iff, Clip.candidate, Bool.and_eq_true, decide_eq_true_eq, decide_eq_true_eq, Clip.stop_eq,
      List.isEmpty_eq_false_iff]
    tauto

/-- The current part of an engine is that of the one clip that its track has to play. -/
theorem reevaluatedCurrent_of_clip {bound : Option Nat} (keys : (all.map (fun c => (c.track, c.start))).Nodup) (hc : c ∈ all)
    (own : bound = some c.track) (started : c.start ≤ t) (h : t < c.start + c.length * 20)
    (last : laterClips t all c = []) (whole : c.complete = true) :
    reevaluatedCurrent t all bound = some { clip := c.id, index := (t - c.start) / 20 } := by
  have chosen : c.chosen t all = true := Clip.chosen_iff.2 ⟨started, h, last⟩
  have found : all.find? (fun c => bound == some c.track && c.chosen t all && c.complete) = some c := by
    cases hf : all.find? (fun c => bound == some c.track && c.chosen t all && c.complete) with
    | none =>
      have missed := List.find?_eq_none.1 hf c hc
      simp [own, chosen, whole] at missed
    | some d =>
      have hd := List.mem_of_find?_eq_some hf
      have also := List.find?_some (p := fun c : Clip => bound == some c.track && c.chosen t all && c.complete) hf
      simp only [own, Bool.and_eq_true, beq_iff_eq, Option.some.injEq, Clip.chosen_iff] at also
      obtain ⟨⟨track, startedD, openD, lastD⟩, -⟩ := also
      have notLater {a b : Clip} (hb : b ∈ all) (track : b.track = a.track) (started : b.start ≤ t)
          (h : t < b.start + b.length * 20) (last : laterClips t all a = []) : b.start ≤ a.start := by
        have none_ := List.filter_eq_nil_iff.1 last b hb
        simpa [track, started, h] using none_
      have start : d.start = c.start := le_antisymm (notLater hd track.symm startedD openD last)
        (notLater hc track started h lastD)
      exact congrArg some (List.inj_on_of_nodup_map keys hd hc (Prod.ext track.symm start))
  rw [reevaluatedCurrent, found]
  simp only [expectedIndex, if_pos started]
  rfl

theorem reevaluatedCurrent_of_none {bound : Option Nat} (h : ∀ c ∈ all, bound = some c.track → c.start ≤ t →
    t < c.start + c.length * 20 → laterClips t all c = [] → c.complete = false) : reevaluatedCurrent t all bound = none := by
  have none_ : all.find? (fun c => bound == some c.track && c.chosen t all && c.complete) = none := by
    refine List.find?_eq_none.2 fun c hc plays => ?_
    simp only [Bool.and_eq_true, beq_iff_eq, Clip.chosen_iff] at plays
    obtain ⟨⟨own, started, open_, last⟩, whole⟩ := plays
    rw [h c hc own started open_ last] at whole
    cases whole
  rw [reevaluatedCurrent, none_]

end

section
variable (show_ : ShowControl) (t : Nat) (jump : Bool) (s : ClipStore)

theorem ClipStore.reevaluate_clips : (s.reevaluate show_ t jump).1.clips = s.clips.map (Clip.reevaluate t s.clips) := rfl

theorem ClipStore.reevaluate_current (i : Nat) : ((s.reevaluate show_ t jump).1.engines.get i).current =
    reevaluatedCurrent t s.clips (show_.binding.get i) := by
  rw [ClipStore.reevaluate, ClipStore.rechoose_current, PerEngine.get_zip]

theorem ClipStore.reevaluate_skipped : (s.reevaluate show_ t jump).1.skipped = bumpBy (if jump then
    (s.clips.filter (fun c => if c.start + c.length * 20 ≤ t then
      c.state == .loading || c.state == .late || (c.state == .ready && !c.everPlayed)
      else c.start ≤ t && !(laterClips t s.clips c).isEmpty && !c.everPlayed)).length else 0) s.skipped := by
  have filtered : s.clips.filter (fun c => jump && c.skippedBy t s.clips) = if jump then
      s.clips.filter (fun c => if c.start + c.length * 20 ≤ t then
      c.state == .loading || c.state == .late || (c.state == .ready && !c.everPlayed)
      else c.start ≤ t && !(laterClips t s.clips c).isEmpty && !c.everPlayed) else [] := by
    cases jump
    · simp
    · exact List.filter_congr fun c _ => by rw [Bool.true_and, Clip.skippedBy_eq]
  have eq : (s.reevaluate show_ t jump).1.skipped =
      bumpBy (s.clips.filter (fun c => jump && c.skippedBy t s.clips)).length s.skipped := rfl
  rw [eq, filtered]
  cases jump <;> rfl

theorem ClipStore.reevaluate_late : (s.reevaluate show_ t jump).2 = s.clips.any (fun c =>
    c.start ≤ t && t < c.start + c.length * 20 && (laterClips t s.clips c).isEmpty && !c.complete) := by
  have eq : (s.reevaluate show_ t jump).2 = s.clips.any (fun c => c.chosen t s.clips && !c.complete) := rfl
  rw [eq]
  congr 1
  funext c
  congr 1
  rw [Bool.eq_iff_iff, Clip.chosen_iff, Bool.and_eq_true, Bool.and_eq_true, decide_eq_true_eq, decide_eq_true_eq,
    List.isEmpty_iff, and_assoc]

end

end Sys2Proof.Machine

/-! The statement on MARK, put together. -/

namespace Sys2Proof.Machine

/-! ## The clips under a change of the show state (R56) -/

theorem ClipStore.chooseNext_of_state {a b : ShowControl} (h : a.state = b.state) (s : ClipStore) (bound : Option Nat)
    (e : Engine) : s.chooseNext a bound e = s.chooseNext b bound e := by
  unfold ClipStore.chooseNext
  rw [h]

/-- A change of the show state moves next clips and nothing else of the store. -/
theorem State.signalState_content (before : ShowState) (s : State) :
    (s.signalState before).clips.clips = s.clips.clips ∧ (s.signalState before).clips.skipped = s.clips.skipped
      ∧ (s.signalState before).clips.overlap = s.clips.overlap ∧ (s.signalState before).clips.slip = s.clips.slip
      ∧ (∀ i, ((s.signalState before).clips.engines.get i).current = (s.clips.engines.get i).current) := by
  by_cases same : s.show_.state = before
  · rw [State.signalState, if_pos (beq_iff_eq.2 same)]
    exact ⟨rfl, rfl, rfl, rfl, fun _ => rfl⟩
  · rw [State.signalState_of_change same]
    exact ⟨rfl, rfl, rfl, rfl, fun i => ClipStore.rechoose_current _ _ i⟩

/-- Next clips are settled after the signal, if they were where it stays silent. -/
theorem State.signalState_next {before : ShowState} {s : State} {i : Nat} (h : s.show_.state = before →
    (s.clips.engines.get i).next = (s.clips.chooseNext s.show_ (s.show_.binding.get i) (s.clips.engines.get i)).map (·.id)) :
    ((s.signalState before).clips.engines.get i).next = ((s.signalState before).clips.chooseNext s.show_
      (s.show_.binding.get i) ((s.signalState before).clips.engines.get i)).map (·.id) := by
  by_cases same : s.show_.state = before
  · rw [State.signalState, if_pos (beq_iff_eq.2 same)]
    exact h same
  · rw [State.signalState_of_change same]
    exact ClipStore.rechoose_next _ _ i

/-! ## The re-evaluate signal -/

section
variable (jump : Bool) (s : State)

theorem State.signalReevaluate_cues :
    (s.signalReevaluate jump).cues = s.cues.reevaluate s.show_.clock jump s.timing.frameNumber := by
  unfold State.signalReevaluate
  dsimp only
  split <;> rfl

theorem State.signalReevaluate_clips :
    (s.signalReevaluate jump).clips = (s.clips.reevaluate s.show_ s.show_.clock jump).1 := by
  unfold State.signalReevaluate
  dsimp only
  split <;> rfl

theorem State.signalReevaluate_rxQueue : (s.signalReevaluate jump).link.rxQueue = s.link.rxQueue := by
  unfold State.signalReevaluate
  dsimp only
  split
  · exact ShowLink.raise_rxQueue _ _
  · rfl

theorem State.signalReevaluate_has (e : Event) : (s.signalReevaluate jump).link.has e =
    (s.link.has e || (decide (e = .lateClip) && (s.clips.reevaluate s.show_ s.show_.clock jump).2)) := by
  unfold State.signalReevaluate
  dsimp only
  split
  · rename_i late
    rw [State.raise_link, ShowLink.has_raise, late]
    cases e <;> simp
  · rename_i punctual
    rw [Bool.not_eq_true] at punctual
    rw [punctual, Bool.and_false, Bool.or_false]

end

/-! ## The clock's part of a MARK (R10, R11, R13) -/

/-- A mark at t is a jump: in FROZEN, or farther than 200 ms from the clock of a show that has begun. -/
def ShowControl.jumpsAt (t : Nat) (c : ShowControl) : Prop :=
  c.state ≠ .ready ∧ (c.state = .frozen ∨ c.clock + 200 < t ∨ t + 200 < c.clock)

section
variable {t : Nat} {s : State}

theorem State.markClock_of_ready (h : s.show_.state = .ready) :
    s.markClock t = State.signalReevaluate false { s with show_ := s.show_.place t } := by rw [State.markClock, h]

theorem State.markClock_of_jump (h : s.show_.jumpsAt t) : s.markClock t = s.jumpTo t := by
  obtain ⟨begun, far⟩ := h
  unfold State.markClock
  split
  · rename_i ready
    exact absurd ready begun
  · rfl
  · rename_i state
    refine if_neg fun near => ?_
    simp only [isCorrection, Bool.and_eq_true, decide_eq_true_eq] at near
    obtain frozen | far | far := far
    · exact absurd frozen (by assumption)
    · omega
    · omega

theorem State.markClock_of_correction (begun : s.show_.state ≠ .ready) (h : ¬ s.show_.jumpsAt t) :
    s.markClock t = { s with show_ := s.show_.place t } := by
  have thawed : s.show_.state ≠ .frozen := fun frozen => h ⟨begun, .inl frozen⟩
  have below : t ≤ s.show_.clock + 200 := Nat.not_lt.1 fun ahead => h ⟨begun, .inr (.inl ahead)⟩
  have above : s.show_.clock ≤ t + 200 := Nat.not_lt.1 fun behind => h ⟨begun, .inr (.inr behind)⟩
  unfold State.markClock
  split
  · contradiction
  · contradiction
  · exact if_pos (by simp [isCorrection, below, above])

end

/-! ## The running flag and the rate gate (R10, R12 to R14) -/

theorem ShowControl.offerGate_eq (t now : Nat) (c : ShowControl) : c.offerGate t now = { c with
    gate := (c.offerGate t now).gate, rate := (c.offerGate t now).rate, rateRejects := (c.offerGate t now).rateRejects } := by
  unfold ShowControl.offerGate
  split
  · rfl
  · dsimp only
    split
    · rfl
    · split <;> rfl

/-- The gate reads and writes itself, the rate and the count of rejected rates. -/
theorem ShowControl.offerGate_of_gate {a b : ShowControl} (t now : Nat) (gate : a.gate = b.gate) (rate : a.rate = b.rate)
    (rejects : a.rateRejects = b.rateRejects) : (a.offerGate t now).gate = (b.offerGate t now).gate
      ∧ (a.offerGate t now).rate = (b.offerGate t now).rate
      ∧ (a.offerGate t now).rateRejects = (b.offerGate t now).rateRejects := by
  unfold ShowControl.offerGate
  rw [gate]
  split
  · exact ⟨rfl, rate, rejects⟩
  · dsimp only
    split
    · exact ⟨gate, rate, rejects⟩
    · split
      · exact ⟨rfl, rfl, rejects⟩
      · exact ⟨rfl, rfl, congrArg bump rejects⟩

theorem ShowControl.applyRunning_eq (t now : Nat) (running : Bool) (c : ShowControl) : c.applyRunning t now running = { c with
    state := if running then .running else .paused, gate := (c.applyRunning t now running).gate
    rate := (c.applyRunning t now running).rate, rateRejects := (c.applyRunning t now running).rateRejects } := by
  cases running
  · rfl
  · exact ShowControl.offerGate_eq t now { c with state := .running }

/-! ## A MARK that is taken (R9 to R14) -/

section
variable {t : Nat} {s : State}

/-- The clock's part places the show; a jump also empties the gate and counts. -/
theorem State.markClock_place (t : Nat) (s : State) : ∃ gate jumps,
    (s.markClock t).show_ = { s.show_ with clock := t, fraction := 0, gate := gate, jumps := jumps }
      ∧ (s.show_.jumpsAt t → gate = none ∧ jumps = bump s.show_.jumps)
      ∧ (¬ s.show_.jumpsAt t → gate = s.show_.gate ∧ jumps = s.show_.jumps) := by
  by_cases jump : s.show_.jumpsAt t
  · refine ⟨none, bump s.show_.jumps, ?_, fun _ => ⟨rfl, rfl⟩, fun h => absurd jump h⟩
    rw [State.markClock_of_jump jump, State.jumpTo, State.signalReevaluate_show]
    rfl
  · refine ⟨s.show_.gate, s.show_.jumps, ?_, fun h => absurd h jump, fun _ => ⟨rfl, rfl⟩⟩
    by_cases ready : s.show_.state = .ready
    · rw [State.markClock_of_ready ready, State.signalReevaluate_show]
      rfl
    · rw [State.markClock_of_correction ready jump]
      rfl

/-- The first mark and a jump set cues and clips by the new clock, and only a jump says so. -/
theorem State.markClock_of_placing (h : s.show_.state = .ready ∨ s.show_.jumpsAt t) :
    ∃ r : State, s.markClock t = r.signalReevaluate (s.show_.state != .ready) ∧ r.cues = s.cues ∧ r.clips = s.clips
      ∧ r.timing = s.timing ∧ r.show_.clock = t ∧ r.show_.binding = s.show_.binding ∧ r.show_.state = s.show_.state
      ∧ r.link.rxQueue = s.link.rxQueue
      ∧ ∀ e, r.link.has e = (s.link.has e || (e == .jump && s.show_.state != .ready)) := by
  obtain ready | jump := h
  · refine ⟨{ s with show_ := s.show_.place t }, ?_, rfl, rfl, rfl, rfl, rfl, rfl, rfl, fun e => by simp [ready]⟩
    rw [State.markClock_of_ready ready, ready]
    rfl
  · refine ⟨State.raise .jump { s with show_ := { s.show_.place t with gate := none, jumps := bump s.show_.jumps } }, ?_,
      rfl, rfl, rfl, rfl, rfl, rfl, ShowLink.raise_rxQueue _ _, fun e => ?_⟩
    · rw [State.markClock_of_jump jump, State.jumpTo, bne_iff_ne.2 jump.1]
    · rw [State.raise_link, ShowLink.has_raise, bne_iff_ne.2 jump.1]
      cases e <;> simp

/-- A correction moves the clock only. -/
theorem State.markClock_of_near (begun : s.show_.state ≠ .ready) (h : ¬ s.show_.jumpsAt t) :
    (s.markClock t).link = s.link ∧ (s.markClock t).cues = s.cues ∧ (s.markClock t).clips = s.clips := by
  rw [State.markClock_of_correction begun h]
  exact ⟨rfl, rfl, rfl⟩

variable (t s) in
/-- The show after a mark. -/
theorem State.takeMark_show (running : Bool) : ∃ gate rate rejects jumps,
    (s.takeMark t running).show_ = { s.show_ with
        clock := t, fraction := 0, markLoss := some 0, state := if running then .running else .paused, gate := gate, rate := rate, rateRejects := rejects, jumps := jumps }
      ∧ (s.show_.jumpsAt t → jumps = bump s.show_.jumps) ∧ (¬ s.show_.jumpsAt t → jumps = s.show_.jumps)
      ∧ (running = false → gate = none ∧ rate = s.show_.rate ∧ rejects = s.show_.rateRejects)
      ∧ (∀ (jumped : Bool) (offered : ShowControl), running = true → (jumped = true ↔ s.show_.jumpsAt t) →
          offered = { s.show_ with gate := if jumped then none else s.show_.gate }.offerGate t s.timing.localTime →
          gate = offered.gate ∧ rate = offered.rate ∧ rejects = offered.rateRejects) := by
  obtain ⟨gate, jumps, place, jump, near⟩ := State.markClock_place t { s with show_ := { s.show_ with markLoss := some 0 } }
  obtain ⟨c, hc⟩ : ∃ c, c = { s.show_ with clock := t, fraction := 0, markLoss := some 0, gate := gate, jumps := jumps } :=
    ⟨_, rfl⟩
  have show_ : (s.takeMark t running).show_ = c.applyRunning t s.timing.localTime running := by
    rw [State.takeMark, State.signalState_show]
    dsimp only
    rw [place, State.markClock_timing, hc]
  refine ⟨(c.applyRunning t s.timing.localTime running).gate, (c.applyRunning t s.timing.localTime running).rate,
    (c.applyRunning t s.timing.localTime running).rateRejects, jumps, ?_, fun h => (jump h).2, fun h => (near h).2, ?_, ?_⟩
  · rw [show_, ShowControl.applyRunning_eq, hc]
  · rintro rfl
    rw [hc]
    exact ⟨rfl, rfl, rfl⟩
  · rintro jumped offered rfl jumpedIff rfl
    refine ShowControl.offerGate_of_gate t _ ?_ (by rw [hc]) (by rw [hc])
    have emptied : gate = if jumped then none else s.show_.gate := by
      split
      · rename_i h
        exact (jump (jumpedIff.1 h)).1
      · rename_i h
        exact (near (mt jumpedIff.2 h)).1
    rw [hc]
    exact emptied

end

end Sys2Proof.Machine

/-! Marks place, correct or jump. -/

namespace Sys2Proof.Machine

section
variable {t : Nat} {s : State} (running : Bool)

/-- A correction reaches neither the link nor a cue nor a clip. -/
theorem State.takeMark_of_near (begun : s.show_.state ≠ .ready) (h : ¬ s.show_.jumpsAt t) :
    (s.takeMark t running).link = s.link ∧ (s.takeMark t running).cues = s.cues
      ∧ (s.takeMark t running).clips.clips = s.clips.clips ∧ (s.takeMark t running).clips.skipped = s.clips.skipped := by
  obtain ⟨link, cues, clips⟩ := State.markClock_of_near (t := t) (s := { s with show_ := { s.show_ with markLoss := some 0 } })
    begun h
  rw [State.takeMark]
  refine ⟨(State.signalState_link _ _).trans link, (State.signalState_cues _ _).trans cues, ?_, ?_⟩
  · exact (State.signalState_content _ _).1.trans (congrArg ClipStore.clips clips)
  · exact (State.signalState_content _ _).2.1.trans (congrArg ClipStore.skipped clips)

/-- The first mark and a jump re-evaluate cues and clips at the mark's time. -/
theorem State.takeMark_of_placing (h : s.show_.state = .ready ∨ s.show_.jumpsAt t) :
    (s.takeMark t running).cues = s.cues.reevaluate t (s.show_.state != .ready) s.timing.frameNumber
      ∧ (s.takeMark t running).link.rxQueue = s.link.rxQueue
      ∧ (∃ r : ShowControl, r.binding = s.show_.binding ∧ r.clock = t
        ∧ (∀ e, (s.takeMark t running).link.has e = (s.link.has e || (e == .jump && s.show_.state != .ready)
          || (decide (e = .lateClip) && (s.clips.reevaluate r t (s.show_.state != .ready)).2)))
        ∧ (s.takeMark t running).clips.clips = (s.clips.reevaluate r t (s.show_.state != .ready)).1.clips
        ∧ (s.takeMark t running).clips.skipped = (s.clips.reevaluate r t (s.show_.state != .ready)).1.skipped
        ∧ (s.takeMark t running).clips.overlap = s.clips.overlap ∧ (s.takeMark t running).clips.slip = s.clips.slip
        ∧ ∀ i, ((s.takeMark t running).clips.engines.get i).current =
          ((s.clips.reevaluate r t (s.show_.state != .ready)).1.engines.get i).current)
      ∧ ∀ i, ((s.takeMark t running).clips.engines.get i).next = ((s.takeMark t running).clips.chooseNext
          (s.takeMark t running).show_ (s.show_.binding.get i) ((s.takeMark t running).clips.engines.get i)).map (·.id) := by
  obtain ⟨r, placed, cues, clips, timing, clock, binding, state, rxQueue, has⟩ := State.markClock_of_placing (t := t)
    (s := { s with show_ := { s.show_ with markLoss := some 0 } }) h
  obtain ⟨content, skipped, overlap, slip, current⟩ := State.signalState_content s.show_.state
    { r.signalReevaluate (s.show_.state != .ready) with show_ := r.show_.applyRunning t s.timing.localTime running }
  have taken : s.takeMark t running = State.signalState s.show_.state
      { r.signalReevaluate (s.show_.state != .ready) with show_ := r.show_.applyRunning t s.timing.localTime running } := by
    rw [State.takeMark]
    dsimp only
    rw [placed, State.signalReevaluate_show, State.signalReevaluate_timing, timing]
  have bound : (r.show_.applyRunning t s.timing.localTime running).binding = s.show_.binding := by
    rw [ShowControl.applyRunning_eq]
    exact binding
  have store : (r.signalReevaluate (s.show_.state != .ready)).clips =
      (s.clips.reevaluate r.show_ t (s.show_.state != .ready)).1 := by rw [State.signalReevaluate_clips, clips, clock]
  have overlaps := overlap.trans (congrArg ClipStore.overlap store)
  have slips := slip.trans (congrArg ClipStore.slip store)
  rw [taken, State.signalState_cues, State.signalState_link, State.signalState_show]
  refine ⟨?_, (State.signalReevaluate_rxQueue _ _).trans rxQueue, ⟨r.show_, binding, clock, fun e => ?_,
    content.trans (congrArg ClipStore.clips store), skipped.trans (congrArg ClipStore.skipped store),
    overlaps, slips, fun i => (current i).trans (congrArg (fun c : ClipStore => (c.engines.get i).current) store)⟩, fun i => ?_⟩
  · dsimp only
    rw [State.signalReevaluate_cues, cues, clock, timing]
  · dsimp only
    rw [State.signalReevaluate_has, has, clips, clock]
  · have next := State.signalState_next (before := s.show_.state) (i := i) (s := { r.signalReevaluate (s.show_.state != .ready)
      with show_ := r.show_.applyRunning t s.timing.localTime running }) fun same => ?_
    · simpa only [bound] using next
    · dsimp only at same ⊢
      rw [store, bound,
        ClipStore.chooseNext_of_state (same.trans state.symm), ← (show r.show_.binding = s.show_.binding from binding)]
      exact ClipStore.rechoose_next r.show_ _ i

theorem State.takeMark_holdings : (s.takeMark t running).pm.holdings = s.pm.holdings := by
  rw [State.takeMark, State.signalState]
  split
  · exact congrArg PositionManager.holdings (State.markClock_pm _ _)
  · rw [State.recomputeDemand_holdings]
    exact congrArg PositionManager.holdings (State.markClock_pm _ _)

theorem State.takeMark_memory : (s.takeMark t running).clips.memory = s.clips.memory := by
  rw [State.takeMark, State.signalState_memory]
  exact State.markClock_memory _ _

theorem State.mark_of_dead (t : Nat) (h : s.show_.state = .noShow ∨ s.show_.state = .ended) :
    s.mark t running = s.refusePlain 4 .wrongState := by
  have dead : s.show_.state.live = false := by
    obtain h | h := h
    all_goals rw [h]; rfl
  rw [State.mark, dead]
  rfl

theorem State.mark_of_live (loaded : s.show_.state ≠ .noShow) (open_ : s.show_.state ≠ .ended) : s.mark t running =
    if 2147483647 < t then s.refusePlain 4 .badField else s.takeMark t running := by
  have live : s.show_.state.live = true := (ShowState.live_iff _).2 ⟨loaded, open_⟩
  rw [State.mark, live]
  rfl

theorem ShowControl.jumpsAt_iff_of_begun {c : ShowControl} (begun : c.state ≠ .ready) (thawed : c.state ≠ .frozen) :
    c.jumpsAt t ↔ c.clock + 200 < t ∨ t + 200 < c.clock := by
  unfold ShowControl.jumpsAt
  tauto

end

/-- Settles O51: the refusals are the two tests of R9; the show follows `State.takeMark_show`, and cues, clips and link follow
the case of the clock's part, a correction or a placing. -/
theorem marksPlaceCorrectOrJump : Obligations.MarksPlaceCorrectOrJump := by
  intro dt s u time running rest hu hq
  obtain ⟨w, hw⟩ : ∃ w : State, w = { u with link := { u.link with rxQueue := rest } } := ⟨_, rfl⟩
  have effect : Instr.effect (.mark dt) u = w.mark time running := by
    rw [hw]
    exact State.takeHead_of_head hq rfl
  have show_ : w.show_ = u.show_ := by rw [hw]
  refine ⟨fun dead => ?_, fun loaded open_ far => ?_, fun loaded open_ range => ?_⟩
  · rw [exec_of_effect hu effect, State.mark_of_dead running time (show_.symm ▸ dead), hw]
    rfl
  · rw [exec_of_effect hu effect, State.mark_of_live running (show_.symm ▸ loaded) (show_.symm ▸ open_), if_pos far, hw]
    rfl
  · rw [State.mark_of_live running (show_.symm ▸ loaded) (show_.symm ▸ open_), if_neg (Nat.not_lt.2 range)] at effect
    obtain ⟨gate, rate, rejects, jumps, taken, jump, near, paused, offered⟩ := State.takeMark_show time w running
    have same : w.cues = u.cues ∧ w.clips = u.clips ∧ w.timing = u.timing ∧ w.roster = u.roster ∧ w.peers = u.peers
        ∧ w.pm = u.pm ∧ w.link.rxQueue = rest ∧ ∀ e, w.link.has e = u.link.has e := by
      rw [hw]
      exact ⟨rfl, rfl, rfl, rfl, rfl, rfl, rfl, fun _ => rfl⟩
    obtain ⟨cues, store, timing, roster, peers, pm, rxQueue, has⟩ := same
    have corrected (begun : u.show_.state ≠ .ready) (h : ¬ u.show_.jumpsAt time) :=
      State.takeMark_of_near (s := w) (t := time) running (show_.symm ▸ begun) (show_.symm ▸ h)
    have placed (h : u.show_.state = .ready ∨ u.show_.jumpsAt time) :=
      State.takeMark_of_placing (s := w) (t := time) running (show_.symm ▸ h)
    rw [show_] at taken jump near paused offered
    simp only [show_, cues, store, timing, has] at corrected placed offered
    have jumps_ (h : u.show_.jumpsAt time) : jumps = bump u.show_.jumps
        ∧ (w.takeMark time running).link.has .jump = true := by
      obtain ⟨-, -, ⟨r, -, -, has, -⟩, -⟩ := placed (.inr h)
      exact ⟨jump h, by rw [has, bne_iff_ne.2 h.1]; simp⟩
    refine ⟨_, exec_of_effect hu effect, ?_⟩
    simp only [finish_show, finish_has, finish_cues, finish_clips, finish_pm, finish_roster, finish_timing, finish_peers,
      finish_rxQueue, State.takeMark_timing, State.takeMark_roster, State.takeMark_peers, State.takeMark_holdings]
    rw [timing, roster, peers, pm]
    rw [taken]
    refine ⟨rfl, rfl, rfl, paused, fun jumped o runs jumpedIff ho => ?_, rfl, rfl, rfl, rfl, rfl, rfl, ?_, rfl, rfl, rfl, rfl,
      fun ready => ?_, fun frozen => ?_, fun begun thawed below above => ?_, fun begun thawed far => ?_, fun place => ?_⟩
    · exact offered jumped o runs jumpedIff ho
    · by_cases place : u.show_.state = .ready ∨ u.show_.jumpsAt time
      · exact (placed place).2.1.trans rxQueue
      · rw [not_or] at place
        exact (congrArg ShowLink.rxQueue (corrected place.1 place.2).1).trans rxQueue
    · obtain ⟨-, -, ⟨r, -, -, has, -⟩, -⟩ := placed (.inl ready)
      exact ⟨near fun h => h.1 ready, by rw [has, ready]; simp⟩
    · exact jumps_ ⟨by rw [frozen]; decide, .inl frozen⟩
    · have correct : ¬ u.show_.jumpsAt time := by
        rw [ShowControl.jumpsAt_iff_of_begun begun thawed]
        omega
      obtain ⟨link, cues, clips, skipped⟩ := corrected begun correct
      exact ⟨near correct, by rw [link, has], cues, clips, skipped⟩
    · exact jumps_ ⟨begun, .inr far⟩
    · have placing : u.show_.state = .ready ∨ u.show_.jumpsAt time := by
        unfold ShowControl.jumpsAt
        by_cases ready : u.show_.state = .ready
        · exact .inl ready
        · exact .inr ⟨ready, place.resolve_left ready⟩
      have skips {α : Type} (a b : α) : (if (u.show_.state != .ready) = true then a else b) =
          if u.show_.state = .ready then b else a := by
        by_cases ready : u.show_.state = .ready <;> simp [ready]
      obtain ⟨cues, -, ⟨r, bound, -, has, clips, skipped, overlap, slip, current⟩, next⟩ := placed placing
      refine ⟨?_, ?_, ?_, ?_, ?_, overlap, slip, ?_, ?_, ?_, fun i _ => ?_, ?_⟩
      · rw [cues, CueQueue.reevaluate_entries]
        exact forall₂_map_right (Cue.reevaluate_settled _ _ _) _
      · rw [cues, CueQueue.reevaluate_clears]
      · rw [cues, CueQueue.reevaluate_skippedCue, skips]
      · rw [clips, ClipStore.reevaluate_clips]
        exact forall₂_map_right (Clip.reevaluate_settled _ _) _
      · rw [skipped, ClipStore.reevaluate_skipped, skips]
      · exact (State.takeMark_memory running).trans (congrArg ClipStore.memory store)
      · intro keys i _ c hc own started h last whole
        rw [current, ClipStore.reevaluate_current, bound]
        exact reevaluatedCurrent_of_clip keys hc own started h last whole
      · intro i _ h
        rw [current, ClipStore.reevaluate_current, bound]
        exact reevaluatedCurrent_of_none h
      · rw [← taken]
        exact next i
      · rw [has, ClipStore.reevaluate_late, show (Event.lateClip == Event.jump) = false from rfl, Bool.false_and,
          Bool.or_false, decide_eq_true rfl, Bool.true_and]

end Sys2Proof.Machine

/-! Cells and bursts as bytes (R72, R180). -/

namespace Sys2Proof.Machine

/-! ## A cell's 34 bytes -/

section
variable (c : Cell)

/-- The fields of a cell and the zeros that fill it. -/
def Cell.padded : List Byte := padTo 32 c.fields

theorem Cell.bytes_eq : c.bytes = bytesOfNat 1 c.kind ++ (bytesOfNat 1 c.tag ++ c.padded) := List.append_assoc _ _ _

theorem Cell.fieldAt_kind : fieldAt c.bytes 0 1 = c.kind := by
  rw [c.bytes_eq, fieldAt_bytesOfNat_append]
  cases c <;> rfl

theorem Cell.fieldAt_tag : fieldAt c.bytes 1 1 = c.tag % 256 := by
  rw [c.bytes_eq, fieldAt_append_of_le (by simp), length_bytesOfNat, Nat.sub_self, fieldAt_bytesOfNat_append]
  rfl

theorem Cell.drop_bytes (k : Nat) : c.bytes.drop (2 + k) = c.padded.drop k := by
  rw [c.bytes_eq, drop_append_of_le (by simp; omega), drop_append_of_le (by simp), length_bytesOfNat, length_bytesOfNat]
  congr 1
  omega

theorem Cell.fieldAt_bytes (off n : Nat) : fieldAt c.bytes (2 + off) n = fieldAt c.padded off n := by
  rw [← fieldAt_drop, ← Nat.add_zero 2, c.drop_bytes 0]
  rfl

theorem Cell.drop_padded {k : Nat} (h : c.fields.length = k) : c.padded.drop k = List.replicate (32 - k) 0 := by
  rw [Cell.padded, padTo, drop_append_of_le h.le, h, Nat.sub_self, List.drop_zero]

theorem Cell.drop_zeros {k : Nat} (h : c.fields.length = k) : c.bytes.drop (2 + k) = List.replicate (32 - k) 0 := by
  rw [c.drop_bytes, c.drop_padded h]

end

theorem Track.length_directoryBytes {k : Track} (h : k.language.length = 3) : k.directoryBytes.length = 4 := by
  simp [Track.directoryBytes, h]

theorem resultsInOrder_ackCode (r : JoinResult) :
    1 ≤ ackCode r ∧ ackCode r < 256 ∧ resultsInOrder[ackCode r - 1]? = some r := by
  cases r <;> decide

theorem Cell.length_fields {c : Cell} (h : c.fits) : c.fields.length ≤ 32 := by
  cases c with
  | fill => exact Nat.zero_le _
  | beacon number state session showTime held frame =>
    obtain ⟨-, -, few⟩ := h
    simp [Cell.fields]
    omega
  | directory tracks =>
    obtain ⟨few, each⟩ := h
    rw [Cell.fields, length_flatMap_of_length (k := 4) fun k hk => Track.length_directoryBytes (each k hk).2.2.2]
    omega
  | audio track block => exact h.2.le
  | ack acks =>
    rw [Cell.fields, length_flatMap_of_length (k := 5) fun a _ => by simp]
    exact (Nat.mul_le_mul_left 5 h).trans (by decide)
  | captionHead refresh track start duration region italic speakerChange codes => simp [Cell.fields]
  | captionText track start sequence codes =>
    obtain ⟨-, -, -, few⟩ := h
    simp [Cell.fields]
    omega
  | captionClear track start region => simp [Cell.fields]

theorem Cell.length_bytes {c : Cell} (h : c.fits) : c.bytes.length = 34 := by
  have := Cell.length_fields h
  simp [Cell.bytes, padTo]
  omega

theorem fieldAt_replicate {n j : Nat} (h : j < n) (b : Byte) (rest : List Byte) :
    fieldAt (List.replicate n b ++ rest) j 1 = b.toNat := by
  rw [fieldAt_append_of_within (by simpa using h), fieldAt, List.drop_replicate, List.take_replicate,
    Nat.min_eq_left (by omega)]
  exact (natOfBytes_cons b []).trans (by simp)

/-- The position bytes of a BEACON: those held, and 255 where none is held. -/
def heldBytes (held : List Position) : List Byte :=
  held.flatMap (fun p => bytesOfNat 1 (positionCode p)) ++ List.replicate (4 - held.length) 255

theorem length_heldBytes {held : List Position} (few : held.length ≤ 4) : (heldBytes held).length = 4 := by
  have codes : (held.flatMap (fun p => bytesOfNat 1 (positionCode p))).length = 1 * held.length :=
    length_flatMap_of_length fun p _ => length_bytesOfNat 1 _
  rw [heldBytes, List.length_append, codes, List.length_replicate]
  omega

theorem fieldAt_heldBytes (held : List Position) {i : Nat} (h : i < 4) (rest : List Byte) :
    fieldAt (heldBytes held ++ rest) i 1 = (held[i]?.map positionNumber).getD 255 := by
  have codes : (held.flatMap (fun p => bytesOfNat 1 (positionCode p))).length = 1 * held.length :=
    length_flatMap_of_length fun p _ => length_bytesOfNat 1 _
  rw [heldBytes, List.append_assoc]
  cases hp : held[i]? with
  | some p =>
    rw [show i = 1 * i + 0 by omega, fieldAt_flatMap (fun p _ => length_bytesOfNat 1 _) hp _ (by omega), fieldAt_bytesOfNat,
      positionCode_eq]
    have := positionCode_lt p
    rw [positionCode_eq] at this
    exact Nat.mod_eq_of_lt (by omega)
  | none =>
    have beyond := List.getElem?_eq_none_iff.1 hp
    rw [fieldAt_append_of_le (by omega), codes, fieldAt_replicate (by omega)]
    rfl

theorem carriesCell_bytes {c : Cell} (h : c.fits) : carriesCell c c.bytes := by
  refine ⟨Cell.length_bytes h, ?_⟩
  cases c with
  | fill => exact ⟨Cell.fieldAt_kind _, Cell.fieldAt_tag _, Cell.drop_zeros (k := 0) _ rfl⟩
  | beacon number state session showTime held frame =>
    obtain ⟨number_, time_, few⟩ := h
    have four := length_heldBytes few
    have fields : Cell.fields (.beacon number state session showTime held frame) = bytesOfNat 1 number
        ++ (bytesOfNat 1 (showCode state) ++ (bytesOfNat 4 (session.getD 0).toNat ++ (bytesOfNat 4 showTime
        ++ (bytesOfNat 1 held.length ++ (heldBytes held ++ bytesOfNat 2 frame.toNat))))) := by
      simp [Cell.fields, heldBytes]
    refine ⟨Cell.fieldAt_kind _, Cell.fieldAt_tag _, (Cell.fieldAt_bytes _ 0 1).trans ?_, (Cell.fieldAt_bytes _ 1 1).trans ?_,
      (Cell.fieldAt_bytes _ 2 4).trans ?_, (Cell.fieldAt_bytes _ 6 4).trans ?_, (Cell.fieldAt_bytes _ 10 1).trans ?_,
      fun i hi => ?_, (Cell.fieldAt_bytes _ 15 2).trans ?_, Cell.drop_zeros (k := 17) _ (by simp [fields, four])⟩
    case refine_6 =>
      rw [show 13 + i = 2 + (11 + i) by omega, Cell.fieldAt_bytes]
      simp only [Cell.padded, padTo, fields, List.append_assoc]
      iterate 5 rw [fieldAt_append_of_le (by simp; omega)]
      simp only [length_bytesOfNat]
      rw [show 11 + i - 1 - 1 - 4 - 4 - 1 = i by omega]
      exact fieldAt_heldBytes held hi _
    all_goals simp [Cell.padded, padTo, fieldAt_append_of_le, Nat.mod_eq_of_lt, *]
    case refine_2 => cases state <;> rfl
    all_goals omega
  | directory tracks =>
    obtain ⟨few, each⟩ := h
    have long (k : Track) (hk : k ∈ tracks) : k.directoryBytes.length = 4 := Track.length_directoryBytes (each k hk).2.2.2
    refine ⟨Cell.fieldAt_kind _, Cell.fieldAt_tag _, fun i k hk => ?_,
      Cell.drop_zeros _ (length_flatMap_of_length long)⟩
    obtain ⟨one, eight, class_, three⟩ := each k (List.mem_of_getElem? hk)
    constructor
    · rw [Cell.fieldAt_bytes, Cell.padded, padTo, Cell.fields, ← Nat.add_zero (4 * i),
        fieldAt_flatMap long hk _ (by omega), Track.directoryBytes, fieldAt_bytesOfNat_append]
      cases kind : k.kind <;> simp <;> omega
    · have entry := take_drop_flatMap long hk (List.replicate (32 - (Cell.fields (.directory tracks)).length) 0)
      rw [show 3 + 4 * i = 2 + (4 * i + 1) by omega, Cell.drop_bytes, Cell.padded, padTo, Cell.fields,
        ← List.drop_drop, show 3 = 4 - 1 from rfl, ← List.drop_take]
      exact (congrArg (List.drop 1) entry).trans (by simp [Track.directoryBytes])
  | audio track block =>
    obtain ⟨small, whole⟩ := h
    refine ⟨Cell.fieldAt_kind _, (Cell.fieldAt_tag _).trans (Nat.mod_eq_of_lt small), (Cell.drop_bytes _ 0).trans ?_⟩
    simp [Cell.padded, padTo, Cell.fields, whole]
  | ack acks =>
    have few : acks.length ≤ 6 := h
    have long (a : Ack) (_ : a ∈ acks) : (bytesOfNat 4 a.receiver.toNat ++ bytesOfNat 1 (ackCode a.result)).length = 5 := by
      simp
    refine ⟨Cell.fieldAt_kind _, (Cell.fieldAt_tag _).trans (Nat.mod_eq_of_lt (by change acks.length < 256; omega)),
      fun i a ha => ?_, Cell.drop_zeros _ (length_flatMap_of_length long)⟩
    obtain ⟨one, byte, result⟩ := resultsInOrder_ackCode a.result
    have receiver : fieldAt (Cell.bytes (.ack acks)) (2 + 5 * i) 4 = a.receiver.toNat := by
      rw [Cell.fieldAt_bytes, Cell.padded, padTo, Cell.fields, ← Nat.add_zero (5 * i), fieldAt_flatMap long ha _ (by omega),
        fieldAt_bytesOfNat_append]
      exact Nat.mod_eq_of_lt a.receiver.isLt
    have code : fieldAt (Cell.bytes (.ack acks)) (6 + 5 * i) 1 = ackCode a.result := by
      rw [show 6 + 5 * i = 2 + (5 * i + 4) by omega, Cell.fieldAt_bytes, Cell.padded, padTo, Cell.fields,
        fieldAt_flatMap long ha _ (by omega), fieldAt_append_of_le (by simp), length_bytesOfNat, Nat.sub_self,
        fieldAt_bytesOfNat]
      exact Nat.mod_eq_of_lt byte
    rw [code]
    exact ⟨receiver, one, result⟩
  | captionHead refresh track start duration region italic speakerChange codes =>
    obtain ⟨track_, start_, duration_, region_, codes_⟩ := h
    have := boolBit_lt italic
    have := boolBit_lt speakerChange
    refine ⟨Cell.fieldAt_kind _, (Cell.fieldAt_tag _).trans ?_, (Cell.fieldAt_bytes _ 0 1).trans ?_,
      (Cell.fieldAt_bytes _ 1 4).trans ?_, (Cell.fieldAt_bytes _ 5 2).trans ?_, (Cell.fieldAt_bytes _ 7 1).trans ?_,
      (Cell.fieldAt_bytes _ 8 1).trans ?_, (Cell.fieldAt_bytes _ 9 1).trans ?_, Cell.drop_zeros (k := 10) _ (by simp [Cell.fields])⟩
    · cases refresh <;> rfl
    all_goals simp [Cell.padded, padTo, Cell.fields, fieldAt_append_of_le, Nat.mod_eq_of_lt, *]
    cases italic <;> cases speakerChange <;> rfl
  | captionText track start sequence codes =>
    obtain ⟨track_, sequence_, start_, few⟩ := h
    refine ⟨Cell.fieldAt_kind _, (Cell.fieldAt_tag _).trans ?_, (Cell.fieldAt_bytes _ 0 4).trans ?_,
      (Cell.drop_bytes _ 4).trans ?_⟩
    · simp [Cell.tag]
      omega
    · simp [Cell.padded, padTo, Cell.fields, Nat.mod_eq_of_lt start_]
    · simp [Cell.padded, padTo, Cell.fields]
      omega
  | captionClear track start region =>
    obtain ⟨track_, start_, region_⟩ := h
    refine ⟨Cell.fieldAt_kind _, (Cell.fieldAt_tag _).trans (Nat.mod_eq_of_lt track_), (Cell.fieldAt_bytes _ 0 4).trans ?_,
      (Cell.fieldAt_bytes _ 4 1).trans ?_, Cell.drop_zeros (k := 5) _ (by simp [Cell.fields])⟩
    all_goals simp [Cell.padded, padTo, Cell.fields, fieldAt_append_of_le, Nat.mod_eq_of_lt, *]

/-! ## A burst's 209 bytes -/

theorem carriesBurst_bytes {number : Nat} {frame : FrameNo} {b : Burst} (small : number < 256) (six : b.cells.length = 6)
    (fit : ∀ c ∈ b.cells, c.fits) : carriesBurst number frame b.cells (b.bytes number frame) := by
  have long (c : Cell) (hc : c ∈ b.cells) : c.bytes.length = 34 := Cell.length_bytes (fit c hc)
  have all : (b.cells.flatMap Cell.bytes).length = 34 * 6 := by rw [length_flatMap_of_length long, six]
  have bytes : b.bytes number frame = bytesOfNat 1 number ++ (bytesOfNat 2 (frame.toNat % 65536)
      ++ (b.cells.flatMap Cell.bytes ++ checkBytes (bytesOfNat 1 number ++ bytesOfNat 2 (frame.toNat % 65536)
        ++ b.cells.flatMap Cell.bytes))) := by
    simp only [Burst.bytes, withCheck, List.append_assoc]
  refine ⟨?_, ?_, ?_, checkOk_withCheck _, fun i c hc => ?_⟩
  · simp [Burst.bytes, all]
  · rw [bytes, fieldAt_bytesOfNat_append]
    exact Nat.mod_eq_of_lt small
  · rw [bytes, fieldAt_append_of_le (by simp), length_bytesOfNat, Nat.sub_self, fieldAt_bytesOfNat_append]
    exact Nat.mod_mod _ _
  · rw [bytes, drop_append_of_le (by simp; omega), drop_append_of_le (by simp), length_bytesOfNat, length_bytesOfNat,
      show 3 + 34 * i - 1 - 2 = 34 * i by omega, take_drop_flatMap long hc]
    exact carriesCell_bytes (fit c (List.mem_of_getElem? hc))

/-! ## Outcomes (R73) -/

theorem clearSent_foldl (sent : List PlacedClear) (q : CueQueue) : sent.foldl (fun q c => q.clearSent c.serial) q =
    { q with clears := q.clears.filter (fun c => !sent.any (fun k => k.serial == c.serial)) } := by
  induction sent generalizing q with
  | nil => simp
  | cons k ks ih =>
    rw [List.foldl_cons, ih, CueQueue.clearSent, List.filter_filter]
    congr 2
    funext c
    rw [List.any_cons, Bool.not_or, Bool.and_comm, bne, Bool.beq_comm]

theorem PlacedItem.completedBy_eq (p : Position) (i : PlacedItem) :
    i.completedBy p = (i.open_.contains p && i.open_.all (· == p)) := by
  have none_ : (i.sentIn p).open_.isEmpty = i.open_.all (· == p) := by
    rw [Bool.eq_iff_iff, List.isEmpty_iff, PlacedItem.sentIn, List.filter_eq_nil_iff, List.all_eq_true]
    simp
  rw [PlacedItem.completedBy, none_]

/-- Settles O28: the start of a burst is its two cases of the lock confirmed, its end the report, and its bytes
`carriesBurst_bytes`. -/
theorem burstsAreSentOrSkipped : Obligations.BurstsAreSentOrSkipped := by
  refine ⟨fun dt s u b hu => ⟨fun next due quiet => ⟨fun confirmed => ?_, fun unlocked => ?_⟩, fun sending => ?_⟩,
    fun number frame b small six fit => carriesBurst_bytes small six fit⟩
  · refine exec_of_effect hu ?_
    obtain ⟨l, since, long⟩ := confirmed
    simp [Instr.effect, State.burstStart, next, Burst.due, due, quiet, RadioPort.confirmed, since, long, State.sendBurst,
      State.setProgress]
  · refine exec_of_effect hu ?_
    have open_ : u.radio.confirmed u.timing.localTime = false := by
      cases since : u.radio.lockedSince with
      | none => simp [RadioPort.confirmed, since]
      | some l => simp [RadioPort.confirmed, since, unlocked l since]
    simp [Instr.effect, State.burstStart, next, Burst.due, due, quiet, open_, State.skipBurst, State.reportUnsent,
      State.setProgress, Composer.setProgress]
  · have effect : Instr.effect (.burstSent dt) u = State.reportSent b.position
        (State.setProgress b.position .sent { u with radio := { u.radio with activity := .gap, onAir := none } }) := by
      simp [Instr.effect, State.burstSent, sending]
    refine ⟨_, exec_of_effect hu effect, ?_⟩
    simp only [finish_radio, finish_plan, finish_cues, finish_clips, finish_pm, finish_roster, finish_timing]
    refine ⟨rfl, rfl, fun c hc => ?_, fun i hi => ?_, ?_, rfl, rfl, rfl, rfl⟩
    · exact bne_iff_ne.1 (List.mem_filter.1 hc).2
    · obtain ⟨o, -, rfl⟩ := List.mem_map.1 (List.mem_filter.1 hi).1
      exact fun still => bne_iff_ne.1 (List.mem_filter.1 still).2 rfl
    · have cleared := clearSent_foldl (u.plan.clears.filter (fun c => c.burst == b.position)) u.cues
      simp only [List.any_filter] at cleared
      rw [State.reportSent]
      dsimp only [State.setProgress, Composer.setProgress]
      rw [cleared, funext (PlacedItem.completedBy_eq b.position)]

end Sys2Proof.Machine

/-! What the position manager's moves do, said once: messages handed over, claims attempted, holdings lost (09). -/

namespace Sys2Proof.Machine

/-! ## Frame numbers (00, Time) -/

theorem dueBy_iff (f due : FrameNo) : dueBy f due = true ↔ (f - due).toNat < 2147483648 := by
  have same : due = f ↔ (f - due).toNat = 0 := by
    rw [← BitVec.toNat_inj, BitVec.toNat_sub]
    omega
  rw [dueBy, older, Bool.or_eq_true, beq_iff_eq, same, Bool.and_eq_true, decide_eq_true_eq, decide_eq_true_eq]
  omega

theorem isSecondTick_iff (f : FrameNo) : isSecondTick f = true ↔ f.toNat % 50 = 0 := beq_iff_eq

theorem claimDue_iff (f : FrameNo) (p : PositionManager) :
    claimDue f p = true ↔ ∃ c, p.claim = some c ∧ (f - (c.stamp + 13)).toNat < 2147483648 := by
  rw [claimDue]
  cases p.claim with
  | none => simp
  | some c => exact (dueBy_iff f (c.stamp + 13)).trans ⟨fun h => ⟨c, rfl, h⟩, fun ⟨_, same, h⟩ => Option.some.inj same ▸ h⟩

/-! ## Messages handed over (R116, R120) -/

theorem State.handOver_eq (b : WaitingBody) (s : State) :
    s.handOver b = { s with line := if s.joined then s.line.hand b else s.line } := by
  cases joined : s.joined with
  | true => exact if_pos joined
  | false => exact if_neg (Bool.eq_false_iff.1 joined)

/-! ## Claim attempts (R142, R143) -/

theorem State.mayClaim_iff (s : State) : s.mayClaim = true ↔
    s.loader.station = .joined ∧ (s.timing.state = .pace ∨ s.timing.state = .locked) ∧ s.pm.claim = none
      ∧ s.pm.claimRest = false ∧ s.pm.holdings.length + 1 ≤ s.cfg.maxHoldings ∧ s.pm.holdings.length < s.pm.demand := by
  simp [State.mayClaim, State.joined, and_assoc]

theorem State.claimAttempt_of_none {s : State} (h : ∀ p, s.isCandidate p = false) : s.claimAttempt = s := by
  have scan : s.scan = none := List.find?_eq_none.2 fun p _ => by simp [h p]
  unfold State.claimAttempt
  rw [scan]
  split <;> rfl

theorem State.claimAttempt_of_scan {s : State} {p : Position} (may : s.mayClaim = true) (h : s.scan = some p) :
    s.claimAttempt = s.issueClaim p := by
  rw [State.claimAttempt, if_pos may, h]

/-- The claim that an attempt leaves is the one it found, or one on a candidate. -/
theorem State.claimAttempt_claim (s : State) : s.claimAttempt.pm.claim = s.pm.claim
    ∨ ∃ p, s.isCandidate p = true ∧ s.claimAttempt.pm.claim = some { position := p, stamp := s.timing.boundaryFrame } := by
  unfold State.claimAttempt
  split
  · split
    · rename_i p scan
      exact .inr ⟨p, List.find?_some scan, by simp⟩
    · exact .inl rfl
  · exact .inl rfl

/-- The counts that a claim attempt leaves alone. -/
theorem State.claimAttempt_kept (s : State) : s.claimAttempt.pm.evictions = s.pm.evictions
    ∧ s.claimAttempt.pm.abandoned = s.pm.abandoned ∧ s.claimAttempt.pm.claimRest = s.pm.claimRest
    ∧ s.claimAttempt.pm.tickOwed = s.pm.tickOwed ∧ s.claimAttempt.pm.stepsTaken = s.pm.stepsTaken := by
  obtain h | ⟨p, h⟩ := s.claimAttempt_cases
  · rw [h]
    exact ⟨rfl, rfl, rfl, rfl, rfl⟩
  · rw [h, State.issueClaim_pm]
    exact ⟨rfl, rfl, rfl, rfl, rfl⟩

/-- A claim attempt writes the position manager and the line. -/
theorem State.claimAttempt_frame (s : State) :
    s.claimAttempt = { s with pm := s.claimAttempt.pm, line := s.claimAttempt.line } :=
  s.claimAttempt_content s.link s.cues s.clips s.roster

/-- An attempt does not read whether the steps of the boundary are done. -/
theorem State.claimAttempt_markSteps (s : State) : s.claimAttempt.markSteps = s.markSteps.claimAttempt := by
  rw [State.claimAttempt_eq, s.markSteps.claimAttempt_eq]
  change _ = Option.elim (if s.mayClaim then s.scan else none) _ _
  cases (if s.mayClaim then s.scan else none) with
  | none => rfl
  | some p =>
    simp only [Option.elim_some, State.issueClaim, State.handOver_eq]
    rfl

/-! ## The scan's order (R142) -/

theorem positionCode_lt_iff (p q : Position) : positionCode p < positionCode q ↔
    p.carrier < q.carrier ∨ p.carrier = q.carrier ∧ p.slot < q.slot := by
  simp only [positionCode, Fin.lt_def, Fin.ext_iff]
  omega

theorem mem_positionsOf (carriers : BitVec 8) (p : Position) :
    p ∈ positionsOf carriers ↔ carriers.getLsbD p.carrier.val = true := by
  simp only [positionsOf, List.mem_flatMap, List.mem_filter, List.mem_finRange, true_and, List.mem_map]
  constructor
  · rintro ⟨c, licensed, slot, rfl⟩
    exact licensed
  · exact fun licensed => ⟨p.carrier, licensed, p.slot, rfl⟩

theorem positionsOf_sorted (carriers : BitVec 8) :
    (positionsOf carriers).Pairwise (fun p q => positionCode p < positionCode q) := by
  have upward : (List.finRange 8).Pairwise (· < ·) := by decide
  refine List.pairwise_flatMap.2 ⟨fun c _ => ?_, ?_⟩
  · exact List.pairwise_map.2 (upward.imp fun {a b} h => (positionCode_lt_iff ⟨c, a⟩ ⟨c, b⟩).2 (.inr ⟨rfl, h⟩))
  · refine (upward.filter _).imp fun {a b} h p hp q hq => ?_
    obtain ⟨x, -, rfl⟩ := List.mem_map.1 hp
    obtain ⟨y, -, rfl⟩ := List.mem_map.1 hq
    exact (positionCode_lt_iff _ _).2 (.inl h)

/-- The licensed positions in order of position index are one list. -/
theorem eq_positionsOf {carriers : BitVec 8} {licensed : List Position}
    (members : ∀ p, p ∈ licensed ↔ carriers.getLsbD p.carrier.val = true)
    (sorted : licensed.Pairwise (fun p q => p.carrier < q.carrier ∨ p.carrier = q.carrier ∧ p.slot < q.slot)) :
    licensed = positionsOf carriers := by
  have sorted' : licensed.Pairwise (fun p q => positionCode p < positionCode q) :=
    sorted.imp fun h => (positionCode_lt_iff _ _).2 h
  have distinct {l : List Position} (h : l.Pairwise (fun p q => positionCode p < positionCode q)) : l.Nodup :=
    h.imp fun lt same => absurd (congrArg positionCode same) (Nat.ne_of_lt lt)
  have perm : licensed.Perm (positionsOf carriers) := (List.perm_ext_iff_of_nodup (distinct sorted')
    (distinct (positionsOf_sorted carriers))).2 fun p => (members p).trans (mem_positionsOf carriers p).symm
  exact perm.eq_of_pairwise (fun a b _ _ ab ba => absurd ab (Nat.lt_asymm ba)) sorted' (positionsOf_sorted carriers)

theorem two_le_cyclicDistance_iff (a b : Fin 8) :
    2 ≤ cyclicDistance a b ↔ 2 ≤ (a.val + 8 - b.val) % 8 ∧ (a.val + 8 - b.val) % 8 ≤ 6 := by
  unfold cyclicDistance
  dsimp only
  split <;> omega

theorem State.isCandidate_iff (s : State) (p : Position) : s.isCandidate p = true ↔
    s.cfg.carriers.getLsbD p.carrier.val = true ∧ occupied s.cfg s.peers p = false
      ∧ ∀ h ∈ s.pm.holdings, h.position ≠ p ∧ (h.position.carrier ≠ p.carrier →
          2 ≤ (p.slot.val + 8 - h.position.slot.val) % 8 ∧ (p.slot.val + 8 - h.position.slot.val) % 8 ≤ 6) := by
  have apart (h : Stamped) : spaced p h.position = true ↔ (h.position.carrier ≠ p.carrier →
      2 ≤ (p.slot.val + 8 - h.position.slot.val) % 8 ∧ (p.slot.val + 8 - h.position.slot.val) % 8 ≤ 6) := by
    rw [spaced, Bool.or_eq_true, beq_iff_eq, decide_eq_true_eq, two_le_cyclicDistance_iff, or_iff_not_imp_left, eq_comm]
  simp only [State.isCandidate, Bool.and_eq_true, List.all_eq_true, bne_iff_ne, apart, Bool.not_eq_true']
  tauto

/-! ## Holdings lost (R149 to R152) -/

/-- Steps 1 to 6 of R151: the holding, its burst, its RELEASE and the event. -/
theorem State.evictOnly_eq (h : Stamped) (s : State) : s.evictOnly h =
    { State.cancelBurst h.position { s with pm := settle s.joined { s.pm with
        holdings := s.pm.holdings.filter (fun o => o.position != h.position), evictions := bump s.pm.evictions } } with
      line := if s.joined then s.line.hand (.release h.position .evicted) else s.line
      link := s.link.raise .evicted } := by
  obtain ⟨w, hw⟩ : ∃ w, w = State.cancelBurst h.position (s.setPm { s.pm with
      holdings := s.pm.holdings.filter (fun o => o.position != h.position), evictions := bump s.pm.evictions }) := ⟨_, rfl⟩
  have kept : w.joined = s.joined ∧ w.line = s.line ∧ w.link = s.link := by
    rw [hw, State.joined]
    simp [State.joined]
  obtain ⟨joined, line, link⟩ := kept
  have eq : s.evictOnly h = (w.handOver (.release h.position .evicted)).raise .evicted := by rw [hw]; rfl
  rw [eq, State.handOver_eq, joined, line, State.raise]
  dsimp only
  rw [link, hw]
  rfl

theorem State.evictWhere_of_none {s : State} {asked : Stamped → Bool}
    (h : ∀ x ∈ s.pm.holdings, asked x = true → peerPrecedes s.cfg s.peers x = false) : s.evictWhere asked = s := by
  have none_ : s.pm.holdings.filter (fun x => asked x && peerPrecedes s.cfg s.peers x) = [] := by
    refine List.filter_eq_nil_iff.2 fun x hx lost => ?_
    obtain ⟨named, precedes⟩ := (Bool.and_eq_true _ _).mp lost
    rw [h x hx named] at precedes
    cases precedes
  rw [State.evictWhere, none_]
  rfl

/-- Where one position is asked about and held once, its holding is the one that can be evicted. -/
theorem State.evictWhere_of_held {s : State} {h : Stamped} {p : Position}
    (only : s.pm.holdings.filter (fun o => o.position == p) = [h]) (precedes : peerPrecedes s.cfg s.peers h = true) :
    s.evictWhere (fun o => o.position == p) = (s.evictOnly h).claimAttempt := by
  have one : s.pm.holdings.filter (fun x => x.position == p && peerPrecedes s.cfg s.peers x) = [h] := by
    have nested : s.pm.holdings.filter (fun x => x.position == p && peerPrecedes s.cfg s.peers x) =
        (s.pm.holdings.filter (fun o => o.position == p)).filter (peerPrecedes s.cfg s.peers) := by
      rw [List.filter_filter]
      exact List.filter_congr fun x _ => Bool.and_comm _ _
    rw [nested, only, List.filter_singleton, precedes]
    rfl
  rw [State.evictWhere, one]
  rfl

theorem filter_position_of_nodup {held : List Stamped} {h : Stamped} {p : Position} (distinct : (held.map (·.position)).Nodup)
    (hh : h ∈ held) (position : h.position = p) : held.filter (fun o => o.position == p) = [h] := by
  have same : ∀ x ∈ held, (x.position == p) = (x == h) := by
    intro x hx
    by_cases different : x = h
    · rw [different, position, beq_self_eq_true, beq_self_eq_true]
    · have other : x.position ≠ p := fun samePosition =>
        different (List.inj_on_of_nodup_map distinct hx hh (samePosition.trans position.symm))
      rw [beq_false_of_ne other, beq_false_of_ne different]
  rw [List.filter_congr same, List.filter_beq, List.count_eq_one_of_mem distinct.of_map hh]
  rfl

/-- The newest holding is one whose stamp has the least age (00, Time). -/
theorem newestHolding_spec {now : FrameNo} {held : List Stamped} {h : Stamped} (newest : newestHolding now held = some h) :
    h ∈ held ∧ ∀ k ∈ held, (now - h.stamp).toNat ≤ (now - k.stamp).toNat :=
  ⟨mem_of_firstBy newest, firstBy_least (rank := fun a : Stamped => age now a.stamp) (fun _ _ => rfl) newest⟩

end Sys2Proof.Machine

/-! The statements on a claim that enters the holdings and on the counts of the second ticks (R142 to R154, R156). -/

namespace Sys2Proof.Machine

section
variable {s : State} {c : Stamped}

/-- With demand and a pending claim the steps before the claim's entry change nothing. -/
theorem State.managerFirst_of_claim (f : FrameNo) (claim : s.pm.claim = some c) (demand : 0 < s.pm.demand) :
    s.managerFirst f = s := by
  have runs : holdDownRuns s.joined s.pm = false := by simp [holdDownRuns, claim]
  rw [State.managerFirst, State.releaseAtZero, if_neg (by simpa using Nat.ne_of_gt demand), State.holdDownTick, runs,
    Bool.and_false]
  rfl

/-- Step 4 is an attempt with the claim rest cleared, where something is held. -/
theorem State.tickAttempt_of_held (held : s.pm.holdings ≠ []) :
    s.tickAttempt = State.claimAttempt { s with pm := { s.pm with claimRest := false } } := by
  have runs : starvationRuns s.joined s.pm = false := by simp [starvationRuns, held]
  rw [State.tickAttempt, runs]
  rfl

/-- The attempt behind the entry: with the tick, or without it. -/
def State.attemptWith (tick : Bool) (s : State) : State := if tick then s.tickAttempt else s.claimAttempt

theorem State.attemptWith_of_held (tick : Bool) (held : s.pm.holdings ≠ []) :
    s.attemptWith tick = State.claimAttempt { s with pm := { s.pm with claimRest := s.pm.claimRest && !tick } } := by
  cases tick with
  | true => simpa [State.attemptWith] using State.tickAttempt_of_held held
  | false => simp [State.attemptWith]

/-- The entry at a boundary in hand, taken before or after its FRAME_BOUNDARY (log 6). -/
theorem State.claimWindowEnd_of_due (joined : s.joined = true) (inBoundary : s.timing.inBoundary = true)
    (claim : s.pm.claim = some c) (due : claimDue s.timing.boundaryFrame s.pm = true) (demand : 0 < s.pm.demand) :
    s.claimWindowEnd = if s.timing.atBoundary && !s.pm.stepsTaken then
        (s.enterClaim.attemptWith (isSecondTick s.timing.boundaryFrame)).markSteps
      else (State.enterClaim { s with pm := { s.pm with tickOwed := false } }).attemptWith s.pm.tickOwed := by
  rw [State.claimWindowEnd]
  simp only [joined, inBoundary, due, Bool.and_self, if_true, State.managerFirst_of_claim _ claim demand]
  rfl

theorem State.claimWindowEnd_of_not_due
    (h : s.joined = false ∨ s.timing.inBoundary = false ∨ claimDue s.timing.boundaryFrame s.pm = false) :
    s.claimWindowEnd = s := by
  refine if_neg ?_
  obtain h | h | h := h
  all_goals simp [h]

theorem State.enterClaim_of_claim (claim : s.pm.claim = some c) : s.enterClaim =
    State.evictWhere (fun h => h.position == c.position)
      (s.setPm { s.pm with holdings := s.pm.holdings ++ [c], claim := none }) := by
  rw [State.enterClaim, claim]

/-- The position manager as the claim has entered its holdings. -/
def PositionManager.entered (c : Stamped) (p : PositionManager) : PositionManager := { p with
  holdings := p.holdings ++ [c], claim := none, starvation := 0, starved := false
  holdDown := if p.demand < p.holdings.length + 1 then p.holdDown else 0 }

theorem settle_entered {joined : Bool} {p : PositionManager} (hj : joined = true) (demand : 0 < p.demand) :
    settle joined { p with holdings := p.holdings ++ [c], claim := none } = p.entered c := by
  rw [settle_eq, PositionManager.entered]
  simp [hj, demand]

theorem settle_claimed {joined : Bool} {p : PositionManager} (hj : joined = true) (demand : 0 < p.demand) :
    settle joined { p with claim := some c } = { p with
      claim := some c, holdDown := 0, starvation := if p.holdings = [] then p.starvation else 0
      starved := p.starved && p.holdings.isEmpty } := by
  rw [settle_eq]
  simp [hj, demand]

theorem filter_entered {held : List Stamped} (fresh : ∀ h ∈ held, h.position ≠ c.position) :
    (held ++ [c]).filter (fun o => o.position == c.position) = [c]
      ∧ (held ++ [c]).filter (fun o => o.position != c.position) = held := by
  constructor
  · rw [List.filter_append, List.filter_eq_nil_iff.2 fun h hh => by simpa using fresh h hh]
    simp
  · rw [List.filter_append, List.filter_eq_self.2 fun h hh => bne_iff_ne.2 (fresh h hh)]
    simp

/-- Nobody has precedence over the position: the claim is a holding now. -/
theorem State.enterClaim_of_free (joined : s.joined = true) (claim : s.pm.claim = some c) (demand : 0 < s.pm.demand)
    (fresh : ∀ h ∈ s.pm.holdings, h.position ≠ c.position) (free : peerPrecedes s.cfg s.peers c = false) :
    s.enterClaim = { s with pm := s.pm.entered c } := by
  have settled : s.setPm { s.pm with holdings := s.pm.holdings ++ [c], claim := none } = { s with pm := s.pm.entered c } := by
    rw [State.setPm, settle_entered joined demand]
  rw [State.enterClaim_of_claim claim, settled]
  refine State.evictWhere_of_none fun x hx named => ?_
  obtain old | new := List.mem_append.1 hx
  · exact absurd (beq_iff_eq.1 named) (fresh x old)
  · rw [List.mem_singleton.1 new]
    exact free

/-- A peer has precedence over the position: the new holding is evicted at once. -/
theorem State.enterClaim_of_preceded (joined : s.joined = true) (claim : s.pm.claim = some c) (demand : 0 < s.pm.demand)
    (fresh : ∀ h ∈ s.pm.holdings, h.position ≠ c.position) (preceded : peerPrecedes s.cfg s.peers c = true) :
    s.enterClaim = (State.evictOnly c { s with pm := s.pm.entered c }).claimAttempt := by
  have settled : s.setPm { s.pm with holdings := s.pm.holdings ++ [c], claim := none } = { s with pm := s.pm.entered c } := by
    rw [State.setPm, settle_entered joined demand]
  rw [State.enterClaim_of_claim claim, settled]
  exact State.evictWhere_of_held (filter_entered fresh).1 preceded

/-- What an attempt, with the tick or without it, keeps. -/
theorem State.attemptWith_kept (tick : Bool) (s : State) : (s.attemptWith tick).pm.holdings = s.pm.holdings
    ∧ (s.attemptWith tick).pm.evictions = s.pm.evictions ∧ (s.attemptWith tick).pm.abandoned = s.pm.abandoned
    ∧ (s.attemptWith tick).link = s.link ∧ (s.attemptWith tick).peers = s.peers ∧ (s.attemptWith tick).cues = s.cues
    ∧ (s.attemptWith tick).clips = s.clips := by
  have attempt (s : State) : s.claimAttempt.pm.holdings = s.pm.holdings ∧ s.claimAttempt.pm.evictions = s.pm.evictions
      ∧ s.claimAttempt.pm.abandoned = s.pm.abandoned ∧ s.claimAttempt.link = s.link ∧ s.claimAttempt.peers = s.peers
      ∧ s.claimAttempt.cues = s.cues ∧ s.claimAttempt.clips = s.clips := by
    obtain ⟨evictions, abandoned, -⟩ := s.claimAttempt_kept
    exact ⟨by simp, evictions, abandoned, by simp, by simp, by simp, by simp⟩
  cases tick with
  | true => exact attempt { s with pm := _ }
  | false => exact attempt s

/-- What becomes of a claim that a peer precedes: no holding, one eviction. -/
theorem State.enterClaim_preceded_kept (joined : s.joined = true) (claim : s.pm.claim = some c) (demand : 0 < s.pm.demand)
    (fresh : ∀ h ∈ s.pm.holdings, h.position ≠ c.position) (preceded : peerPrecedes s.cfg s.peers c = true) :
    s.enterClaim.pm.holdings = s.pm.holdings ∧ s.enterClaim.pm.evictions = bump s.pm.evictions
      ∧ s.enterClaim.pm.abandoned = s.pm.abandoned ∧ s.enterClaim.link.has .evicted = true ∧ s.enterClaim.peers = s.peers
      ∧ s.enterClaim.cues = s.cues ∧ s.enterClaim.clips = s.clips := by
  have kept := State.attemptWith_kept false (State.evictOnly c { s with pm := s.pm.entered c })
  rw [State.enterClaim_of_preceded joined claim demand fresh preceded]
  obtain ⟨holdings, evictions, abandoned, link, peers, cues, clips⟩ := kept
  have pm : (State.evictOnly c { s with pm := s.pm.entered c }).pm = settle s.joined { s.pm.entered c with
      holdings := (s.pm.holdings ++ [c]).filter (fun o => o.position != c.position), evictions := bump s.pm.evictions } := by
    rw [State.evictOnly_eq]
    exact State.cancelBurst_pm _ _
  rw [pm] at holdings evictions abandoned
  refine ⟨holdings.trans (filter_entered fresh).2, evictions, abandoned, ?_, peers.trans (State.evictOnly_peers _ _),
    cues.trans (State.evictOnly_cues _ _), clips.trans (State.evictOnly_clips _ _)⟩
  refine (congrArg (ShowLink.has · .evicted) link).trans ?_
  rw [State.evictOnly_eq, ShowLink.has_raise]
  simp

/-- Counts that stand at zero stay there. -/
theorem State.claimAttempt_fed (starvation : s.pm.starvation = 0) (starved : s.pm.starved = false) :
    s.claimAttempt.pm.starvation = 0 ∧ s.claimAttempt.pm.starved = false := by
  obtain h | ⟨p, h⟩ := s.claimAttempt_cases
  · rw [h]
    exact ⟨starvation, starved⟩
  · rw [h, State.issueClaim_pm]
    simp [settle, starvation, starved]

/-- The position manager once a claim has entered at the boundary in hand, before the attempt behind it. -/
def PositionManager.enteredAt (early tick : Bool) (c : Stamped) (p : PositionManager) : PositionManager := { p.entered c with
  claimRest := p.claimRest && !tick, tickOwed := p.tickOwed && early, stepsTaken := p.stepsTaken || early }

theorem State.claimWindowEnd_of_free (joined : s.joined = true) (inBoundary : s.timing.inBoundary = true)
    (claim : s.pm.claim = some c) (due : claimDue s.timing.boundaryFrame s.pm = true) (demand : 0 < s.pm.demand)
    (fresh : ∀ h ∈ s.pm.holdings, h.position ≠ c.position) (free : peerPrecedes s.cfg s.peers c = false) {early tick : Bool}
    (hearly : early = (s.timing.atBoundary && !s.pm.stepsTaken))
    (htick : tick = if early then isSecondTick s.timing.boundaryFrame else s.pm.tickOwed) :
    s.claimWindowEnd = State.claimAttempt { s with pm := s.pm.enteredAt early tick c } := by
  rw [htick, State.claimWindowEnd_of_due joined inBoundary claim due demand, ← hearly]
  cases early with
  | true =>
    have both := hearly.symm
    rw [Bool.and_eq_true, Bool.not_eq_true'] at both
    rw [if_pos rfl, if_pos rfl, State.enterClaim_of_free joined claim demand fresh free,
      State.attemptWith_of_held _ (by simp [PositionManager.entered]), State.claimAttempt_markSteps]
    simp [State.markSteps, PositionManager.enteredAt, PositionManager.entered]
  | false =>
    have entry := State.enterClaim_of_free (s := { s with pm := { s.pm with tickOwed := false } }) joined claim demand fresh free
    rw [if_neg (by decide), entry, State.attemptWith_of_held _ (by simp [PositionManager.entered])]
    simp [PositionManager.enteredAt, PositionManager.entered]

end

/-- Settles O22: the entry is `State.claimWindowEnd_of_due`, with nobody before the station or with a peer before it; the attempt
follows the scan. -/
theorem claimEntersTheHoldings : Obligations.ClaimEntersTheHoldings := by
  refine ⟨fun dt s u c hu joined inBoundary claim due demand fresh => ?entry, claimDue_iff, fun dt s u hu early =>
    exec_of_effect hu (State.claimWindowEnd_of_not_due early), fun s may candidate licensed scanned hmay hcandidate members
      sorted order => ?attempt⟩
  case entry =>
    refine ⟨fun free => ?_, fun free early v hearly hv => ?_, fun preceded => ?_⟩
    · obtain ⟨early, hearly⟩ : ∃ early, early = (u.timing.atBoundary && !u.pm.stepsTaken) := ⟨_, rfl⟩
      obtain ⟨tick, htick⟩ : ∃ tick, tick = if early then isSecondTick u.timing.boundaryFrame else u.pm.tickOwed := ⟨_, rfl⟩
      obtain ⟨v, hv⟩ : ∃ v : State, v = { u with pm := u.pm.enteredAt early tick c } := ⟨_, rfl⟩
      have effect : Instr.effect (.claimWindowEnd dt) u = v.claimAttempt := by
        rw [hv]
        exact State.claimWindowEnd_of_free joined inBoundary claim due demand fresh free hearly htick
      have pm : v.pm = u.pm.enteredAt early tick c := by rw [hv]
      obtain ⟨evictions, abandoned, -⟩ := v.claimAttempt_kept
      obtain ⟨starvation, starved⟩ := v.claimAttempt_fed (by rw [pm]; rfl) (by rw [pm]; rfl)
      refine ⟨v.claimAttempt.pm, v.claimAttempt.line, ?_, ?_, fun same => ?_, starvation, starved, ?_, ?_, ?_⟩
      · rw [exec_of_effect hu effect, State.claimAttempt_frame, hv]
      · rw [State.claimAttempt_holdings, pm]
        rfl
      · obtain none_ | ⟨p, candidate, claimed⟩ := v.claimAttempt_claim
        · rw [pm] at none_
          cases none_.symm.trans same
        · obtain rfl := Option.some.inj (claimed.symm.trans same)
          obtain ⟨-, -, apart⟩ := (v.isCandidate_iff p).1 candidate
          refine (apart { position := p, stamp := v.timing.boundaryFrame } ?_).1 rfl
          rw [pm]
          exact List.mem_append_right _ (List.mem_singleton.2 rfl)
      · rw [State.claimAttempt_demand, pm]
        rfl
      · rw [evictions, pm]
        rfl
      · rw [abandoned, pm]
        rfl
    · have effect : Instr.effect (.claimWindowEnd dt) u = _ :=
        State.claimWindowEnd_of_free joined inBoundary claim due demand fresh free hearly rfl
      rw [exec_of_effect hu effect, hv]
      rfl
    · have effect : Instr.effect (.claimWindowEnd dt) u = _ := State.claimWindowEnd_of_due joined inBoundary claim due demand
      refine ⟨_, exec_of_effect hu effect, ?_⟩
      simp only [finish_pm, finish_has, finish_peers, finish_cues, finish_clips]
      split
      · obtain ⟨holdings, evictions, abandoned, event, peers, cues, clips⟩ :=
          State.enterClaim_preceded_kept joined claim demand fresh preceded
        obtain ⟨holdings', evictions', abandoned', link', peers', cues', clips'⟩ :=
          u.enterClaim.attemptWith_kept (isSecondTick u.timing.boundaryFrame)
        exact ⟨holdings'.trans holdings, evictions'.trans evictions, abandoned'.trans abandoned,
          (congrArg (ShowLink.has · .evicted) link').trans event, peers'.trans peers, cues'.trans cues, clips'.trans clips⟩
      · obtain ⟨holdings, evictions, abandoned, event, peers, cues, clips⟩ := State.enterClaim_preceded_kept
          (s := { u with pm := { u.pm with tickOwed := false } }) joined claim demand fresh preceded
        obtain ⟨holdings', evictions', abandoned', link', peers', cues', clips'⟩ :=
          (State.enterClaim { u with pm := { u.pm with tickOwed := false } }).attemptWith_kept u.pm.tickOwed
        exact ⟨holdings'.trans holdings, evictions'.trans evictions, abandoned'.trans abandoned,
          (congrArg (ShowLink.has · .evicted) link').trans event, peers'.trans peers, cues'.trans cues, clips'.trans clips⟩
  case attempt =>
    have may_ : may ↔ s.mayClaim = true := hmay.trans s.mayClaim_iff.symm
    have candidate_ (p : Position) : candidate p ↔ s.isCandidate p = true := (hcandidate p).trans (s.isCandidate_iff p).symm
    have scan : scanned = scanOrder s.cfg := by
      rw [order, eq_positionsOf members sorted]
      rfl
    refine ⟨fun h => State.claimAttempt_of_not_mayClaim (Bool.eq_false_iff.2 (mt may_.2 h)),
      fun h => State.claimAttempt_of_none fun p => Bool.eq_false_iff.2 (mt (candidate_ p).2 (h p)),
      fun before p after hm split hp first => ?_⟩
    have found : s.scan = some p := by
      rw [State.scan, ← scan, List.find?_eq_some_iff_append]
      refine ⟨(candidate_ p).1 hp, before, after, split, fun q hq => ?_⟩
      rw [Bool.not_eq_true', Bool.eq_false_iff]
      exact mt (candidate_ q).2 (first q hq)
    obtain ⟨joined, -, -, -, -, short⟩ := hmay.1 hm
    have joined' : s.joined = true := beq_iff_eq.2 joined
    rw [State.claimAttempt_of_scan (may_.1 hm) found, State.issueClaim, State.handOver_eq, State.setPm,
      settle_claimed joined' (by omega)]
    exact congrArg (fun line : HouseLine => { s with
      pm := { s.pm with
        claim := some { position := p, stamp := s.timing.boundaryFrame }, holdDown := 0, starvation := if s.pm.holdings = [] then s.pm.starvation else 0, starved := s.pm.starved && s.pm.holdings.isEmpty }
      line := line }) (if_pos joined')

end Sys2Proof.Machine

/-! The statement on the counts of the second ticks, and the position manager's part of a boundary (R152 to R156). -/

namespace Sys2Proof.Machine

/-! ## What the position manager reads -/

/-- Two states in which the position manager and its surroundings are the same. -/
structure ManagerSame (a b : State) : Prop where
  loader : a.loader = b.loader
  timing : a.timing = b.timing
  peers : a.peers = b.peers
  pm : a.pm = b.pm
  line : a.line = b.line

namespace ManagerSame

variable {a b : State}

theorem refl (a : State) : ManagerSame a a := ⟨rfl, rfl, rfl, rfl, rfl⟩

theorem joined (h : ManagerSame a b) : a.joined = b.joined := congrArg (fun l : Loader => l.station == .joined) h.loader

theorem setPm (h : ManagerSame a b) {p q : PositionManager} (same : p = q) : ManagerSame { a with pm := p } { b with pm := q } :=
  ⟨h.loader, h.timing, h.peers, same, h.line⟩

theorem handOver (h : ManagerSame a b) (body : WaitingBody) : ManagerSame (a.handOver body) (b.handOver body) := by
  refine ⟨by simpa using h.loader, by simpa using h.timing, by simpa using h.peers, by simpa using h.pm, ?_⟩
  rw [State.handOver_eq, State.handOver_eq, h.joined, h.line]

theorem settled (h : ManagerSame a b) {p q : PositionManager} (same : p = q) : ManagerSame (a.setPm p) (b.setPm q) :=
  h.setPm (by rw [h.joined, same])

theorem releaseHolding (h : ManagerSame a b) (x : Stamped) : ManagerSame (a.releaseHolding x) (b.releaseHolding x) :=
  (h.settled (by rw [h.pm])).handOver _

theorem claimAttempt (h : ManagerSame a b) : ManagerSame a.claimAttempt b.claimAttempt := by
  have may : a.mayClaim = b.mayClaim := by
    rw [State.mayClaim, State.mayClaim, h.joined, h.timing, h.pm, State.cfg, State.cfg, h.loader]
  have scan : a.scan = b.scan := by
    have candidate : a.isCandidate = b.isCandidate := by
      funext p
      rw [State.isCandidate, State.isCandidate, h.pm, h.peers, State.cfg, State.cfg, h.loader]
    rw [State.scan, State.scan, candidate, State.cfg, State.cfg, h.loader]
  rw [State.claimAttempt_eq, State.claimAttempt_eq, may, scan]
  cases (if b.mayClaim then b.scan else none) with
  | none => exact h
  | some p =>
    rw [Option.elim_some, Option.elim_some, State.issueClaim, State.issueClaim, h.timing]
    exact (h.settled (by rw [h.pm])).handOver _

theorem releaseAtZero (h : ManagerSame a b) : ManagerSame a.releaseAtZero b.releaseAtZero := by
  unfold State.releaseAtZero
  rw [h.pm]
  split
  · rename_i zero
    clear zero
    generalize byIndex b.pm.holdings = held
    induction held generalizing a b with
    | nil => exact h
    | cons x xs ih => exact ih (h.releaseHolding x)
  · exact h

theorem holdDownTick (h : ManagerSame a b) (f : FrameNo) : ManagerSame (a.holdDownTick f) (b.holdDownTick f) := by
  unfold State.holdDownTick
  rw [h.joined, h.pm]
  split
  · exact h.setPm rfl
  · exact h

theorem tickAttempt (h : ManagerSame a b) : ManagerSame a.tickAttempt b.tickAttempt := by
  unfold State.tickAttempt
  rw [h.joined, h.pm]
  exact (h.setPm rfl).claimAttempt

theorem managerBoundary (h : ManagerSame a b) (f : FrameNo) : ManagerSame (a.managerBoundary f) (b.managerBoundary f) := by
  have first : ManagerSame (State.holdDownTick f (State.releaseAtZero { a with pm := { a.pm with tickOwed := false } }))
      (State.holdDownTick f (State.releaseAtZero { b with pm := { b.pm with tickOwed := false } })) :=
    ((h.setPm (by rw [h.pm])).releaseAtZero).holdDownTick f
  unfold State.managerBoundary
  dsimp only
  rw [h.pm] at first ⊢
  split
  · exact h.setPm rfl
  · rw [first.pm]
    split
    · exact first.setPm rfl
    · split
      · exact first.tickAttempt
      · exact first

theorem compose (a : State) : ManagerSame a.compose a := ⟨by simp, by simp, by simp, by simp, by simp⟩

theorem silence (a : State) : ManagerSame a.silence a := ⟨rfl, rfl, rfl, rfl, rfl⟩

theorem ticked (a : State) : ManagerSame a.ticked a := by
  unfold State.ticked
  split <;> exact ⟨rfl, rfl, rfl, rfl, rfl⟩

theorem trans {c : State} (h : ManagerSame a b) (k : ManagerSame b c) : ManagerSame a c :=
  ⟨h.loader.trans k.loader, h.timing.trans k.timing, h.peers.trans k.peers, h.pm.trans k.pm, h.line.trans k.line⟩

/-- The boundary's work as the position manager sees it: the scheduled ANNOUNCE and its own steps, whichever comes first of
them and the composition. -/
theorem boundaryWork {s : State} (r silent : Bool) (joined : s.joined = true) :
    ManagerSame (s.boundaryWork r silent) (s.scheduleAnnounce.managerBoundary s.timing.frameNumber) := by
  have announced : ManagerSame s.ticked.scheduleAnnounce s.scheduleAnnounce := by
    have same := ManagerSame.ticked s
    unfold State.scheduleAnnounce
    rw [State.cfg, same.loader, same.timing]
    change ManagerSame (if announceDue s.cfg.number s.timing.frameNumber then _ else _) _
    split
    · exact same.handOver _
    · exact same
  have composed (t : State) : ManagerSame (if silent then t.silence else t.compose) t := by
    split
    · exact silence t
    · exact compose t
  rw [State.boundaryWork_of_joined r silent joined]
  split
  · exact (composed _).trans (announced.managerBoundary _)
  · exact ((composed _).trans announced).managerBoundary _

end ManagerSame

end Sys2Proof.Machine

/-! The counts of the second ticks run out. -/

namespace Sys2Proof.Machine

section
variable {s : State}

theorem State.releaseHolding_eq (joined : s.joined = true) (h : Stamped) : s.releaseHolding h =
    { s with
      pm := settle true { s.pm with holdings := s.pm.holdings.filter (fun o => o.position != h.position) }
      line := s.line.hand (.release h.position .demand) } := by
  rw [State.releaseHolding, State.handOver_eq, State.setPm, joined]
  exact congrArg (fun line : HouseLine => { s with
    pm := settle true { s.pm with holdings := s.pm.holdings.filter (fun o => o.position != h.position) }, line := line })
    (if_pos joined)

/-- Holdings released one after another: their messages go out in that order, and nothing in their positions is left. -/
theorem State.foldl_releaseHolding (joined : s.joined = true) (l : List Stamped) :
    (l.foldl (fun s h => s.releaseHolding h) s).line = l.foldl (fun line h => line.hand (.release h.position .demand)) s.line
      ∧ (l.foldl (fun s h => s.releaseHolding h) s).pm.claim = s.pm.claim
      ∧ (l.foldl (fun s h => s.releaseHolding h) s).pm.demand = s.pm.demand
      ∧ (l.foldl (fun s h => s.releaseHolding h) s).pm.holdings ⊆ s.pm.holdings
      ∧ ∀ o ∈ (l.foldl (fun s h => s.releaseHolding h) s).pm.holdings, ∀ h ∈ l, o.position ≠ h.position := by
  induction l generalizing s with
  | nil => exact ⟨rfl, rfl, rfl, fun _ h => h, fun _ _ _ h => nomatch h⟩
  | cons x xs ih =>
    have joined' : (s.releaseHolding x).joined = true := by
      rw [State.releaseHolding_eq joined]
      exact joined
    obtain ⟨line, claim, demand, left, gone⟩ := ih joined'
    rw [List.foldl_cons]
    refine ⟨line.trans ?_, claim.trans ?_, demand.trans ?_, fun o ho => ?_, fun o ho h hh => ?_⟩
    · rw [State.releaseHolding_eq joined]
      rfl
    · rw [State.releaseHolding_eq joined]
      rfl
    · rw [State.releaseHolding_eq joined]
      rfl
    · have kept := left ho
      rw [State.releaseHolding_eq joined] at kept
      exact List.mem_of_mem_filter kept
    · obtain rfl | hh := List.mem_cons.1 hh
      · have kept := left ho
        rw [State.releaseHolding_eq joined] at kept
        exact bne_iff_ne.1 (List.mem_filter.1 kept).2
      · exact gone o ho h hh

/-- Holdings in strictly ascending position index are the list that the position manager goes through. -/
theorem byIndex_eq {rising held : List Stamped} (perm : rising.Perm held)
    (sorted : rising.Pairwise (fun a b => a.position.carrier < b.position.carrier
      ∨ a.position.carrier = b.position.carrier ∧ a.position.slot < b.position.slot)) : byIndex held = rising := by
  have ascending : rising.Pairwise (fun a b => positionCode a.position < positionCode b.position) :=
    sorted.imp fun h => (positionCode_lt_iff _ _).2 h
  have distinct : (held.map (fun h => positionCode h.position)).Nodup :=
    (perm.map _).nodup_iff.1 (List.pairwise_map.2 (ascending.imp Nat.ne_of_lt))
  exact ((sortBy_perm _ held).trans perm.symm).eq_of_pairwise (fun a b _ _ ab ba => absurd ab (Nat.lt_asymm ba))
    (sortBy_pairwise_lt (fun h : Stamped => positionCode h.position) held distinct) ascending

theorem State.mayClaim_of_sated (h : s.pm.demand ≤ s.pm.holdings.length) : s.mayClaim = false := by
  rw [Bool.eq_false_iff]
  intro may
  obtain ⟨-, -, -, -, -, short⟩ := s.mayClaim_iff.1 may
  omega

theorem State.tickAttempt_pm_of_sated (h : s.pm.demand ≤ s.pm.holdings.length) : s.tickAttempt = { s with pm := { s.pm with
    starvation := if starvationRuns s.joined s.pm then min 10 (s.pm.starvation + 1) else s.pm.starvation
    claimRest := false } } := by
  rw [State.tickAttempt]
  exact State.claimAttempt_of_not_mayClaim (State.mayClaim_of_sated h)

/-- At demand 0 the steps of a boundary release everything, in ascending position index (R153). -/
theorem State.managerBoundary_of_zero (f : FrameNo) (joined : s.joined = true) (steps : s.pm.stepsTaken = false)
    (zero : s.pm.demand = 0) : (s.managerBoundary f).pm.holdings = [] ∧ (s.managerBoundary f).pm.claim = s.pm.claim
      ∧ (s.managerBoundary f).line =
        (byIndex s.pm.holdings).foldl (fun line h => line.hand (.release h.position .demand)) s.line := by
  obtain ⟨v, hv⟩ : ∃ v, v = (byIndex s.pm.holdings).foldl (fun s h => s.releaseHolding h)
    ({ s with pm := { s.pm with tickOwed := false } } : State) := ⟨_, rfl⟩
  obtain ⟨line, claim, demand, left, gone⟩ :=
    State.foldl_releaseHolding (s := { s with pm := { s.pm with tickOwed := false } }) joined (byIndex s.pm.holdings)
  rw [← hv] at line claim demand left gone
  have empty : v.pm.holdings = [] := by
    refine List.eq_nil_iff_forall_not_mem.2 fun o ho => gone o ho o ?_ rfl
    exact (mem_sortBy _ _ _).2 (left ho)
  have released : State.releaseAtZero { s with pm := { s.pm with tickOwed := false } } = v := by
    rw [hv, State.releaseAtZero]
    exact if_pos (beq_iff_eq.2 zero)
  have quiet : holdDownRuns v.joined v.pm = false := by simp [holdDownRuns, empty]
  have ticked : v.holdDownTick f = v := by
    rw [State.holdDownTick, quiet, Bool.and_false]
    rfl
  have sated : v.pm.demand ≤ v.pm.holdings.length := by
    rw [demand]
    exact zero.le.trans (Nat.zero_le _)
  have work : s.managerBoundary f = if claimDue f v.pm then { v with pm := { v.pm with tickOwed := isSecondTick f } }
      else if isSecondTick f then v.tickAttempt else v := by
    rw [State.managerBoundary, steps]
    simp only [Bool.false_eq_true, if_false, released, ticked]
  rw [work]
  split
  · exact ⟨empty, claim, line⟩
  · split
    · rw [State.tickAttempt_pm_of_sated sated]
      exact ⟨empty, claim, line⟩
    · exact ⟨empty, claim, line⟩

/-- With demand the steps are the tick of the hold-down and step 4, or the debt of it. -/
theorem State.managerBoundary_of_demand (f : FrameNo) (steps : s.pm.stepsTaken = false) (demand : 0 < s.pm.demand) :
    s.managerBoundary f =
      if claimDue f s.pm then { s with pm := { s.pm with tickOwed := isSecondTick f } }
      else if isSecondTick f then State.tickAttempt { s with pm := { s.pm with
        tickOwed := false, holdDown := if holdDownRuns s.joined s.pm then min 5 (s.pm.holdDown + 1) else s.pm.holdDown } }
      else { s with pm := { s.pm with tickOwed := false } } := by
  have released : State.releaseAtZero { s with pm := { s.pm with tickOwed := false } } =
      { s with pm := { s.pm with tickOwed := false } } := if_neg (mt beq_iff_eq.1 (Nat.ne_of_gt demand))
  obtain ⟨v, hv⟩ : ∃ v, v = State.holdDownTick f { s with pm := { s.pm with tickOwed := false } } := ⟨_, rfl⟩
  have due : claimDue f v.pm = claimDue f s.pm := by
    have claim : v.pm.claim = s.pm.claim := by
      rw [hv, State.holdDownTick]
      split <;> rfl
    rw [claimDue, claimDue, claim]
  have work : s.managerBoundary f = if claimDue f s.pm then { v with pm := { v.pm with tickOwed := isSecondTick f } }
      else if isSecondTick f then v.tickAttempt else v := by
    rw [State.managerBoundary, steps]
    simp only [Bool.false_eq_true, if_false, released, ← hv, due]
  have ticks : holdDownRuns ({ s with pm := { s.pm with tickOwed := false } } : State).joined
      { s.pm with tickOwed := false } = holdDownRuns s.joined s.pm := rfl
  rw [work, hv, State.holdDownTick, ticks]
  cases tick : isSecondTick f with
  | false => rfl
  | true =>
    cases runs : holdDownRuns s.joined s.pm with
    | false => rfl
    | true =>
      have pending : claimDue f s.pm = false := by
        simp only [holdDownRuns, Bool.and_eq_true, Option.isNone_iff_eq_none] at runs
        rw [claimDue, runs.2]
      rw [pending]
      rfl

end

end Sys2Proof.Machine

/-! Settling the statement on the counts of the second ticks. -/

namespace Sys2Proof.Machine

/-! ## The hold-down and starvation conditions (R152, R154) -/

theorem holdDownRuns_iff (joined : Bool) (p : PositionManager) : holdDownRuns joined p = true ↔
    joined = true ∧ 0 < p.demand ∧ p.demand < p.holdings.length ∧ p.claim = none := by
  simp [holdDownRuns, and_assoc]

theorem starvationRuns_iff (joined : Bool) (p : PositionManager) : starvationRuns joined p = true ↔
    joined = true ∧ 0 < p.demand ∧ p.holdings = [] := by
  simp [starvationRuns, and_assoc]

theorem newestHolding_eq_none_iff (now : FrameNo) (held : List Stamped) : newestHolding now held = none ↔ held = [] := by
  have some_ := isSome_firstBy (fun a b : Stamped => age now a.stamp < age now b.stamp) held
  rw [newestHolding, ← Option.not_isSome_iff_eq_none, some_]
  simp

section
variable {s : State} {h : Stamped}

theorem State.holdDownRelease_of_five (inBoundary : s.timing.inBoundary = true) (runs : holdDownRuns s.joined s.pm = true)
    (five : s.pm.holdDown = 5) : s.holdDownRelease = s.releaseNewest := by
  simp [State.holdDownRelease, inBoundary, runs, five]

theorem State.holdDownRelease_of_four (inBoundary : s.timing.inBoundary = true) (runs : holdDownRuns s.joined s.pm = true)
    (four : s.pm.holdDown = 4) (atBoundary : s.timing.atBoundary = true) (steps : s.pm.stepsTaken = false)
    (tick : isSecondTick s.timing.boundaryFrame = true) : s.holdDownRelease = s.releaseNewest.tickAttempt.markSteps := by
  simp [State.holdDownRelease, inBoundary, runs, four, atBoundary, steps, tick]

theorem State.holdDownRelease_of_early (h : holdDownRuns s.joined s.pm = false ∨ s.pm.holdDown ≠ 5
    ∧ (s.pm.holdDown ≠ 4 ∨ s.timing.atBoundary = false ∨ s.pm.stepsTaken = true
      ∨ isSecondTick s.timing.boundaryFrame = false)) : s.holdDownRelease = s := by
  unfold State.holdDownRelease
  dsimp only
  split
  · rename_i due
    rw [Bool.and_eq_true] at due
    obtain silent | ⟨notFive, notYet⟩ := h
    · rw [silent] at due
      cases due.2
    · rw [if_neg (mt beq_iff_eq.1 notFive), if_neg]
      obtain other | later | done | noTick := notYet
      · simp [other]
      · simp [later]
      · simp [done]
      · simp [noTick]
  · rfl

theorem State.releaseNewest_of_some (joined : s.joined = true)
    (newest : newestHolding s.timing.frameNumber s.pm.holdings = some h) : s.releaseNewest = { s with
      pm := settle true { s.pm with holdDown := 0, holdings := s.pm.holdings.filter (fun o => o.position != h.position) }
      line := s.line.hand (.release h.position .demand) } := by
  rw [State.releaseNewest, newest]
  exact State.releaseHolding_eq (s := { s with pm := { s.pm with holdDown := 0 } }) joined h

/-- One of some holdings in positions that all differ leaves the others. -/
theorem length_filter_position {held : List Stamped} (distinct : (held.map (·.position)).Nodup) (hh : h ∈ held) :
    (held.filter (fun o => o.position != h.position)).length + 1 = held.length := by
  have split := List.length_eq_length_filter_add (l := held) (fun o => o.position != h.position)
  have only : held.filter (fun o => !(o.position != h.position)) = [h] := by
    simpa only [bne, Bool.not_not] using filter_position_of_nodup distinct hh rfl
  rw [only] at split
  exact split.symm

end

/-- Settles O23: the release and the event are the steps' own equations, and a boundary's counts follow
`State.managerBoundary_of_zero` and `State.managerBoundary_of_demand`. -/
theorem secondTickCountsRunOut : Obligations.SecondTickCountsRunOut := by
  refine ⟨fun dt s u hu inBoundary => ⟨fun h runs five newest => ?five, fun h runs four atBoundary steps tick newest distinct =>
    ?four, fun early => ?early, fun runs ten fed => ?starved⟩, fun now held p joined => ⟨newestHolding_eq_none_iff now held,
    fun h newest => newestHolding_spec newest, holdDownRuns_iff joined p, starvationRuns_iff joined p⟩,
    fun dt r s u f line hu atBoundary joined steps hf hline => ?boundary⟩
  case five =>
    obtain ⟨joined, -⟩ := (holdDownRuns_iff _ _).1 runs
    have effect : Instr.effect (.holdDownRelease dt) u = _ :=
      (State.holdDownRelease_of_five inBoundary runs five).trans (State.releaseNewest_of_some joined newest)
    refine ⟨_, exec_of_effect hu effect, rfl, ?_, rfl, rfl⟩
    simp [settle]
  case four =>
    obtain ⟨joined, demand, many, none_⟩ := (holdDownRuns_iff _ _).1 runs
    have frame : isSecondTick u.timing.boundaryFrame = true := (isSecondTick_iff _).2 tick
    have left := length_filter_position distinct (newestHolding_spec newest).1
    have held : u.pm.holdings.filter (fun o => o.position != h.position) ≠ [] := by
      intro empty
      rw [empty] at left
      simp only [List.length_nil] at left
      omega
    refine exec_of_effect hu ((State.holdDownRelease_of_four inBoundary runs four atBoundary steps frame).trans ?_)
    rw [State.releaseNewest_of_some joined newest, State.tickAttempt_pm_of_sated (by simp only [settle]; omega),
      State.markSteps]
    simp [settle, starvationRuns, held]
  case early =>
    refine exec_of_effect hu (State.holdDownRelease_of_early ?_)
    simpa only [← Bool.not_eq_true, isSecondTick_iff, ne_eq] using early
  case starved =>
    have effect : Instr.effect (.starved dt) u = { u with
        pm := { u.pm with starved := true }, link := u.link.raise .starved } := by
      simp [Instr.effect, State.becomeStarved, inBoundary, runs, ten, fed, State.raise]
    refine ⟨_, exec_of_effect hu effect, rfl, ?_, ?_, ?_⟩
    · simp
    · simp [ShowLink.has_raise]
    · rw [finish_faultLine]
      exact (faultLineAt_iff _ _ _).2 (by simp)
  case boundary =>
    obtain ⟨v, hv⟩ : ∃ v : State, v = { u with timing := u.timing.nextFrame } := ⟨_, rfl⟩
    have work := ManagerSame.boundaryWork (s := v) r (u.timing.change == .restep) (by rw [hv]; exact joined)
    have frame : v.timing.frameNumber = f := by
      rw [hv, hf]
      rfl
    have station : v.joined = true := by rw [hv]; exact joined
    have announced : v.scheduleAnnounce = { v with line := line } := by
      have cfg : v.cfg = u.cfg := by rw [hv]; rfl
      rw [State.scheduleAnnounce, State.handOver_eq, frame, station, hline, announceDue, cfg]
      have vline : v.line = u.line := by rw [hv]
      rw [← vline]
      by_cases due : f.toNat % 50 = u.cfg.number - 1
      · simp [due]
      · simp [due]
    rw [announced, frame] at work
    have effect : Instr.effect (.frameBoundary dt r) u = v.boundaryWork r (u.timing.change == .restep) := by
      rw [hv]
      exact State.frameBoundary_of_reached r atBoundary
    have pm : v.pm = u.pm := by rw [hv]
    have timing : (v.boundaryWork r (u.timing.change == .restep)).timing = v.timing := State.boundaryWork_timing _ _ _
    refine ⟨_, exec_of_effect hu effect, ?_⟩
    simp only [finish_pm, finish_line, finish_timing, work.pm, work.line, timing]
    refine ⟨fun zero => ?_, fun demand noTick => ?_, fun demand tick due => ?_, fun demand tick notDue w hw => ?_⟩
    · obtain ⟨holdings, claim, released⟩ := State.managerBoundary_of_zero (s := { v with line := line }) f station
        (by rw [← steps, ← pm]) (by rw [← zero, ← pm])
      refine ⟨holdings, claim.trans (congrArg PositionManager.claim pm), fun rising perm sorted => ?_⟩
      rw [released, pm, byIndex_eq perm sorted]
    all_goals
      rw [State.managerBoundary_of_demand f (by rw [← steps, ← pm]) (by rw [pm]; exact demand)]
      dsimp only
      rw [pm]
    · have no : isSecondTick f = false := Bool.eq_false_iff.2 (mt (isSecondTick_iff f).1 noTick)
      rw [no]
      split <;> exact ⟨rfl, rfl⟩
    · rw [due, (isSecondTick_iff f).2 tick]
      exact ⟨rfl, rfl⟩
    · rw [notDue, (isSecondTick_iff f).2 tick]
      simp only [Bool.false_eq_true, if_false, if_true, State.tickAttempt]
      suffices same : ManagerSame _ w from ⟨same.claimAttempt.pm, same.claimAttempt.line⟩
      have hold : holdDownRuns v.joined u.pm = true ↔ u.pm.demand < u.pm.holdings.length ∧ u.pm.claim = none := by
        rw [holdDownRuns_iff]
        exact ⟨fun ⟨_, _, many, free⟩ => ⟨many, free⟩, fun ⟨many, free⟩ => ⟨station, demand, many, free⟩⟩
      have starve : starvationRuns v.joined u.pm = true ↔ u.pm.holdings = [] := by
        rw [starvationRuns_iff]
        exact ⟨fun ⟨_, _, empty⟩ => empty, fun empty => ⟨station, demand, empty⟩⟩
      rw [hw]
      refine ⟨by rw [hv], rfl, by rw [hv], ?_, rfl⟩
      simp only [← hold, ← starve]
      rfl

end Sys2Proof.Machine

/-! The statement on records and OBJECTs that come due at a boundary (R117, R133, R134). -/

namespace Sys2Proof.Machine

/-! ## The holding that gives way (R128) -/

/-- The first of some elements by a number: those before it are greater, those behind it no less. -/
theorem firstBy_splits {α : Type} {before : α → α → Bool} {rank : α → Nat}
    (h : ∀ a b, before a b = decide (rank a < rank b)) {x : α} {l : List α} (hx : firstBy before l = some x) :
    ∃ front back, l = front ++ x :: back ∧ (∀ y ∈ front, rank x < rank y) ∧ ∀ y ∈ back, rank x ≤ rank y := by
  induction l generalizing x with
  | nil => cases hx
  | cons z zs ih =>
    have least := firstBy_least h hx
    unfold firstBy at hx
    split at hx
    · cases hx
      exact ⟨[], zs, rfl, nofun, fun y hy => least y (List.mem_cons_of_mem _ hy)⟩
    · rename_i m hm
      rw [h] at hx
      split at hx
      · rename_i earlier
        obtain rfl := Option.some.inj hx
        obtain ⟨front, back, rfl, ahead, behind⟩ := ih hm
        refine ⟨z :: front, back, rfl, fun y hy => ?_, behind⟩
        obtain rfl | hy := List.mem_cons.1 hy
        · exact of_decide_eq_true earlier
        · exact ahead y hy
      · obtain rfl := Option.some.inj hx
        exact ⟨[], zs, rfl, nofun, fun y hy => least y (List.mem_cons_of_mem _ hy)⟩

theorem withoutNewest_splits {now : FrameNo} {held : List Stamped} (some_ : held ≠ []) : ∃ before v after,
    held = before ++ v :: after ∧ withoutNewest now held = before ++ after
      ∧ (∀ o ∈ before, (now - v.stamp).toNat ≤ (now - o.stamp).toNat)
      ∧ ∀ o ∈ after, (now - v.stamp).toNat < (now - o.stamp).toNat := by
  have present := isSome_firstBy (fun a b : Stamped => age now a.stamp < age now b.stamp) held.reverse
  obtain ⟨v, newest⟩ := Option.isSome_iff_exists.1 (present.trans (by simpa using some_))
  obtain ⟨front, back, split, ahead, behind⟩ := firstBy_splits (rank := fun a : Stamped => age now a.stamp) (fun _ _ => rfl)
    newest
  have absent : v ∉ front := fun hv => Nat.lt_irrefl _ (ahead v hv)
  refine ⟨back.reverse, v, front.reverse, ?_, ?_, fun o ho => behind o (List.mem_reverse.1 ho),
    fun o ho => ahead o (List.mem_reverse.1 ho)⟩
  · rw [← List.reverse_reverse held, split]
    simp
  · rw [withoutNewest, newest]
    simp only []
    rw [split, List.erase_append_right _ absent, List.erase_cons_head, List.reverse_append]

section
variable {now : FrameNo} {new : Stamped} {held : List Stamped}

theorem addHolding_of_held (h : ∃ o ∈ held, o.position = new.position) : addHolding now false new held = held := by
  rw [addHolding, if_pos (by simpa [List.any_eq_true] using h)]
  rfl

theorem addHolding_of_room (restamp : Bool) (h : ∀ o ∈ held, o.position ≠ new.position) (room : held.length < 4) :
    addHolding now restamp new held = held ++ [new] := by
  rw [addHolding, if_neg (by simpa [List.any_eq_true] using h), if_pos room]

theorem addHolding_of_full (restamp : Bool) (h : ∀ o ∈ held, o.position ≠ new.position) (full : held.length = 4) :
    addHolding now restamp new held = withoutNewest now held ++ [new] := by
  rw [addHolding, if_neg (by simpa [List.any_eq_true] using h), if_neg (by omega)]

end

/-! ## Expiry (R134) -/

theorem PeerRecord.expired_iff (f : FrameNo) (r : PeerRecord) : r.expired f = true ↔
    150 ≤ (f - r.lastHeard).toNat ∧ (f - r.lastHeard).toNat < 2147483648 := by
  rw [PeerRecord.expired, Bool.and_eq_true, decide_eq_true_eq, decide_eq_true_eq]
  exact Iff.rfl

theorem PeerRecord.claimDue_iff {r : PeerRecord} {c : PeerClaim} (f : FrameNo) (h : r.claim = some c) :
    r.claimDue f = true ↔ (f - c.windowEnd).toNat < 2147483648 := by
  rw [PeerRecord.claimDue, h]
  exact dueBy_iff f c.windowEnd

section
variable {s : State} {n : Nat} {r : PeerRecord}

theorem State.peerRecordExpiry_of_kept (h : ∀ r, findPeer s.peers n = some r → r.expired s.timing.boundaryFrame = false) :
    s.peerRecordExpiry n = s := by
  refine if_neg fun due => ?_
  obtain ⟨r, found, expired⟩ := (Option.any_eq_true _ _).1 ((Bool.and_eq_true _ _).mp due).2
  rw [h r found] at expired
  cases expired

theorem State.peerRecordExpiry_of_expired (inBoundary : s.timing.inBoundary = true) (found : findPeer s.peers n = some r)
    (expired : r.expired s.timing.boundaryFrame = true) :
    s.peerRecordExpiry n = State.reviewTiming { s with peers := removePeer s.peers n } := by
  refine if_pos ?_
  rw [inBoundary, found]
  exact expired

theorem State.setTiming_eq (t : Timing) (s : State) : s.setTiming t =
    if t.state ≠ s.timing.state ∧ (t.state = .pace ∨ t.state = .locked) then State.claimAttempt { s with timing := t }
    else { s with timing := t } := by
  unfold State.setTiming
  dsimp only
  congr 1
  simp

/-! ## A claim that passes (R133) -/

theorem State.peerClaimPassed_of_due {c : PeerClaim} (inBoundary : s.timing.inBoundary = true)
    (found : findPeer s.peers n = some r) (claim : r.claim = some c) (due : r.claimDue s.timing.boundaryFrame = true)
    (fresh : r.expired s.timing.boundaryFrame = false) : s.peerClaimPassed n =
      State.evictWhere (fun h => h.position == c.position)
        { s with peers := updatePeer s.peers n (PeerRecord.passClaim s.timing.boundaryFrame) } := by
  simp [State.peerClaimPassed, found, claim, inBoundary, due, fresh]

theorem State.peerClaimPassed_of_not_due (h : ∀ r, findPeer s.peers n = some r → r.claim ≠ none →
    r.claimDue s.timing.boundaryFrame = false ∨ r.expired s.timing.boundaryFrame = true) : s.peerClaimPassed n = s := by
  unfold State.peerClaimPassed
  dsimp only
  split
  · rename_i r found
    split
    · rename_i c claim
      refine if_neg ?_
      obtain later | gone := h r found (by rw [claim]; nofun)
      · simp [later]
      · simp [gone]
    · rfl
  · rfl

/-! ## An OBJECT whose window has passed (R117) -/

theorem Waiting.windowPassed_iff (f : FrameNo) (w : Waiting) : w.windowPassed f = true ↔
    ∃ p k g e, w.body = .object p k g e ∧ (f - e).toNat < 2147483648 := by
  rw [Waiting.windowPassed]
  cases w.body with
  | object p k g e => simpa using dueBy_iff f e
  | release p reason => simp
  | claim p k => simp
  | announce => simp

theorem HouseLine.dropPassed_of_first {f : FrameNo} {l : HouseLine} {before after : List Waiting} {w : Waiting}
    (split : l.queue = before ++ w :: after) (passed : w.windowPassed f = true)
    (first : ∀ o ∈ before, o.windowPassed f = false) :
    l.dropPassed f = { l with queue := before ++ after, dropped := bump l.dropped } := by
  have found : l.queue.find? (Waiting.windowPassed f) = some w := by
    rw [List.find?_eq_some_iff_append]
    exact ⟨passed, before, after, split, fun o ho => by rw [first o ho]; rfl⟩
  have absent : w ∉ before := fun hw => by
    rw [first w hw] at passed
    cases passed
  rw [HouseLine.dropPassed, found]
  simp only []
  rw [split, List.erase_append_right _ absent, List.erase_cons_head]

theorem HouseLine.dropPassed_of_none {f : FrameNo} {l : HouseLine} (h : ∀ o ∈ l.queue, o.windowPassed f = false) :
    l.dropPassed f = l := by
  have none_ : l.queue.find? (Waiting.windowPassed f) = none := List.find?_eq_none.2 fun o ho => by rw [h o ho]; nofun
  rw [HouseLine.dropPassed, none_]

end

end Sys2Proof.Machine

/-! Settling the statement on what comes due at a boundary. -/

namespace Sys2Proof.Machine

@[simp] theorem PeerRecord.passClaim_number (f : FrameNo) (r : PeerRecord) : (r.passClaim f).number = r.number := by
  unfold PeerRecord.passClaim
  split <;> rfl

theorem PeerRecord.passClaim_of_claim {r : PeerRecord} {c : PeerClaim} (f : FrameNo) (h : r.claim = some c) :
    r.passClaim f = { r with
      holdings := addHolding (f + r.frameDiff) false { position := c.position, stamp := c.stamp } r.holdings
      claim := none } := by
  rw [PeerRecord.passClaim, h]

/-- Settles O25: each command's two cases, with the holding that gives way, the eviction, and the first OBJECT passed. -/
theorem peerTableAndObjectsComeDue : Obligations.PeerTableAndObjectsComeDue := by
  intro dt s u f come silent hu inBoundary hf hcome hsilent
  have expired (r : PeerRecord) : silent r ↔ r.expired u.timing.boundaryFrame = true := by
    rw [hsilent, PeerRecord.expired_iff, hf]
  have due (r : PeerRecord) (c : PeerClaim) (claim : r.claim = some c) :
      come c.windowEnd ↔ r.claimDue u.timing.boundaryFrame = true := by
    rw [hcome, PeerRecord.claimDue_iff _ claim, hf]
  have passed (w : Waiting) : w.windowPassed u.timing.boundaryFrame = true ↔
      ∃ p k g e, w.body = .object p k g e ∧ come e := by
    simp only [Waiting.windowPassed_iff, hcome, hf]
  have notPassed (w : Waiting) (h : ∀ p k g e, w.body = .object p k g e → ¬ come e) :
      w.windowPassed u.timing.boundaryFrame = false := by
    rw [Bool.eq_false_iff]
    intro gone
    obtain ⟨p, k, g, e, body, comes⟩ := (passed w).1 gone
    exact h p k g e body comes
  refine ⟨fun n kept => ?kept, fun n r v found gone hv => ?removed, fun n r c found claim comes heard => ?passes,
    fun n early => ?early, fun before w after p k g e split body comes first => ?object, fun none_ => ?noObject⟩
  case kept =>
    refine exec_of_effect hu (State.peerRecordExpiry_of_kept fun r found => ?_)
    exact Bool.eq_false_iff.2 (mt (expired r).2 (kept r found))
  case removed =>
    refine exec_of_effect hu ((State.peerRecordExpiry_of_expired inBoundary found ((expired r).1 gone)).trans ?_)
    rw [State.reviewTiming, State.setTiming_eq, hv]
    rfl
  case passes =>
    obtain ⟨peers, hpeers⟩ : ∃ peers, peers = updatePeer u.peers n (PeerRecord.passClaim f) := ⟨_, rfl⟩
    have effect : Instr.effect (.peerClaimPassed dt n) u =
        State.evictWhere (fun h => h.position == c.position) { u with peers := peers } := by
      rw [hpeers, hf]
      exact State.peerClaimPassed_of_due inBoundary found claim ((due r c claim).1 comes)
        (Bool.eq_false_iff.2 (mt (expired r).2 heard))
    have record := (findPeer_updatePeer_self (PeerRecord.passClaim_number f) u.peers n).trans (congrArg _ found)
    rw [← hpeers, Option.map_some] at record
    refine ⟨_, r.passClaim f, exec_of_effect hu effect, ?_⟩
    rw [PeerRecord.passClaim_of_claim f claim] at record ⊢
    simp only [finish_peers, finish_timing, finish_show, finish_cues, finish_clips, State.evictWhere_peers,
      State.evictWhere_timing, State.evictWhere_show, State.evictWhere_cues, State.evictWhere_clips]
    refine ⟨record, trivial, fun m other => ?_, fun held => addHolding_of_held held,
      fun apart room => addHolding_of_room false apart room, fun apart full => ?_, trivial, trivial, trivial, trivial, fun free => ?_, fun distinct h hh position precedes kept v hkept hv => ?_⟩
    · rw [hpeers]
      exact findPeer_updatePeer_of_ne (PeerRecord.passClaim_number f) _ other
    · obtain ⟨before, v, after, split, left, ahead, behind⟩ := withoutNewest_splits (now := f + r.frameDiff)
        (List.ne_nil_of_length_pos (by omega : 0 < r.holdings.length))
      exact ⟨before, v, after, split, by rw [addHolding_of_full false apart full, left], ahead, behind⟩
    · rw [State.evictWhere_of_none (s := { u with peers := peers }) fun x hx named => free x hx (beq_iff_eq.1 named)]
    · have evicted := State.evictWhere_of_held (s := { u with peers := peers })
        (filter_position_of_nodup distinct hh position) precedes
      rw [evicted, State.evictOnly_eq, settle_eq, hv, hkept]
      rfl
  case early =>
    refine exec_of_effect hu (State.peerClaimPassed_of_not_due fun r found claims => ?_)
    obtain ⟨c, claim⟩ := Option.ne_none_iff_exists'.1 claims
    obtain later | gone := early r c found claim
    · exact .inl (Bool.eq_false_iff.2 (mt (due r c claim).2 later))
    · exact .inr ((expired r).1 gone)
  case object =>
    refine exec_of_effect hu ?_
    have dropped := HouseLine.dropPassed_of_first split ((passed w).2 ⟨p, k, g, e, body, comes⟩)
      fun o ho => notPassed o (first o ho)
    rw [Instr.effect, State.objectWindowPassed, if_pos inBoundary, dropped]
  case noObject =>
    refine exec_of_effect hu ?_
    rw [Instr.effect, State.objectWindowPassed, if_pos inBoundary,
      HouseLine.dropPassed_of_none fun o ho => notPassed o (none_ o ho)]

end Sys2Proof.Machine

/-! The statement on the station's own number heard (R104, R123, R174). -/

namespace Sys2Proof.Machine

/-! ## The radio port stops (R81) -/

/-- A burst that still has to be sent, or is being sent. -/
def Progress.pendingBurst (g : Progress) : Prop := g = .planned ∨ g = .sending

/-- Bursts stopped one after another: none of their positions has a burst to send. -/
theorem State.foldl_stop (stopped : List Burst) (s : State) :
    ∀ b ∈ (stopped.foldl (fun s o => (s.setProgress o.position
      (if o.progress == .sending then .cut else .cancelled)).reportUnsent o.position) s).plan.bursts,
      b.progress.pendingBurst → (∀ o ∈ stopped, o.position ≠ b.position) ∧ b ∈ s.plan.bursts := by
  induction stopped generalizing s with
  | nil => exact fun b hb _ => ⟨nofun, hb⟩
  | cons x xs ih =>
    intro b hb pending
    obtain ⟨others, before⟩ := ih _ b hb pending
    obtain ⟨o, ho, written⟩ := List.mem_map.1 before
    split at written
    · subst written
      obtain planned | sending := pending
      · dsimp only at planned
        split at planned <;> cases planned
      · dsimp only at sending
        split at sending <;> cases sending
    · rename_i elsewhere
      subst written
      refine ⟨fun y hy => ?_, ho⟩
      obtain rfl | hy := List.mem_cons.1 hy
      · exact fun same => elsewhere (beq_iff_eq.2 same.symm)
      · exact others y hy

theorem State.stopRadio_progress (s : State) : ∀ b ∈ s.stopRadio.plan.bursts, b.progress ≠ .planned ∧ b.progress ≠ .sending := by
  have quiet : ∀ b ∈ s.stopRadio.plan.bursts, ¬ b.progress.pendingBurst := by
    intro b hb pending
    obtain ⟨elsewhere, before⟩ := State.foldl_stop _ s b hb pending
    refine elsewhere b (List.mem_filter.2 ⟨before, ?_⟩) rfl
    obtain h | h := pending
    all_goals rw [h]; rfl
  exact fun b hb => ⟨fun h => quiet b hb (.inl h), fun h => quiet b hb (.inr h)⟩

/-! ## The own number (R174) -/

section
variable {s : State}

theorem State.ownNumberHeard_of_joined (h : s.loader.station = .joined) : s.ownNumberHeard =
    State.raise .duplicate { s.leaveJoined with loader := { s.loader with station := .duplicateFault } } := by
  rw [State.ownNumberHeard, h]

theorem State.ownNumberHeard_of_listen (h : s.loader.station = .listen) : s.ownNumberHeard = State.raise .duplicate
    { s with loader := { s.loader with station := .duplicateFault }, timing := s.timing.endListen s.peers s.holds } := by
  rw [State.ownNumberHeard, h]
  dsimp only
  rw [State.setTiming_eq]
  split
  · rw [State.claimAttempt_of_not_mayClaim (by rfl)]
  · rfl

theorem State.ownNumberHeard_of_duplicate (h : s.loader.station = .duplicateFault) : s.ownNumberHeard = s := by
  rw [State.ownNumberHeard, h]

theorem State.route_of_own {m : Sender} (announce : Bool) (update : List PeerRecord → List PeerRecord) (react : State → State)
    (hearing : s.line.hearing = true) (own : m.number = s.cfg.number) :
    s.route m announce update react = State.ownNumberHeard { s with line := s.line.endMessage } := by
  have own' : (m.number == (State.cfg { s with line := s.line.endMessage }).number) = true := beq_iff_eq.2 own
  rw [State.route, if_pos hearing]
  exact if_pos own'

end

/-! ## The choice made from LISTEN (R104) -/

theorem Timing.follow_of_other {t : Timing} {n : Option Nat} (h : t.followed ≠ n) :
    t.follow n = { t with followed := n, gate := none, lockCount := 0 } := if_neg (mt beq_iff_eq.1 h)

theorem Timing.follow_of_same {t : Timing} {n : Option Nat} (h : t.followed = n) : t.follow n = t := if_pos (beq_iff_eq.2 h)

theorem Timing.endListen_of_some {t : Timing} {peers : List PeerRecord} {n : Nat} (holds : Bool) (alone : t.followed = none)
    (h : lowestEligible peers = some n) : t.endListen peers holds =
      Timing.decide_ holds { t with followed := some n, gate := none, lockCount := 0 } := by
  rw [Timing.endListen, h, ← Timing.follow_of_other (by rw [alone]; nofun)]

theorem Timing.endListen_of_none {t : Timing} {peers : List PeerRecord} (holds : Bool) (alone : t.followed = none)
    (h : lowestEligible peers = none) : t.endListen peers holds = { t with state := .pace } := by
  rw [Timing.endListen, h]
  change { t.follow none with state := .pace } = _
  rw [Timing.follow_of_same alone]

/-- Settles O41: the four commands are one message of the own number, and the station's three states are the three cases. -/
theorem ownNumberHeardStopsTheStation : Obligations.OwnNumberHeardStopsTheStation := by
  intro dt s u m c hu hearing own kind
  have message : c.micros = dt ∧ messageSender c = some m := by
    obtain ⟨a, rfl⟩ | ⟨p, f, rfl⟩ | ⟨p, f, k, rfl⟩ | ⟨p, reason, rfl⟩ := kind
    all_goals exact ⟨rfl, rfl⟩
  obtain ⟨micros, sender⟩ := message
  have hu' : u = advance c.micros s := by rw [micros]; exact hu
  have effect : c.effect u = State.ownNumberHeard { u with line := u.line.endMessage } :=
    (effect_of_message sender u).trans (State.route_of_own _ _ _ hearing own)
  refine ⟨fun live => ?_, fun fault => ?_⟩
  · obtain listen | joined := live
    · have effect := effect.trans (State.ownNumberHeard_of_listen listen)
      refine ⟨_, exec_of_effect hu' effect, ?_⟩
      simp only [finish_station, finish_has, finish_peers, finish_show, finish_cues, finish_clips, finish_roster,
        finish_timing, finish_faultLine, finish_pm, finish_line, finish_plan]
      refine ⟨rfl, (faultLineAt_iff _ _ _).2 (.inr (.inl rfl)), by simp [ShowLink.has_raise], rfl, rfl, rfl, rfl, rfl,
        fun joined => (nomatch listen.symm.trans joined), fun _ alone => ⟨fun n lowest => ?_, fun lowest =>
          Timing.endListen_of_none _ alone lowest⟩, fun joined => (nomatch listen.symm.trans joined)⟩
      have chosen := Timing.endListen_of_some u.holds alone lowest
      refine ⟨_, chosen.trans (Timing.decide_eq _ _), fun quiet empty => ?_⟩
      have holds : u.holds = false := by simp [State.holds, empty]
      rw [holds, Timing.decide_step (by exact quiet)]
      rfl
    · have effect := effect.trans (State.ownNumberHeard_of_joined joined)
      refine ⟨_, exec_of_effect hu' effect, ?_⟩
      simp only [finish_station, finish_has, finish_peers, finish_show, finish_cues, finish_clips, finish_roster,
        finish_timing, finish_faultLine, finish_pm, finish_line, finish_plan]
      refine ⟨rfl, (faultLineAt_iff _ _ _).2 (.inr (.inl rfl)), by simp [ShowLink.has_raise], ?_, ?_, ?_, ?_, ?_, fun _ => ?_,
        fun listen => (nomatch joined.symm.trans listen), fun _ => ⟨rfl, rfl, rfl, rfl, rfl, State.stopRadio_progress _⟩⟩
      all_goals simp
  · exact exec_of_effect hu' (effect.trans (State.ownNumberHeard_of_duplicate fault))

end Sys2Proof.Machine

/-! What handing over does to the waiting messages, and what the steps of a boundary keep (R115 to R117, R156). -/

namespace Sys2Proof.Machine

/-! ## Messages handed over, by class (R113, R116) -/

/-- The OBJECTs that wait. -/
def HouseLine.objects (l : HouseLine) : List Waiting := l.queue.filter (fun w => w.body.class_ == 1)

theorem filter_insertBy_of_out {α : Type} {keep : α → Bool} {x : α} (before : α → α → Bool) (out : keep x = false) (l : List α) :
    (insertBy before x l).filter keep = l.filter keep := by
  obtain ⟨front, back, split, inserted, -⟩ := insertBy_lands before x l
  rw [inserted, split, List.filter_append, List.filter_append, List.filter_cons_of_neg (by rw [out]; decide)]

/-- A message of a lower class leaves the waiting OBJECTs as they are, even where the queue is full. -/
theorem HouseLine.join_objects {m : Waiting} (low : 2 ≤ m.body.class_) (l : HouseLine) : (l.join m).objects = l.objects := by
  have out : (fun w : Waiting => w.body.class_ == 1) m = false := beq_false_of_ne (by omega)
  unfold HouseLine.join
  split
  · rfl
  · split
    · exact filter_insertBy_of_out waitingBefore out l.queue
    · split
      · rfl
      · rename_i last found
        split
        · rfl
        · rename_i higher
          have split := List.dropLast_append_getLast? last found
          have lastOut : (last.body.class_ == 1) = false := beq_false_of_ne (by omega)
          refine (filter_insertBy_of_out waitingBefore out l.queue.dropLast).trans ?_
          rw [HouseLine.objects, ← split, List.filter_append, List.filter_singleton, lastOut]
          simp

theorem HouseLine.hand_objects {body : WaitingBody} (low : 2 ≤ body.class_) (l : HouseLine) :
    (l.hand body).objects = l.objects := l.join_objects low

theorem State.handOver_objects {body : WaitingBody} (low : 2 ≤ body.class_) (s : State) :
    (s.handOver body).line.objects = s.line.objects := by
  rw [State.handOver_eq]
  dsimp only
  split
  · exact HouseLine.hand_objects low _
  · rfl

theorem State.claimAttempt_objects (s : State) : s.claimAttempt.line.objects = s.line.objects := by
  obtain h | ⟨p, h⟩ := s.claimAttempt_cases
  · rw [h]
  · rw [h, State.issueClaim]
    exact State.handOver_objects (body := .claim _ _) (Nat.le_succ 2) _

theorem State.scheduleAnnounce_objects (s : State) : s.scheduleAnnounce.line.objects = s.line.objects := by
  unfold State.scheduleAnnounce
  split
  · exact State.handOver_objects (by decide) _
  · rfl

/-- An ANNOUNCE waits. -/
def HouseLine.announcing (l : HouseLine) : Prop := ∃ w ∈ l.queue, w.body = .announce

theorem HouseLine.join_length_le (m : Waiting) (l : HouseLine) : (l.join m).queue.length ≤ l.queue.length + 1 := by
  unfold HouseLine.join
  split
  · exact Nat.le_succ _
  · split
    · exact (length_insertBy _ _ _).le
    · split
      · exact Nat.le_succ _
      · split
        · exact Nat.le_succ _
        · dsimp only
          rw [length_insertBy, List.length_dropLast]
          omega

theorem HouseLine.hand_announce_queue {l : HouseLine} (waits : l.announcing) : (l.hand .announce).queue = l.queue := by
  have joined := HouseLine.join_of_waiting (m := { body := .announce, conflicts := 0, arrival := l.nextArrival }) rfl waits
  rw [HouseLine.hand, joined]

/-- With room in the queue, a message handed over waits. -/
theorem HouseLine.hand_waits {body : WaitingBody} {l : HouseLine} (room : l.queue.length ≤ 5) :
    ∃ w ∈ (l.hand body).queue, w.body = body ∧ (body ≠ .announce → w.conflicts = 0) := by
  by_cases waits : body = .announce ∧ l.announcing
  · obtain ⟨rfl, w, hw, same⟩ := waits
    exact ⟨w, HouseLine.hand_announce_queue ⟨w, hw, same⟩ ▸ hw, same, fun other => absurd rfl other⟩
  · have joined := HouseLine.join_of_room (m := { body, conflicts := 0, arrival := l.nextArrival }) (l := l)
      (fun announce w hw same => waits ⟨announce, w, hw, same⟩) (Nat.lt_succ_of_le room)
    have queue : (l.hand body).queue = insertBy waitingBefore { body, conflicts := 0, arrival := l.nextArrival } l.queue :=
      congrArg HouseLine.queue joined
    exact ⟨_, queue ▸ (mem_insertBy _ _ _ _).2 (.inl rfl), rfl, fun _ => rfl⟩

theorem HouseLine.hand_announce_keeps {l : HouseLine} (waits : l.announcing) : (l.hand .announce).announcing := by
  obtain ⟨w, hw, same⟩ := waits
  exact ⟨w, HouseLine.hand_announce_queue ⟨w, hw, same⟩ ▸ hw, same⟩

theorem State.claimAttempt_length_le (s : State) : s.claimAttempt.line.queue.length ≤ s.line.queue.length + 1 := by
  obtain h | ⟨p, h⟩ := s.claimAttempt_cases
  · rw [h]
    exact Nat.le_succ _
  · rw [h, State.issueClaim, State.handOver_eq]
    dsimp only
    split
    · exact HouseLine.join_length_le _ _
    · exact Nat.le_succ _

/-! ## What the steps of a boundary keep (R156) -/

/-- What releases and attempts keep of a state a: the OBJECTs that wait, the abandoned claims, the demand, and with no claim
to be made no claim. -/
structure StepsKeep (a b : State) : Prop where
  timing : b.timing = a.timing
  objects : b.line.objects = a.line.objects
  abandoned : b.pm.abandoned = a.pm.abandoned
  demand : b.pm.demand = a.pm.demand
  claim : a.timing.state = .acquire → b.pm.claim = a.pm.claim

namespace StepsKeep

variable {a b c : State}

theorem refl (a : State) : StepsKeep a a := ⟨rfl, rfl, rfl, rfl, fun _ => rfl⟩

theorem trans (h : StepsKeep a b) (k : StepsKeep b c) : StepsKeep a c :=
  ⟨k.timing.trans h.timing, k.objects.trans h.objects, k.abandoned.trans h.abandoned, k.demand.trans h.demand,
    fun state => (k.claim (by rw [h.timing, state])).trans (h.claim state)⟩

/-- The position manager rewritten in its holdings, its counts and its marks. -/
theorem ofPm {p : PositionManager} (abandoned : p.abandoned = a.pm.abandoned) (demand : p.demand = a.pm.demand)
    (claim : p.claim = a.pm.claim) : StepsKeep a { a with pm := p } := ⟨rfl, rfl, abandoned, demand, fun _ => claim⟩

theorem claimAttempt (a : State) : StepsKeep a a.claimAttempt := by
  obtain ⟨-, abandoned, -⟩ := a.claimAttempt_kept
  refine ⟨by simp, a.claimAttempt_objects, abandoned, by simp, fun state => ?_⟩
  rw [State.claimAttempt_of_not_mayClaim (by simp [State.mayClaim, state])]

theorem releaseHolding (x : Stamped) (a : State) : StepsKeep a (a.releaseHolding x) :=
  ⟨by simp, State.handOver_objects (body := .release _ _) le_rfl _, by simp [State.releaseHolding, settle],
    by simp [State.releaseHolding], fun _ => by simp [State.releaseHolding]⟩

theorem releaseAtZero (a : State) : StepsKeep a a.releaseAtZero := by
  unfold State.releaseAtZero
  split
  · exact List.foldlRecOn _ _ (refl a) fun b h x _ => h.trans (releaseHolding x b)
  · exact refl a

theorem holdDownTick (f : FrameNo) (a : State) : StepsKeep a (a.holdDownTick f) := by
  unfold State.holdDownTick
  split
  · exact ofPm rfl rfl rfl
  · exact refl a

theorem tickAttempt (a : State) : StepsKeep a a.tickAttempt := by
  have fed : StepsKeep a { a with pm := { a.pm with
      starvation := if starvationRuns a.joined a.pm then min 10 (a.pm.starvation + 1) else a.pm.starvation
      claimRest := false } } := ofPm rfl rfl rfl
  exact fed.trans (claimAttempt _)

theorem managerBoundary (f : FrameNo) (a : State) : StepsKeep a (a.managerBoundary f) := by
  have owed : StepsKeep a { a with pm := { a.pm with tickOwed := false } } := ofPm rfl rfl rfl
  have first : StepsKeep a (State.holdDownTick f (State.releaseAtZero { a with pm := { a.pm with tickOwed := false } })) :=
    (owed.trans (releaseAtZero _)).trans (holdDownTick f _)
  unfold State.managerBoundary
  dsimp only
  split
  · exact ofPm rfl rfl rfl
  · split
    · exact first.trans (ofPm rfl rfl rfl)
    · split
      · exact first.trans (tickAttempt _)
      · exact first

theorem scheduleAnnounce (a : State) : StepsKeep a a.scheduleAnnounce :=
  ⟨by simp, a.scheduleAnnounce_objects, by simp, by simp, fun _ => by simp⟩

theorem ofSame (h : ManagerSame b a) : StepsKeep a b :=
  ⟨h.timing, by rw [h.line], by rw [h.pm], by rw [h.pm], fun _ => by rw [h.pm]⟩

theorem boundaryWork (r silent : Bool) (a : State) : StepsKeep a (a.boundaryWork r silent) := by
  cases joined : a.joined with
  | false =>
    rw [State.boundaryWork_of_away r silent joined]
    exact ofSame (ManagerSame.ticked a)
  | true =>
    exact ((scheduleAnnounce a).trans (managerBoundary _ _)).trans (ofSame (ManagerSame.boundaryWork r silent joined))

end StepsKeep

/-- The steps of a boundary leave the holdings, or at demand 0 none of them. -/
theorem State.managerBoundary_holdings (f : FrameNo) {s : State} (joined : s.joined = true) :
    (s.managerBoundary f).pm.holdings = if s.pm.demand = 0 ∧ s.pm.stepsTaken = false then [] else s.pm.holdings := by
  cases steps : s.pm.stepsTaken with
  | true =>
    rw [State.managerBoundary, if_pos steps]
    simp
  | false =>
    by_cases zero : s.pm.demand = 0
    · rw [(State.managerBoundary_of_zero f joined steps zero).1, if_pos ⟨zero, rfl⟩]
    · have some_ : ¬ (s.pm.demand = 0 ∧ false = false) := fun h => zero h.1
      rw [State.managerBoundary_of_demand f steps (Nat.pos_of_ne_zero zero), if_neg some_]
      split
      · rfl
      · split
        · rw [State.tickAttempt, State.claimAttempt_holdings]
        · rfl

theorem State.boundaryWork_holdings (r silent : Bool) (s : State) : (s.boundaryWork r silent).pm.holdings =
    if s.joined = true ∧ s.pm.demand = 0 ∧ s.pm.stepsTaken = false then [] else s.pm.holdings := by
  cases joined : s.joined with
  | false =>
    rw [State.boundaryWork_of_away r silent joined, (ManagerSame.ticked s).pm, if_neg fun h => (nomatch h.1)]
  | true =>
    rw [(ManagerSame.boundaryWork r silent joined).pm, State.managerBoundary_holdings _ (by simpa [State.joined] using joined),
      State.scheduleAnnounce_pm]
    simp

/-- The composition of a boundary makes the cues progress; there is none outside JOINED. -/
theorem State.boundaryWork_cues (r : Bool) (s : State) : (s.boundaryWork r false).cues = if s.joined then
    (s.cues.progress s.show_.state s.show_.clock s.timing.frameNumber).built s.timing.frameNumber else s.cues := by
  obtain ⟨count, link, ticked⟩ := s.ticked_eq
  cases joined : s.joined with
  | false =>
    rw [State.boundaryWork_of_away r false joined, ticked]
    rfl
  | true =>
    rw [State.boundaryWork_of_joined r false joined, ticked]
    cases r <;> simp [State.compose_cues]

end Sys2Proof.Machine

/-! What an adoption carries over (R109, R110, R117, R135, R155). -/

namespace Sys2Proof.Machine

/-! ## Records (R135) -/

section
variable (d : FrameNo) (phase : Nat) (r : PeerRecord)

/-- What a record's measurement comes to in µs once the adoption is taken off. -/
def PeerRecord.combined : Int := (r.frameDiff.toNat : Int) * 20000 + r.offset - ((d.toNat : Int) * 20000 + (phase : Int))

theorem PeerRecord.adopt_offset : (r.adopt d phase).offset = r.combined d phase - (r.combined d phase + 10000) / 20000 * 20000 :=
  rfl

theorem PeerRecord.adopt_frameDiff :
    (r.adopt d phase).frameDiff = BitVec.ofInt 32 ((r.combined d phase + 10000) / 20000) := rfl

theorem PeerRecord.adopt_range : -10000 ≤ (r.adopt d phase).offset ∧ (r.adopt d phase).offset ≤ 9999 := by
  rw [PeerRecord.adopt_offset]
  omega

/-- The measurement after an adoption is the one before it less the adoption, up to whole turns of the frame numbers. -/
theorem PeerRecord.adopt_turns : ∃ turns : Int,
    ((r.adopt d phase).frameDiff.toNat : Int) * 20000 + (r.adopt d phase).offset
      = r.combined d phase + turns * (4294967296 * 20000) := by
  rw [PeerRecord.adopt_offset, PeerRecord.adopt_frameDiff, BitVec.toNat_ofInt]
  refine ⟨-(((r.combined d phase + 10000) / 20000) / 4294967296), ?_⟩
  omega

/-- A record whose measurement is the adoption itself comes to stand at 0. -/
theorem PeerRecord.adopt_of_turn {turn : Int} (h : r.combined d phase = turn * 4294967296 * 20000) :
    (r.adopt d phase).offset = 0 ∧ (r.adopt d phase).frameDiff = 0 := by
  have frames : (r.combined d phase + 10000) / 20000 = turn * 4294967296 := by omega
  refine ⟨by rw [PeerRecord.adopt_offset, frames, h]; omega, ?_⟩
  rw [PeerRecord.adopt_frameDiff, frames]
  apply BitVec.eq_of_toNat_eq
  rw [BitVec.toNat_ofInt]
  simp

/-- An adoption of nothing leaves a record as it is. -/
theorem PeerRecord.adopt_zero (low : -10000 ≤ r.offset) (high : r.offset ≤ 9999) : r.adopt 0 0 = r := by
  have combined : r.combined 0 0 = (r.frameDiff.toNat : Int) * 20000 + r.offset := by simp [PeerRecord.combined]
  have frames : (r.combined 0 0 + 10000) / 20000 = (r.frameDiff.toNat : Int) := by
    rw [combined]
    omega
  have offset : (r.adopt 0 0).offset = r.offset := by
    rw [PeerRecord.adopt_offset, frames, combined]
    omega
  have frameDiff : (r.adopt 0 0).frameDiff = r.frameDiff := by
    rw [PeerRecord.adopt_frameDiff, frames, BitVec.ofInt_natCast, BitVec.ofNat_toNat, BitVec.setWidth_eq]
  have heard : (r.adopt 0 0).lastHeard = r.lastHeard := BitVec.add_zero _
  have claim : (r.adopt 0 0).claim = r.claim := by
    change r.claim.map _ = _
    cases r.claim with
    | none => rfl
    | some c => simp
  have eq : r.adopt 0 0 = { r with
      lastHeard := (r.adopt 0 0).lastHeard, claim := (r.adopt 0 0).claim, offset := (r.adopt 0 0).offset
      frameDiff := (r.adopt 0 0).frameDiff } := rfl
  rw [eq, offset, frameDiff, heard, claim]

end

theorem findPeer_map {f : PeerRecord → PeerRecord} (number : ∀ r, (f r).number = r.number) (peers : List PeerRecord) (n : Nat) :
    findPeer (peers.map f) n = (findPeer peers n).map f := by
  have same : (fun r : PeerRecord => r.number == n) ∘ f = fun r => r.number == n := by
    funext r
    rw [Function.comp_apply, number]
  rw [findPeer, List.find?_map, same, findPeer]

/-! ## What is adopted (R109) -/

/-- Both rows of R109's table: the adopted frame is the next one moved by the difference. -/
theorem adoptedFrom_of_record {f d : FrameNo} {r : PeerRecord} {phase : Int} (low : -10000 ≤ r.offset)
    (hd : d = if 0 ≤ r.offset then r.frameDiff else r.frameDiff - 1)
    (hphase : phase = if 0 ≤ r.offset then r.offset else 20000 + r.offset) :
    (adoptedFrom f (some r)).frame = f + 1 + d ∧ ((adoptedFrom f (some r)).phase : Int) = phase
      ∧ (adoptedFrom f (some r)).difference = d := by
  rw [adoptedFrom, hd, hphase]
  split
  · refine ⟨rfl, ?_, rfl⟩
    simp only [Int.toNat_of_nonneg, *]
  · refine ⟨?_, ?_, rfl⟩
    · bv_omega
    · dsimp only
      omega

/-- The followed station's record stands at 0 in the adopted timing. -/
theorem combined_of_adopted {d : FrameNo} {r : PeerRecord} {phase : Nat}
    (hd : d = if 0 ≤ r.offset then r.frameDiff else r.frameDiff - 1)
    (hphase : (phase : Int) = if 0 ≤ r.offset then r.offset else 20000 + r.offset) :
    ∃ turn : Int, r.combined d phase = turn * 4294967296 * 20000 := by
  rw [PeerRecord.combined, hd, hphase]
  split
  · exact ⟨0, by omega⟩
  · by_cases zero : r.frameDiff = 0
    · refine ⟨-1, ?_⟩
      rw [zero]
      simp
      omega
    · refine ⟨0, ?_⟩
      have positive : 0 < r.frameDiff.toNat := by bv_omega
      have down : (r.frameDiff - 1).toNat = r.frameDiff.toNat - 1 := by bv_omega
      rw [down]
      omega

end Sys2Proof.Machine

/-! An adoption taken apart: what is carried over, the review of a restep, and the boundary or the schedule behind it. -/

namespace Sys2Proof.Machine

section
variable {s : State}

/-! ## The claim abandoned (R155) -/

theorem State.abandonClaim_of_none (h : s.pm.claim = none) : s.abandonClaim = s := by
  rw [State.abandonClaim, h]

theorem State.abandonClaim_of_some {c : Stamped} (h : s.pm.claim = some c) : s.abandonClaim = { s with
    pm := settle s.joined { s.pm with claim := none, claimRest := true, abandoned := bump s.pm.abandoned }
    line := s.line.withdrawClaim c } := by
  rw [State.abandonClaim, h]
  rfl

theorem HouseLine.withdrawClaim_objects (c : Stamped) (l : HouseLine) : (l.withdrawClaim c).objects = l.objects := by
  rw [HouseLine.objects, HouseLine.withdrawClaim, List.filter_filter]
  refine List.filter_congr fun w _ => ?_
  cases w.body <;> simp [WaitingBody.class_]

theorem Waiting.adopt_class (d : FrameNo) (w : Waiting) : (w.adopt d).body.class_ = w.body.class_ := by
  rw [Waiting.adopt]
  cases body : w.body <;> simp [body, WaitingBody.class_]

theorem HouseLine.adopt_objects (d : FrameNo) (l : HouseLine) : (l.adopt d).objects = l.objects.map (Waiting.adopt d) := by
  rw [HouseLine.objects, HouseLine.adopt, List.filter_map]
  congr 1
  refine List.filter_congr fun w _ => ?_
  rw [Function.comp_apply, Waiting.adopt_class]

/-! ## What is carried over -/

/-- The holdings with their stamps moved. -/
def PositionManager.moved (d : FrameNo) (p : PositionManager) : PositionManager :=
  { p with holdings := p.holdings.map (fun h => { h with stamp := h.stamp + d }) }

theorem State.carried_surroundings (s : State) : s.carried.loader = s.loader ∧ s.carried.timing = s.timing.adopt s.adopted
    ∧ s.carried.peers = s.peers.map (PeerRecord.atAdoption (s.timing.change == .restepSilent) s.adopted)
    ∧ s.carried.cues = s.cues.adopt s.adopted.difference ∧ s.carried.show_ = s.show_ ∧ s.carried.clips = s.clips
    ∧ s.carried.plan = s.plan ∧ s.carried.roster = s.roster := by
  refine ⟨?_, ?_, rfl, rfl, ?_, ?_, ?_, ?_⟩ <;> simp [State.carried]

theorem State.carried_findPeer (s : State) (n : Nat) : findPeer s.carried.peers n =
    (findPeer s.peers n).map (PeerRecord.atAdoption (s.timing.change == .restepSilent) s.adopted) :=
  findPeer_map (f := PeerRecord.atAdoption (s.timing.change == .restepSilent) s.adopted) (fun _ => rfl) s.peers n

theorem State.carried_of_none (h : s.pm.claim = none) :
    s.carried.pm = s.pm.moved s.adopted.difference ∧ s.carried.line = s.line.adopt s.adopted.difference := by
  have kept := State.abandonClaim_of_none (s := { s with
    timing := s.timing.adopt s.adopted, pm := s.pm.moved s.adopted.difference }) h
  have line := congrArg (fun t : State => t.line.adopt s.adopted.difference) kept
  exact ⟨congrArg State.pm kept, line⟩

theorem State.carried_of_some {c : Stamped} (h : s.pm.claim = some c) :
    s.carried.pm = settle s.joined { s.pm.moved s.adopted.difference with
        claim := none, claimRest := true, abandoned := bump s.pm.abandoned }
      ∧ s.carried.line = (s.line.withdrawClaim c).adopt s.adopted.difference := by
  have gone := State.abandonClaim_of_some (s := { s with
    timing := s.timing.adopt s.adopted, pm := s.pm.moved s.adopted.difference }) h
  have line := congrArg (fun t : State => t.line.adopt s.adopted.difference) gone
  exact ⟨congrArg State.pm gone, line⟩

/-- The position manager and the line as an adoption carries them over. -/
theorem State.carried_kept (s : State) : s.carried.pm.holdings = (s.pm.moved s.adopted.difference).holdings
    ∧ s.carried.pm.demand = s.pm.demand ∧ s.carried.pm.stepsTaken = s.pm.stepsTaken ∧ s.carried.pm.claim = none
    ∧ s.carried.pm.abandoned = (if s.pm.claim = none then s.pm.abandoned else bump s.pm.abandoned)
    ∧ (s.pm.claim ≠ none → s.carried.pm.claimRest = true)
    ∧ (starvationRuns s.joined s.pm = true → s.carried.pm.starvation = s.pm.starvation)
    ∧ (s.pm.claim = none → s.carried.pm.holdDown = s.pm.holdDown)
    ∧ s.carried.line.objects = s.line.objects.map (Waiting.adopt s.adopted.difference)
    ∧ s.carried.line.queue.length ≤ s.line.queue.length := by
  cases claim : s.pm.claim with
  | none =>
    obtain ⟨pm, line⟩ := State.carried_of_none claim
    rw [pm, line]
    exact ⟨rfl, rfl, rfl, claim, rfl, fun h => absurd rfl h, fun _ => rfl, fun _ => rfl, HouseLine.adopt_objects _ _,
      (List.length_map _).le⟩
  | some c =>
    obtain ⟨pm, line⟩ := State.carried_of_some claim
    rw [pm, line]
    refine ⟨rfl, rfl, rfl, rfl, rfl, fun _ => rfl, fun starves => ?_, nofun, ?_, ?_⟩
    · refine if_pos ((starvationRuns_iff _ _).2 ?_)
      obtain ⟨joined, demand, empty⟩ := (starvationRuns_iff _ _).1 starves
      exact ⟨joined, demand, by simp [PositionManager.moved, empty]⟩
    · rw [HouseLine.adopt_objects, HouseLine.withdrawClaim_objects]
    · exact (List.length_map _).le.trans (List.length_filter_le _ _)

/-! ## The review of a restep (R110) -/

theorem lowestEligible_of_stale {peers : List PeerRecord} (h : ∀ r ∈ peers, r.stale = true) : lowestEligible peers = none := by
  have none_ : peers.filter PeerRecord.eligible = [] :=
    List.filter_eq_nil_iff.2 fun r hr => by simp [PeerRecord.eligible, h r hr]
  rw [lowestEligible, none_]
  rfl

/-- With every record stale the choice is kept, or nobody is followed. -/
theorem Timing.review_of_stale {peers : List PeerRecord} (h : ∀ r ∈ peers, r.stale = true) (own : Nat) (holds : Bool)
    (t : Timing) : t.review own peers holds = t ∨ t.review own peers holds = t.enterPace := by
  have any := lowestEligible_of_stale h
  have below : lowestEligibleBelow peers own = none := lowestEligible_of_stale fun r hr => h r (List.mem_of_mem_filter hr)
  unfold Timing.review
  split
  · exact .inl rfl
  · rw [below]
    exact .inl rfl
  · split
    · rw [Timing.chooseAny, any]
      exact .inr rfl
    · rw [any]
      exact .inl rfl
  · rw [Timing.chooseLocked, below]
    exact .inr rfl

theorem followedLost_of_found {peers : List PeerRecord} {n : Nat} {r : PeerRecord} (h : findPeer peers n = some r) :
    followedLost peers (some n) = !(r.timing == .pace || r.timing == .locked) := by
  rw [followedLost, Option.bind_some, h]

theorem Timing.review_of_kept {peers : List PeerRecord} (h : ∀ r ∈ peers, r.stale = true) (own : Nat) (holds : Bool)
    {t : Timing} {n : Nat} {r : PeerRecord} (acquire : t.state = .acquire) (followed : t.followed = some n)
    (found : findPeer peers n = some r) (served : r.timing = .pace ∨ r.timing = .locked) :
    t.review own peers holds = t := by
  have kept : followedLost peers t.followed = false := by
    rw [followed, followedLost_of_found found]
    obtain h | h := served
    all_goals rw [h]; rfl
  rw [Timing.review, acquire]
  simp only [kept, Bool.false_eq_true, if_false, lowestEligible_of_stale h]

theorem Timing.enterPace_eq {t : Timing} (gate : t.gate = none) (lock : t.lockCount = 0) :
    t.enterPace = { t with followed := none, state := .pace } := by
  have followed : t.follow none = { t with followed := none } := by
    unfold Timing.follow
    split
    · rename_i same
      rw [← beq_iff_eq.1 same]
    · rw [← gate, ← lock]
  rw [Timing.enterPace, followed]

/-! ## The state before the boundary or the schedule -/

variable (s) in
/-- The carried state, with what a restep adds to it. -/
def State.arrived : State :=
  if s.timing.change == .restepSilent then s.carried.reviewTiming.handOver .announce else s.carried

theorem State.adopt_arrived (r : Bool) (s : State) :
    s.adopt r = if s.adopted.phase == 0 then s.arrived.boundaryWork r false else s.arrived.scheduleAnnounce :=
  State.adopt_eq r s

theorem State.arrived_of_step (h : s.timing.change ≠ .restepSilent) : s.arrived = s.carried :=
  if_neg (mt beq_iff_eq.1 h)

theorem State.arrived_of_restep (h : s.timing.change = .restepSilent) :
    s.arrived = s.carried.reviewTiming.handOver .announce := if_pos (beq_iff_eq.2 h)

theorem State.arrived_surroundings (s : State) : s.arrived.loader = s.carried.loader ∧ s.arrived.peers = s.carried.peers
    ∧ s.arrived.cues = s.carried.cues ∧ s.arrived.show_ = s.carried.show_ ∧ s.arrived.clips = s.carried.clips
    ∧ s.arrived.plan = s.carried.plan ∧ s.arrived.roster = s.carried.roster := by
  unfold State.arrived
  split
  · simp
  · exact ⟨rfl, rfl, rfl, rfl, rfl, rfl, rfl⟩

theorem State.reviewTiming_kept (s : State) : s.reviewTiming.pm.holdings = s.pm.holdings
    ∧ s.reviewTiming.pm.demand = s.pm.demand ∧ s.reviewTiming.pm.stepsTaken = s.pm.stepsTaken
    ∧ s.reviewTiming.pm.abandoned = s.pm.abandoned ∧ s.reviewTiming.pm.claimRest = s.pm.claimRest
    ∧ s.reviewTiming.line.objects = s.line.objects ∧ s.reviewTiming.line.queue.length ≤ s.line.queue.length + 1 := by
  rw [State.reviewTiming, State.setTiming_eq]
  split
  · obtain ⟨-, abandoned, rest, -, steps⟩ :=
      State.claimAttempt_kept { s with timing := s.timing.review s.cfg.number s.peers s.holds }
    exact ⟨State.claimAttempt_holdings _, State.claimAttempt_demand _, steps, abandoned, rest, State.claimAttempt_objects _,
      State.claimAttempt_length_le _⟩
  · exact ⟨rfl, rfl, rfl, rfl, rfl, rfl, Nat.le_succ _⟩

theorem State.arrived_kept (s : State) : s.arrived.pm.holdings = s.carried.pm.holdings
    ∧ s.arrived.pm.demand = s.carried.pm.demand ∧ s.arrived.pm.stepsTaken = s.carried.pm.stepsTaken
    ∧ s.arrived.pm.abandoned = s.carried.pm.abandoned ∧ s.arrived.pm.claimRest = s.carried.pm.claimRest
    ∧ s.arrived.line.objects = s.carried.line.objects := by
  unfold State.arrived
  split
  · obtain ⟨holdings, demand, steps, abandoned, rest, objects, -⟩ := s.carried.reviewTiming_kept
    rw [State.handOver_pm, State.handOver_objects (by decide)]
    exact ⟨holdings, demand, steps, abandoned, rest, objects⟩
  · exact ⟨rfl, rfl, rfl, rfl, rfl, rfl⟩

/-- A restep leaves every record stale. -/
theorem State.carried_stale (h : s.timing.change = .restepSilent) : ∀ r ∈ s.carried.peers, r.stale = true := by
  obtain ⟨-, -, peers, -⟩ := s.carried_surroundings
  intro r hr
  rw [peers] at hr
  obtain ⟨q, -, rfl⟩ := List.mem_map.1 hr
  simp [PeerRecord.atAdoption, h]

theorem State.arrived_timing (s : State) : ∃ followed state,
    s.arrived.timing = { s.timing.adopt s.adopted with followed := followed, state := state } := by
  obtain ⟨-, timing, -⟩ := s.carried_surroundings
  by_cases restep : s.timing.change = .restepSilent
  · rw [State.arrived_of_restep restep, State.handOver_timing, State.reviewTiming, State.setTiming_timing]
    obtain same | pace := Timing.review_of_stale (State.carried_stale restep) s.carried.cfg.number s.carried.holds
      s.carried.timing
    · rw [same, timing]
      exact ⟨_, _, rfl⟩
    · rw [pace, timing, Timing.enterPace_eq rfl rfl]
      exact ⟨_, _, rfl⟩
  · rw [State.arrived_of_step restep, timing]
    exact ⟨_, _, rfl⟩

/-- A step, and a restep that keeps the station followed, choose nothing anew. -/
theorem State.arrived_of_settled {n : Nat} {r : PeerRecord} (followed : s.timing.followed = some n)
    (found : findPeer s.peers n = some r)
    (settles : s.timing.change ≠ .restepSilent ∨ r.timing = .pace ∨ r.timing = .locked) :
    s.arrived.timing = s.timing.adopt s.adopted ∧ s.arrived.pm = s.carried.pm := by
  obtain ⟨-, timing, -⟩ := s.carried_surroundings
  by_cases restep : s.timing.change = .restepSilent
  · have served := settles.resolve_left fun step => step restep
    have record : findPeer s.carried.peers n = some (r.atAdoption (s.timing.change == .restepSilent) s.adopted) := by
      rw [s.carried_findPeer, found]
      rfl
    have acquire : s.carried.timing.state = .acquire := by
      rw [timing, Timing.adopt, followed]
      rfl
    have kept := Timing.review_of_kept (State.carried_stale restep) s.carried.cfg.number s.carried.holds acquire
      (by rw [timing]; exact followed) record served
    rw [State.arrived_of_restep restep, State.handOver_timing, State.handOver_pm, State.reviewTiming, kept,
      State.setTiming_self]
    exact ⟨timing, rfl⟩
  · rw [State.arrived_of_step restep]
    exact ⟨timing, rfl⟩

/-- The ANNOUNCE of a restep waits, where the queue had room. -/
theorem State.arrived_announcing (restep : s.timing.change = .restepSilent) (joined : s.joined = true)
    (room : s.line.queue.length ≤ 4) : s.arrived.line.announcing := by
  obtain ⟨-, -, -, -, -, -, -, -, -, carried⟩ := s.carried_kept
  obtain ⟨-, -, -, -, -, -, reviewed⟩ := s.carried.reviewTiming_kept
  have joined' : s.carried.reviewTiming.joined = true := by
    obtain ⟨loader, -⟩ := s.carried_surroundings
    rw [State.joined, State.reviewTiming_loader, loader]
    exact joined
  rw [State.arrived_of_restep restep, State.handOver_eq]
  dsimp only
  rw [if_pos joined']
  obtain ⟨w, hw, body, -⟩ := HouseLine.hand_waits (body := .announce) (l := s.carried.reviewTiming.line) (by omega)
  exact ⟨w, hw, body⟩

/-- The scheduled ANNOUNCE of the adopted frame waits, where the queue had room. -/
theorem State.scheduled_announcing (joined : s.joined = true) (room : s.line.queue.length ≤ 4)
    (due : announceDue s.arrived.cfg.number s.arrived.timing.frameNumber = true) :
    s.arrived.scheduleAnnounce.line.announcing := by
  have joined' : s.arrived.joined = true := by
    obtain ⟨arrived, -⟩ := s.arrived_surroundings
    obtain ⟨carried, -⟩ := s.carried_surroundings
    rw [State.joined, arrived, carried]
    exact joined
  rw [State.scheduleAnnounce, if_pos due, State.handOver_eq]
  dsimp only
  rw [if_pos joined']
  by_cases restep : s.timing.change = .restepSilent
  · exact HouseLine.hand_announce_keeps (State.arrived_announcing restep joined room)
  · obtain ⟨-, -, -, -, -, -, -, -, -, carried⟩ := s.carried_kept
    have short : s.arrived.line.queue.length ≤ 5 := by
      rw [State.arrived_of_step restep]
      omega
    obtain ⟨w, hw, body, -⟩ := HouseLine.hand_waits (body := .announce) short
    exact ⟨w, hw, body⟩

end

end Sys2Proof.Machine

/-! Adoption follows the table. -/

namespace Sys2Proof.Machine

section
variable {s : State} (r : Bool)

/-- Whatever comes behind the arrival, boundary or schedule. -/
theorem State.adopt_surroundings (s : State) : (s.adopt r).timing = s.arrived.timing ∧ (s.adopt r).peers = s.carried.peers
    ∧ (s.adopt r).show_ = s.show_ := by
  obtain ⟨-, peers, -, show_, -⟩ := s.arrived_surroundings
  obtain ⟨-, -, -, -, carriedShow, -⟩ := s.carried_surroundings
  rw [State.adopt_arrived]
  split
  · rw [State.boundaryWork_timing, State.boundaryWork_peers, State.boundaryWork_show]
    exact ⟨rfl, peers, show_.trans carriedShow⟩
  · rw [State.scheduleAnnounce_timing, State.scheduleAnnounce_peers, State.scheduleAnnounce_show]
    exact ⟨rfl, peers, show_.trans carriedShow⟩

/-- What boundary and schedule both keep. -/
theorem State.adopt_stepsKeep (s : State) : StepsKeep s.arrived (s.adopt r) := by
  rw [State.adopt_arrived]
  split
  · exact StepsKeep.boundaryWork r false _
  · exact StepsKeep.scheduleAnnounce _

theorem State.adopt_of_phase (h : s.adopted.phase ≠ 0) : s.adopt r = s.arrived.scheduleAnnounce := by
  rw [State.adopt_arrived, if_neg (mt beq_iff_eq.1 h)]

theorem State.adopt_of_boundary (h : s.adopted.phase = 0) : s.adopt r = s.arrived.boundaryWork r false := by
  rw [State.adopt_arrived, if_pos (beq_iff_eq.2 h)]

theorem State.adopt_abandoned (s : State) : (s.adopt r).pm.abandoned =
    if s.pm.claim = none then s.pm.abandoned else bump s.pm.abandoned := by
  obtain ⟨-, -, -, arrived, -⟩ := s.arrived_kept
  obtain ⟨-, -, -, -, carried, -⟩ := s.carried_kept
  rw [(s.adopt_stepsKeep r).abandoned, arrived, carried]

theorem State.adopt_objects (s : State) : (s.adopt r).line.objects =
    s.line.objects.map (Waiting.adopt s.adopted.difference) := by
  obtain ⟨-, -, -, -, -, arrived⟩ := s.arrived_kept
  obtain ⟨-, -, -, -, -, -, -, -, carried, -⟩ := s.carried_kept
  rw [(s.adopt_stepsKeep r).objects, arrived, carried]

theorem State.arrived_joined (s : State) : s.arrived.joined = s.joined := by
  obtain ⟨arrived, -⟩ := s.arrived_surroundings
  obtain ⟨carried, -⟩ := s.carried_surroundings
  rw [State.joined, arrived, carried]
  rfl

theorem State.adopt_cues (h : s.adopted.phase = 0) : (s.adopt r).cues = if s.joined then
    ((s.cues.adopt s.adopted.difference).progress s.show_.state s.show_.clock s.arrived.timing.frameNumber).built
      s.arrived.timing.frameNumber
    else s.cues.adopt s.adopted.difference := by
  obtain ⟨-, -, cues, show_, -⟩ := s.arrived_surroundings
  obtain ⟨-, -, -, carriedCues, carriedShow, -⟩ := s.carried_surroundings
  rw [State.adopt_of_boundary r h, State.boundaryWork_cues, s.arrived_joined, cues, show_, carriedCues, carriedShow]

end

end Sys2Proof.Machine

/-! Settling the statement on adoptions. -/

namespace Sys2Proof.Machine

theorem State.applyAdoption_of_due {s : State} (r : Bool) (reached : s.timing.boundaryReached = true)
    (change : s.timing.change.isAdoption = true) : s.applyAdoption r = s.adopt r := by
  rw [State.applyAdoption, reached, change]
  rfl

/-- A record after an adoption: dated anew and measured anew, stale after a restep. -/
theorem PeerRecord.atAdoption_spec (restep : Bool) (a : Adopted) (q : PeerRecord) :
    q.atAdoption restep a = { q with
        lastHeard := q.lastHeard + a.difference, claim := q.claim.map (fun c => { c with windowEnd := c.windowEnd + a.difference })
        offset := (q.atAdoption restep a).offset, frameDiff := (q.atAdoption restep a).frameDiff, stale := q.stale || restep }
      ∧ -10000 ≤ (q.atAdoption restep a).offset ∧ (q.atAdoption restep a).offset ≤ 9999
      ∧ ∃ turns : Int, ((q.atAdoption restep a).frameDiff.toNat : Int) * 20000 + (q.atAdoption restep a).offset
          = (q.frameDiff.toNat : Int) * 20000 + q.offset - ((a.difference.toNat : Int) * 20000 + (a.phase : Int))
            + turns * (4294967296 * 20000) := by
  obtain ⟨low, high⟩ := q.adopt_range a.difference a.phase
  exact ⟨rfl, low, high, q.adopt_turns a.difference a.phase⟩

section
variable {s : State}

theorem State.adopt_followed {n : Nat} {p : PeerRecord} (r : Bool) (followed : s.timing.followed = some n)
    (found : findPeer s.peers n = some p) (settles : s.timing.change ≠ .restepSilent ∨ p.timing = .pace ∨ p.timing = .locked) :
    s.arrived.timing.state = .acquire ∧ s.arrived.timing.followed = some n ∧ (s.adopt r).pm.claim = none := by
  obtain ⟨timing, pm⟩ := State.arrived_of_settled followed found settles
  obtain ⟨-, -, -, none_, -⟩ := s.carried_kept
  have acquire : s.arrived.timing.state = .acquire := by
    rw [timing, Timing.adopt, followed]
    rfl
  refine ⟨acquire, ?_, ?_⟩
  · rw [timing]
    exact followed
  · rw [(s.adopt_stepsKeep r).claim acquire, pm, none_]

end

theorem State.scheduleAnnounce_announcing {s : State} (waits : s.line.announcing) : s.scheduleAnnounce.line.announcing := by
  unfold State.scheduleAnnounce
  split
  · rw [State.handOver_eq]
    dsimp only
    split
    · exact HouseLine.hand_announce_keeps waits
    · exact waits
  · exact waits

theorem State.arrived_cfg (s : State) : s.arrived.cfg = s.cfg := by
  obtain ⟨arrived, -⟩ := s.arrived_surroundings
  obtain ⟨carried, -⟩ := s.carried_surroundings
  rw [State.cfg, arrived, carried]
  rfl

theorem CueQueue.adopt_zero (q : CueQueue) : q.adopt 0 = q := by
  have same : (fun e : Cue => { e with startedFrame := e.startedFrame.map (· + 0), refreshDue := e.refreshDue.map (· + 0) })
      = id := by
    have unmoved : (fun x : FrameNo => x + 0) = id := funext BitVec.add_zero
    funext e
    rw [unmoved, Option.map_id]
    rfl
  rw [CueQueue.adopt]
  simp only [same, List.map_id]

/-- Settles O27: what is carried over, the review of a restep, and the boundary or the schedule behind it, put together. -/
theorem adoptionFollowsTheTable : Obligations.AdoptionFollowsTheTable := by
  intro dt r s u hu reached change
  have effect : Instr.effect (.adoption dt r) u = u.adopt r := State.applyAdoption_of_due r reached change
  obtain ⟨timing, peers, show_⟩ := u.adopt_surroundings r
  obtain ⟨followed', state', arrived⟩ := u.arrived_timing
  rw [arrived] at timing
  have record (m : Nat) : findPeer (u.adopt r).peers m =
      (findPeer u.peers m).map (PeerRecord.atAdoption (u.timing.change == .restepSilent) u.adopted) := by
    rw [peers, u.carried_findPeer]
  refine ⟨fun n p d phase held cues settles followed found low high hd hphase hheld hcues hsettles => ?some_, fun alone => ?none_⟩
  case some_ =>
    have adopted : u.adopted = adoptedFrom u.timing.frameNumber (some p) := by
      rw [State.adopted, followed, Option.bind_some, found]
    obtain ⟨frame, phase_, difference⟩ := adoptedFrom_of_record (f := u.timing.frameNumber) low hd hphase
    rw [← adopted] at frame phase_ difference
    have elapsed : (50 : Int) * u.adopted.phase = 50 * phase := by rw [phase_]
    have zero : u.adopted.phase = 0 ↔ p.offset = 0 := by
      rw [hphase] at phase_
      split at phase_ <;> omega
    have kept : settles → u.timing.change ≠ .restepSilent ∨ p.timing = .pace ∨ p.timing = .locked := by
      intro h
      obtain step | served := hsettles.1 h
      · exact .inl (by rw [step]; decide)
      · exact .inr served
    obtain ⟨turn, combined⟩ := combined_of_adopted (r := p) (phase := u.adopted.phase) hd (phase_.trans hphase)
    rw [← difference] at combined
    obtain ⟨offset0, frameDiff0⟩ := PeerRecord.adopt_of_turn _ _ _ combined
    have number : (u.adopt r).timing.frameNumber = u.timing.frameNumber + 1 + d := by
      rw [timing]
      exact frame
    have elapsed : ((u.adopt r).timing.frameElapsed : Int) = 50 * phase := by
      rw [timing, ← phase_]
      exact Nat.cast_mul 50 u.adopted.phase
    have away (h : p.offset ≠ 0) : u.adopt r = u.arrived.scheduleAnnounce := State.adopt_of_phase r (mt zero.1 h)
    have moved : (u.pm.moved u.adopted.difference).holdings = held := by
      rw [hheld, difference]
      rfl
    have carriedCues : u.cues.adopt u.adopted.difference = cues := by
      rw [hcues, difference]
      rfl
    obtain ⟨-, -, arrivedCues, -, arrivedClips, arrivedPlan, arrivedRoster⟩ := u.arrived_surroundings
    obtain ⟨-, -, -, cues_, -, clips_, plan_, roster_⟩ := u.carried_surroundings
    obtain ⟨arrivedHoldings, arrivedDemand, arrivedSteps, -, arrivedRest, -⟩ := u.arrived_kept
    obtain ⟨holdings_, demand_, steps_, -, -, rest_, starvation_, holdDown_, -, -⟩ := u.carried_kept
    have holdings (h : p.offset ≠ 0) : (u.adopt r).pm.holdings = held := by
      rw [away h, State.scheduleAnnounce_pm, arrivedHoldings, holdings_, moved]
    have rest (claimed : u.pm.claim ≠ none) (h : p.offset ≠ 0) : (u.adopt r).pm.claimRest = true := by
      rw [away h, State.scheduleAnnounce_pm, arrivedRest]
      exact rest_ claimed
    have content (h : p.offset ≠ 0) : (u.adopt r).plan = u.plan ∧ (u.adopt r).clips = u.clips
        ∧ (u.adopt r).roster = u.roster := by
      rw [away h, State.scheduleAnnounce_plan, State.scheduleAnnounce_clips, State.scheduleAnnounce_roster, arrivedPlan,
        arrivedClips, arrivedRoster]
      exact ⟨plan_, clips_, roster_⟩
    have settled (h : settles) := State.adopt_followed r followed found (kept h)
    refine ⟨_, p.atAdoption (u.timing.change == .restepSilent) u.adopted, exec_of_effect hu effect, ?_⟩
    simp only [finish_timing, finish_peers, finish_show, finish_pm, finish_plan, finish_clips, finish_roster, finish_line,
      finish_cues]
    refine ⟨fun ahead => ?ahead, fun behind => ?behind, ?trim, ?gate, ?lockCount, ?change, ?followed, offset0, frameDiff0, rfl,
      show_, fun served => ?served, fun step off => ?step, fun restep off joined room => ?restep, number, elapsed,
      fun off => ?off, fun aligned => ?aligned, fun h => (settled h).2.2, u.adopt_abandoned r, rest, fun h off => ?settles,
      ?objects, fun joined off room tick => ?announce, fun m none_ => ?unknown, fun m q hq => ?known⟩
    case ahead =>
      rw [number, elapsed, hd, hphase, if_pos ahead, if_pos ahead]
      exact ⟨rfl, rfl⟩
    case behind =>
      have not_ : ¬ 0 ≤ p.offset := by omega
      rw [number, elapsed, hd, hphase, if_neg not_, if_neg not_]
      refine ⟨?_, rfl⟩
      bv_omega
    case trim | gate | lockCount | change =>
      rw [timing]
      rfl
    case followed => rw [record, found, Option.map_some]
    case served =>
      obtain ⟨state, follows, -⟩ := settled (hsettles.2 (.inr served))
      have same := u.adopt_surroundings r
      rw [same.1]
      exact ⟨state, follows⟩
    case step =>
      refine ⟨?_, (settled (hsettles.2 (.inl step))).2.2, fun claimed => ⟨?_, rest claimed off⟩, content off⟩
      · rw [holdings off, hheld, number]
        congr 1
        funext h
        congr 1
        bv_omega
      · rw [u.adopt_abandoned r, if_neg claimed]
    case restep =>
      have waits := State.arrived_announcing restep joined room
      constructor
      · rw [peers]
        exact State.carried_stale restep
      · rw [away off]
        exact State.scheduleAnnounce_announcing waits
    case off =>
      obtain ⟨plan, clips, roster⟩ := content off
      refine ⟨holdings off, ?_, plan, clips, roster, ?_⟩
      · rw [away off, State.scheduleAnnounce_cues, arrivedCues, cues_, carriedCues]
      · rw [away off, State.scheduleAnnounce_pm, arrivedDemand, demand_]
    case aligned =>
      constructor
      · rw [State.adopt_of_boundary r (zero.2 aligned), State.boundaryWork_holdings, u.arrived_joined, arrivedDemand,
          arrivedSteps, arrivedHoldings, demand_, steps_, holdings_, moved]
      · rw [State.adopt_cues r (zero.2 aligned), carriedCues, (u.adopt_surroundings r).1]
    case settles =>
      obtain ⟨-, pm⟩ := State.arrived_of_settled followed found (kept h)
      rw [away off, State.scheduleAnnounce_pm, pm]
      exact ⟨starvation_, holdDown_⟩
    case objects =>
      have objects := u.adopt_objects r
      rw [difference] at objects
      exact objects
    case announce =>
      rw [away off]
      refine State.scheduled_announcing joined room (beq_iff_eq.2 ?_)
      rw [u.arrived_cfg, ← (u.adopt_surroundings r).1, tick]
    case unknown => rw [record, none_, Option.map_none]
    case known =>
      refine ⟨q.atAdoption (u.timing.change == .restepSilent) u.adopted, by rw [record, hq, Option.map_some], ?_⟩
      have spec := q.atAdoption_spec (u.timing.change == .restepSilent) u.adopted
      rw [difference, phase_] at spec
      exact spec
  case none_ =>
    have adopted : u.adopted = { frame := u.timing.frameNumber + 1, phase := 0, difference := 0 } := by
      rw [State.adopted, alone]
      rfl
    have number : (u.adopt r).timing.frameNumber = u.timing.frameNumber + 1 := by
      rw [timing, adopted]
      rfl
    refine ⟨_, exec_of_effect hu effect, ?_⟩
    simp only [finish_timing, finish_peers, finish_pm, finish_cues]
    refine ⟨number, ?_, ?_, fun range => ?_, u.adopt_abandoned r, ?_⟩
    · rw [timing, adopted]
      rfl
    · rw [timing]
      rfl
    · obtain ⟨-, -, carried, -⟩ := u.carried_surroundings
      rw [peers, carried, adopted]
      refine List.map_congr_left fun q hq => ?_
      obtain ⟨low, high⟩ := range q hq
      rw [PeerRecord.atAdoption, PeerRecord.adopt_zero q low high]
    · have cues := State.adopt_cues r (s := u) (by rw [adopted])
      rw [← (u.adopt_surroundings r).1, number, adopted, CueQueue.adopt_zero] at cues
      rw [cues, number]

end Sys2Proof.Machine

/-! The statement on the cue queue's progress, its offers and its reports (R22, R27 to R34). -/

namespace Sys2Proof.Machine

/-! ## Sorting keeps the order of equals -/

/-- Elements of which none comes before another keep their order. -/
theorem filter_sortBy_of_equal {α : Type} {before : α → α → Bool} {p : α → Bool}
    (equal : ∀ a b, p a = true → p b = true → before a b = false) (l : List α) : (sortBy before l).filter p = l.filter p := by
  induction l with
  | nil => rfl
  | cons x xs ih =>
    rw [sortBy]
    cases hp : p x with
    | false => rw [filter_insertBy_of_out before hp, ih, List.filter_cons_of_neg (by rw [hp]; decide)]
    | true =>
      obtain ⟨front, back, split, inserted, firsts, -⟩ := insertBy_lands before x (sortBy before xs)
      have none_ : front.filter p = [] := List.filter_eq_nil_iff.2 fun y hy hpy => by
        have ahead := firsts y hy
        rw [equal y x hpy hp] at ahead
        cases ahead
      rw [split, List.filter_append, none_, List.nil_append] at ih
      rw [inserted, List.filter_append, none_, List.nil_append, List.filter_cons_of_pos hp, List.filter_cons_of_pos hp, ih]

/-- Sorted by a falling number below a bound. -/
theorem sortBy_pairwise_ge {α : Type} (key : α → Nat) {most : Nat} (bound : ∀ a, key a ≤ most) (l : List α) :
    (sortBy (fun a b => key b < key a) l).Pairwise (fun a b => key b ≤ key a) := by
  have order : (fun a b => decide (key b < key a)) = fun a b => decide (most - key a < most - key b) := by
    funext a b
    rw [decide_eq_decide]
    have := bound a
    have := bound b
    omega
  rw [order]
  refine (sortBy_pairwise_le (fun a => most - key a) l).imp fun {a b} h => ?_
  have := bound a
  have := bound b
  omega

section
variable {q : CueQueue}

/-! ## Reports (R34) -/

theorem CueQueue.placed_of_older {item : PlacedItem} (f : FrameNo) (h : item.generation ≠ q.generation) :
    q.placed f item = q := if_pos (bne_iff_ne.2 h)

theorem CueQueue.placed_eq {item : PlacedItem} (f : FrameNo) (h : item.generation = q.generation) : q.placed f item =
    match q.find item.track item.start with
    | some e =>
      if e.state == .showing then
        (q.dropClear item.track item.start).update item.track item.start
          (fun e => { e with refreshDue := some (if e.changed then f else f + Config.refreshFrames) })
      else (q.dropClear item.track item.start).oweClear item.track item.start item.region
    | none => (q.dropClear item.track item.start).oweClear item.track item.start item.region := by
  have current : ¬ (item.generation != q.generation) = true := by simp [h]
  rw [CueQueue.placed, if_neg current]
  rfl

theorem CueQueue.placed_of_showing {item : PlacedItem} {e : Cue} (f : FrameNo) (h : item.generation = q.generation)
    (found : q.find item.track item.start = some e) (shows : e.state = .showing) : q.placed f item =
      (q.dropClear item.track item.start).update item.track item.start
        (fun e => { e with refreshDue := some (if e.changed then f else f + Config.refreshFrames) }) := by
  rw [CueQueue.placed_eq f h, found]
  exact if_pos (beq_iff_eq.2 shows)

theorem CueQueue.placed_of_gone {item : PlacedItem} (f : FrameNo) (h : item.generation = q.generation)
    (gone : ∀ e, q.find item.track item.start = some e → e.state ≠ .showing) :
    q.placed f item = (q.dropClear item.track item.start).oweClear item.track item.start item.region := by
  rw [CueQueue.placed_eq f h]
  cases found : q.find item.track item.start with
  | none => rfl
  | some e => exact if_neg (mt beq_iff_eq.1 (gone e found))

/-! ## Clears owed (R22) -/

theorem CueQueue.oweClear_of_owed {track start : Nat} (region : Nat) (h : ∃ c ∈ q.clears, c.track = track ∧ c.start = start) :
    q.oweClear track start region = q := if_pos (by simpa [List.any_eq_true] using h)

theorem CueQueue.oweClear_of_new {track start : Nat} (region : Nat)
    (h : ∀ c ∈ q.clears, ¬ (c.track = track ∧ c.start = start)) : q.oweClear track start region = { q with
      clears := (if q.clears.length < 32 then q.clears else q.clears.tail) ++ [⟨track, start, region, q.nextSerial⟩]
      nextSerial := q.nextSerial + 1 } := if_neg (by simpa [List.any_eq_true] using h)

/-! ## Progress (R27 to R30) -/

theorem Cue.endBy_state (t : Nat) (e : Cue) :
    (e.onAir && (e.endBy t).state != .showing) = (e.state == .showing && e.refreshDue.isSome && decide (e.stop ≤ t)) := by
  rw [Cue.onAir, Cue.endBy]
  by_cases over_ : e.stop ≤ t
  · rw [if_pos over_]
    cases state : e.state <;> simp [state, over_, Cue.leave]
  · rw [if_neg over_]
    cases state : e.state <;> simp [over_]

theorem CueQueue.ending_eq (t : Nat) (q : CueQueue) : q.ending t = { q.oweClears (q.entries.filter (fun e =>
      e.state == .showing && e.refreshDue.isSome && e.stop ≤ t)) with
    entries := q.entries.map (Cue.endBy t)
    skippedCue := bumpBy (q.entries.filter (fun e => e.state == .waiting && e.stop ≤ t && !e.everShown)).length
      q.skippedCue } := by
  have owed : q.entries.filter (fun e => e.onAir && (e.endBy t).state != .showing) =
      q.entries.filter (fun e => e.state == .showing && e.refreshDue.isSome && e.stop ≤ t) :=
    List.filter_congr fun e _ => e.endBy_state t
  have moved : q.moveAll (Cue.endBy t) = { q.oweClears (q.entries.filter (fun e =>
      e.state == .showing && e.refreshDue.isSome && e.stop ≤ t)) with entries := q.entries.map (Cue.endBy t) } := by
    rw [CueQueue.moveAll, owed, CueQueue.oweClears_with_entries]
  rw [CueQueue.ending]
  dsimp only
  rw [moved]
  dsimp only
  rw [CueQueue.oweClears_skippedCue]

theorem CueQueue.startOne_of_room {f : FrameNo} {e : Cue} (room : (q.showing e.track).length < 3) :
    q.startOne f e = q.update e.track e.start (Cue.show_ f) := by
  rw [CueQueue.startOne]
  cases shown : q.showing e.track with
  | nil => rfl
  | cons first rest =>
    rw [shown] at room
    simp only [Config.showingCap, Nat.not_le.2 room, if_false]

theorem CueQueue.startOne_of_full {f : FrameNo} {e first : Cue} {rest : List Cue} (shown : q.showing e.track = first :: rest)
    (full : 2 ≤ rest.length) :
    q.startOne f e = (q.update first.track first.start (Cue.leave .spent)).update e.track e.start (Cue.show_ f) := by
  have three : 3 ≤ (first :: rest).length := Nat.succ_le_succ full
  rw [CueQueue.startOne, shown]
  simp only [Config.showingCap, three, if_true]

theorem Cue.lateBy_eq (f : FrameNo) (e : Cue) : e.lateBy f = (e.state == .showing && e.refreshDue.isNone && !e.lateNoted
    && e.startedFrame.any (fun g => 5 ≤ (f - g).toNat)) := by
  rw [Cue.lateBy, Cue.startOwed]
  cases e.startedFrame <;> rfl

/-! ## Offers (R31 to R33) -/

theorem Cue.refreshDueBy_iff (f : FrameNo) (e : Cue) : e.refreshDueBy f = true ↔
    e.state = .showing ∧ ∃ d, e.refreshDue = some d ∧ dueBy f d = true := by
  rw [Cue.refreshDueBy]
  cases e.refreshDue <;> simp

theorem dueBy_cases (f d : FrameNo) : dueBy f d = true ↔ d = f ∨ older d f = true := by
  rw [dueBy, Bool.or_eq_true, beq_iff_eq]

theorem CueQueue.mem_refreshes (f : FrameNo) (q : CueQueue) (e : Cue) :
    e ∈ q.refreshes f ↔ e ∈ q.entries ∧ e.refreshDueBy f = true := by
  rw [CueQueue.refreshes, mem_sortBy, List.mem_filter]

theorem CueQueue.mem_starts (q : CueQueue) (e : Cue) : e ∈ q.starts ↔ e ∈ q.entries ∧ e.startOwed = true := by
  rw [CueQueue.starts, List.mem_filter]

theorem CueQueue.refreshes_pairwise (f : FrameNo) (q : CueQueue) : (q.refreshes f).Pairwise (fun a b => ∀ x y,
    a.refreshDue = some x → b.refreshDue = some y → (f - y).toNat ≤ (f - x).toNat) := by
  refine (sortBy_pairwise_ge (fun e : Cue => age f (e.refreshDue.getD f)) (fun e => (BitVec.isLt _).le) _).imp ?_
  intro a b h x y hx hy
  rw [hx, hy] at h
  exact h

theorem CueQueue.refreshes_filter {f d : FrameNo} (q : CueQueue) (due : dueBy f d = true) :
    (q.refreshes f).filter (fun e => e.refreshDue == some d)
      = q.entries.filter (fun e => e.state == .showing && e.refreshDue == some d) := by
  rw [CueQueue.refreshes, filter_sortBy_of_equal fun a b ha hb => ?_, List.filter_filter]
  · refine List.filter_congr fun e _ => ?_
    rw [Bool.eq_iff_iff, Bool.and_eq_true, Bool.and_eq_true, Cue.refreshDueBy_iff, beq_iff_eq, beq_iff_eq]
    constructor
    · rintro ⟨same, shows, -⟩
      exact ⟨shows, same⟩
    · rintro ⟨shows, same⟩
      exact ⟨same, shows, d, same, due⟩
  · rw [beq_iff_eq.1 ha, beq_iff_eq.1 hb]
    simp

/-! ## The cells of a start or a refresh (R18, R33) -/

theorem textRuns_spec (n : Nat) {codes : List Byte} (short : codes.length ≤ 28 * n) :
    (textRuns n codes).length = (codes.length + 27) / 28
      ∧ ∀ i < (textRuns n codes).length, (textRuns n codes)[i]? = some ((codes.drop (28 * i)).take 28) := by
  induction n generalizing codes with
  | zero =>
    have empty : codes = [] := List.length_eq_zero_iff.1 (Nat.le_zero.1 short)
    rw [empty]
    exact ⟨rfl, fun i h => absurd h (Nat.not_lt_zero i)⟩
  | succ n ih =>
    rw [textRuns]
    by_cases empty : codes = []
    · rw [empty]
      exact ⟨rfl, fun i h => absurd h (Nat.not_lt_zero i)⟩
    · have some_ : codes.isEmpty = false := by simp [empty]
      have positive := List.length_pos_iff.2 empty
      have rest : (codes.drop 28).length ≤ 28 * n := by
        rw [List.length_drop]
        omega
      obtain ⟨length, runs⟩ := ih rest
      rw [some_]
      simp only [Bool.false_eq_true, if_false, List.length_cons, length, List.length_drop]
      refine ⟨by omega, fun i hi => ?_⟩
      cases i with
      | zero => rfl
      | succ i =>
        rw [List.getElem?_cons_succ, runs i (by rw [length, List.length_drop]; omega), List.drop_drop]
        congr 3
        omega

theorem textCells_spec (track start k : Nat) (runs : List (List Byte)) : (textCells track start k runs).length = runs.length
    ∧ ∀ i : Nat, (textCells track start k runs)[i]? = runs[i]?.map (fun codes => .captionText track start (k + i) codes) := by
  induction runs generalizing k with
  | nil => exact ⟨rfl, fun i => rfl⟩
  | cons codes rest ih =>
    obtain ⟨length, cells⟩ := ih (k + 1)
    rw [textCells]
    refine ⟨by rw [List.length_cons, List.length_cons, length], fun i => ?_⟩
    cases i with
    | zero => rfl
    | succ i =>
      rw [List.getElem?_cons_succ, List.getElem?_cons_succ, cells]
      congr 2
      funext codes
      congr 1
      omega

theorem tableOfTrack_of_mem {tracks : List Track} {k : Track} (distinct : (tracks.map (·.number)).Nodup) (hk : k ∈ tracks) :
    tableOfTrack tracks k.number = k.table := by
  have found : tracks.find? (fun t => t.number == k.number) = some k := by
    cases found : tracks.find? (fun t => t.number == k.number) with
    | none => simpa using List.find?_eq_none.1 found k hk
    | some o =>
      have same := List.find?_some (p := fun t : Track => t.number == k.number) found
      rw [List.inj_on_of_nodup_map distinct (List.mem_of_find?_eq_some found) hk (beq_iff_eq.1 same)]
  rw [tableOfTrack, found]

end

end Sys2Proof.Machine

/-! Settling the statement on the cue queue. -/

namespace Sys2Proof.Machine

/-- Settles O29: each step of the progress, each offer and each report by its own equation. -/
theorem placedCuesAreReported : Obligations.PlacedCuesAreReported := by
  refine ⟨fun f i q => ⟨fun older_ => CueQueue.placed_of_older f older_, fun cleared current hcleared => ⟨fun e found shows => ?_,
    fun gone => ?_⟩⟩, fun q track start region => ⟨CueQueue.oweClear_of_owed region, CueQueue.oweClear_of_new region⟩,
    fun state t f q => ?progress, fun show_ refresh e codes hcodes short => ?cells,
    fun tables table => ⟨rfl, fun b text => ?_⟩, fun tracks k distinct hk => tableOfTrack_of_mem distinct hk⟩
  · rw [CueQueue.placed_of_showing f current found shows, hcleared]
    rfl
  · rw [CueQueue.placed_of_gone f current gone, hcleared]
    rfl
  case progress =>
    refine ⟨fun still frozen => ?_, fun runs => ?_, CueQueue.ending_eq t q, fun started hstarted => ?_, fun e shown hshown =>
      ⟨fun room => ?_, fun v rest full long => ?_⟩, fun late hlate => ?_, rfl, fun e => ?_, q.refreshes_pairwise f,
      fun d due => q.refreshes_filter ((dueBy_cases f d).2 due), ?_⟩
    · have halted : state.advances = false := Bool.eq_false_iff.2 fun h => by
        obtain h | h := (ShowState.advances_iff state).1 h
        · exact still h
        · exact frozen h
      rw [CueQueue.progress, halted]
      rfl
    · rw [CueQueue.progress, (ShowState.advances_iff state).2 runs]
      rfl
    · rw [hstarted]
      rfl
    · rw [CueQueue.startOne_of_room room, hshown]
      rfl
    · rw [CueQueue.startOne_of_full full long, hshown]
      rfl
    · have same : Cue.lateBy f = late := by
        rw [hlate]
        exact funext (Cue.lateBy_eq f)
      rw [CueQueue.lateness, same]
    · rw [CueQueue.mem_refreshes, Cue.refreshDueBy_iff]
      simp only [dueBy_cases]
    · refine List.map_congr_left fun e he => if_congr ?_ rfl rfl
      rw [Bool.or_eq_true, q.mem_starts, q.mem_refreshes]
      simp only [he, true_and]
  case cells =>
    have cells : cueCells show_ refresh e = .captionHead refresh e.track e.start (e.stop - e.start) e.region e.italic
        e.speakerChange codes.length :: textCells e.track e.start 1 (textRuns 5 codes) := by rw [hcodes]; rfl
    obtain ⟨runs, run⟩ := textRuns_spec 5 short
    obtain ⟨length, cell⟩ := textCells_spec e.track e.start 1 (textRuns 5 codes)
    rw [cells]
    refine ⟨?_, rfl, fun n c hc => ?_⟩
    · rw [List.length_cons, length, runs, Nat.add_comm]
    · rw [List.getElem?_cons_succ, cell] at hc
      obtain ⟨piece, hpiece, rfl⟩ := Option.map_eq_some_iff.1 hc
      have within := (List.getElem?_eq_some_iff.1 hpiece).1
      rw [run n within] at hpiece
      rw [← Option.some.inj hpiece, Nat.add_comm]
  · rw [translate, List.map_cons, List.filter_cons]
    by_cases dropped : Memory.read tableDefault tables (table * 256 + b.toNat) = 0
    · rw [if_pos dropped, dropped]
      rfl
    · rw [if_neg dropped, if_pos (bne_iff_ne.2 dropped)]
      rfl

end Sys2Proof.Machine

/-! A message of another station heard: what the timing unit changes of the position manager, the line and its own clock (R124,
R127, R136), and when its sender conflicts (R126). -/

namespace Sys2Proof.Machine

/-! ## Choices leave the time alone (R102 to R108) -/

/-- What a timing unit's choices leave alone: the local time, the frame number, and whether a boundary is open. -/
def Timing.clock (t : Timing) : Nat × FrameNo × Bool := (t.localTime, t.frameNumber, t.boundaryOpen)

section
variable (own n : Nat) (peers : List PeerRecord) (holds : Bool) (offset : Int) (frame : FrameNo) (t : Timing)

@[simp] theorem Timing.follow_clock (m : Option Nat) : (t.follow m).clock = t.clock := by
  rw [Timing.follow_eq]
  rfl

@[simp] theorem Timing.clock_withState (state : TimingState) : Timing.clock { t with state := state } = t.clock := rfl

@[simp] theorem Timing.decide_clock : (t.decide_ holds).clock = t.clock := by
  rw [Timing.decide_eq]
  rfl

@[simp] theorem Timing.acquire_clock : (t.acquire_ peers holds n).clock = t.clock := by
  unfold Timing.acquire_
  dsimp only
  split <;> simp

@[simp] theorem Timing.enterPace_clock : t.enterPace.clock = t.clock :=
  t.follow_clock none

@[simp] theorem Timing.chooseAny_clock : (t.chooseAny peers holds).clock = t.clock := by
  unfold Timing.chooseAny
  split <;> simp

@[simp] theorem Timing.chooseLocked_clock : (t.chooseLocked own peers holds).clock = t.clock := by
  unfold Timing.chooseLocked
  (repeat' split) <;> simp

@[simp] theorem Timing.review_clock : (t.review own peers holds).clock = t.clock := by
  unfold Timing.review
  (repeat' split) <;> simp

@[simp] theorem Timing.feedGate_clock : (t.feedGate offset frame).clock = t.clock := by
  unfold Timing.feedGate
  dsimp only
  (repeat' split) <;> rfl

@[simp] theorem Timing.lockIn_clock : (t.lockIn own peers holds).clock = t.clock := by
  unfold Timing.lockIn
  split <;> simp

@[simp] theorem Timing.hearFollowed_clock :
    (t.hearFollowed own peers holds n offset frame).clock = t.clock := by
  unfold Timing.hearFollowed
  dsimp only
  (repeat' split) <;> simp

end

@[simp] theorem State.timingHears_clock (m : Sender) (a : Bool) (o : Int) (b : Option PeerRecord) (s : State) :
    (s.timingHears m a o b).timing.clock = s.timing.clock := by
  rw [State.timingHears, State.setTiming_timing]
  (repeat' split) <;> simp

/-! ## Messages that wait, one by one (R116) -/

/-- A message that waits stays when one of no higher class joins. -/
theorem HouseLine.mem_join_of_le {m w : Waiting} {l : HouseLine} (le : w.body.class_ ≤ m.body.class_) (hw : w ∈ l.queue) :
    w ∈ (l.join m).queue := by
  unfold HouseLine.join
  split
  · exact hw
  · split
    · exact (mem_insertBy _ _ _ _).2 (.inr hw)
    · split
      · exact hw
      · rename_i last found
        split
        · exact hw
        · rename_i higher
          refine (mem_insertBy _ _ _ _).2 (.inr ?_)
          rw [← List.dropLast_append_getLast? last found, List.mem_append, List.mem_singleton] at hw
          obtain kept | rfl := hw
          · exact kept
          · exact absurd le higher

/-- What waits after a message has joined is that message, or waited before. -/
theorem HouseLine.mem_join {m w : Waiting} {l : HouseLine} (hw : w ∈ (l.join m).queue) : w = m ∨ w ∈ l.queue := by
  unfold HouseLine.join at hw
  split at hw
  · exact .inr hw
  · split at hw
    · exact (mem_insertBy _ _ _ _).1 hw
    · split at hw
      · exact .inr hw
      · split at hw
        · exact .inr hw
        · exact ((mem_insertBy _ _ _ _).1 hw).imp_right List.mem_of_mem_dropLast

/-! ## What the timing unit keeps of the position manager (R143) -/

section
variable {m : Sender} {announce : Bool} {update : List PeerRecord → List PeerRecord} {s : State}

theorem State.route_of_heard (react : State → State) (hearing : s.line.hearing = true) (other : m.number ≠ s.cfg.number) :
    s.route m announce update react = react (s.heard m announce update) := by
  rw [State.route, if_pos hearing]
  exact if_neg (mt beq_iff_eq.1 other)

/-- With a claim pending, the timing unit makes no attempt. -/
theorem State.setTiming_of_claim {s : State} {c : Stamped} (t : Timing) (h : s.pm.claim = some c) :
    s.setTiming t = { s with timing := t } := by
  have idle : State.claimAttempt { s with timing := t } = { s with timing := t } :=
    State.claimAttempt_of_not_mayClaim (State.mayClaim_of_claim (c := c) h)
  rw [State.setTiming_eq, idle, ite_self]

theorem State.timingHears_of_claim {s : State} {c : Stamped} (a : Bool) (o : Int) (b : Option PeerRecord)
    (h : s.pm.claim = some c) :
    s.timingHears m a o b = { s with timing := (s.timingHears m a o b).timing } := by
  rw [State.timingHears, State.setTiming_of_claim _ h]

/-- What a message changes of the position manager and of the line before the position manager acts on it: at most a claim is
issued. -/
structure HeardKeeps (a b : State) : Prop where
  loader : b.loader = a.loader
  holdings : b.pm.holdings = a.pm.holdings
  evictions : b.pm.evictions = a.pm.evictions
  abandoned : b.pm.abandoned = a.pm.abandoned
  claimRest : b.pm.claimRest = a.pm.claimRest
  tickOwed : b.pm.tickOwed = a.pm.tickOwed
  claim : a.pm.claim ≠ none → b.pm.claim = a.pm.claim
  objects : b.line.objects = a.line.objects
  room : b.line.queue.length ≤ a.line.queue.length + 1
  clock : b.timing.clock = a.timing.clock

theorem HeardKeeps.boundaryOpen {a b : State} (h : HeardKeeps a b) : b.timing.boundaryOpen = a.timing.boundaryOpen :=
  congrArg (fun c => c.2.2) h.clock

theorem HeardKeeps.localTime {a b : State} (h : HeardKeeps a b) : b.timing.localTime = a.timing.localTime :=
  congrArg (fun c => c.1) h.clock

theorem State.setTiming_keeps {t : Timing} {s : State} (same : t.clock = s.timing.clock) :
    HeardKeeps s (s.setTiming t) := by
  rw [State.setTiming_eq]
  split
  · obtain ⟨evictions, abandoned, rest, owed, -⟩ := State.claimAttempt_kept { s with timing := t }
    refine ⟨State.claimAttempt_loader _, State.claimAttempt_holdings _, evictions, abandoned, rest, owed, fun claims => ?_,
      State.claimAttempt_objects _, State.claimAttempt_length_le _, ?_⟩
    · obtain ⟨c, claim⟩ := Option.ne_none_iff_exists'.1 claims
      rw [State.claimAttempt_of_not_mayClaim (State.mayClaim_of_claim (s := { s with timing := t }) claim)]
    · rw [State.claimAttempt_timing]
      exact same
  · exact ⟨rfl, rfl, rfl, rfl, rfl, rfl, fun _ => rfl, rfl, Nat.le_succ _, same⟩

theorem State.timingHears_keeps (m : Sender) (a : Bool) (o : Int) (b : Option PeerRecord) (s : State) :
    HeardKeeps s (s.timingHears m a o b) := by
  have same := State.timingHears_clock m a o b s
  rw [State.timingHears, State.setTiming_timing] at same
  exact State.setTiming_keeps same

theorem State.heard_keeps (m : Sender) (announce : Bool) (update : List PeerRecord → List PeerRecord) (s : State) :
    HeardKeeps s (s.heard m announce update) :=
  { State.timingHears_keeps m announce _ _ _ with }

theorem State.heard_peers : (s.heard m announce update).peers =
    update (takeCommon m (measure m s.line.heardFrame s.line.heardPhase) s.line.heardFrame s.peers) :=
  State.timingHears_peers _ _ _ _ _

end

/-! ## Conflict (R126) -/

theorem inNeighbours_zero (n : Nat) : inNeighbours 0 n = false := by
  simp [inNeighbours]

theorem State.conflictsWith_of_found {s : State} {n : Nat} {r : PeerRecord} (h : findPeer s.peers n = some r) :
    s.conflictsWith n = conflicts s.cfg r := by
  rw [State.conflictsWith, h]
  rfl

theorem conflicts_iff {cfg : ConfigImage} {r : PeerRecord} (other : r.number ≠ cfg.number) : conflicts cfg r = true ↔
    inNeighbours cfg.neighbours r.number = true ∨ inNeighbours r.neighbours cfg.number = true := by
  simp [conflicts, other]

/-- A sender whose record keeps its neighbour set conflicts as it did before the message. -/
theorem State.conflictsWith_iff_of_kept {u v : State} {n : Nat} {r : PeerRecord} (cfg : v.cfg = u.cfg)
    (other : n ≠ u.cfg.number) (found : findPeer v.peers n = some r)
    (kept : r.neighbours = ((findPeer u.peers n).getD (.fresh n)).neighbours) : v.conflictsWith n = true ↔
      inNeighbours u.cfg.neighbours n = true
        ∨ ∃ r₀, findPeer u.peers n = some r₀ ∧ inNeighbours r₀.neighbours u.cfg.number = true := by
  have number : r.number = n := number_of_findPeer found
  rw [State.conflictsWith_of_found found, cfg, conflicts_iff (by rw [number]; exact other), number, kept]
  refine or_congr_right ?_
  cases findPeer u.peers n with
  | none =>
    have empty : inNeighbours (PeerRecord.fresh n).neighbours u.cfg.number = false := inNeighbours_zero _
    simp [empty]
  | some r₀ => simp

end Sys2Proof.Machine

/-! What a CLAIM of another station leads to (R146, R147): the OBJECT, and the end of the station's own claim. -/

namespace Sys2Proof.Machine

/-! ## The own claim ended (R147, R148) -/

/-- The step 4 that waits for the pending claim can be taken once that claim has ended. -/
def State.owing (s : State) : Prop := s.pm.tickOwed = true ∧ s.timing.boundaryOpen = true

theorem HeardKeeps.owing_iff {a b : State} (h : HeardKeeps a b) : b.owing ↔ a.owing := by
  rw [State.owing, State.owing, h.tickOwed, h.boundaryOpen]

theorem State.owedTick_of_not_owing {s : State} (h : ¬ s.owing) : s.owedTick = s := by
  refine if_neg fun due => h ?_
  simp only [Bool.and_eq_true] at due
  exact due.1

theorem State.owedTick_of_claim {s : State} {c : Stamped} (h : s.pm.claim = some c) : s.owedTick = s := by
  simp [State.owedTick, h]

theorem State.owedTick_stepsKeep (s : State) : StepsKeep s s.owedTick := by
  have paid : StepsKeep s { s with pm := { s.pm with tickOwed := false } } := StepsKeep.ofPm rfl rfl rfl
  unfold State.owedTick
  split
  · exact paid.trans (StepsKeep.tickAttempt _)
  · exact StepsKeep.refl s

/-- The station's pending claim has ended otherwise than by entering the holdings: counted; and unless step 4 waited for it, the
claim rests, and no CLAIM for it waits. -/
structure ClaimEnded (own : Stamped) (a b : State) : Prop where
  abandoned : b.pm.abandoned = bump a.pm.abandoned
  rests : ¬ a.owing → b.pm.claim = none ∧ b.pm.claimRest = true
    ∧ ∀ w ∈ b.line.queue, w.body ≠ .claim own.position own.stamp

/-- The station's pending claim stands. -/
structure ClaimStands (own : Stamped) (a b : State) : Prop where
  claim : b.pm.claim = some own
  abandoned : b.pm.abandoned = a.pm.abandoned
  claimRest : b.pm.claimRest = a.pm.claimRest

theorem HouseLine.mem_withdrawClaim {c : Stamped} {l : HouseLine} {w : Waiting} :
    w ∈ (l.withdrawClaim c).queue ↔ w ∈ l.queue ∧ w.body ≠ .claim c.position c.stamp := by
  rw [HouseLine.withdrawClaim, List.mem_filter, bne_iff_ne]

theorem State.abandonClaim_ended {s : State} {own : Stamped} (claim : s.pm.claim = some own) :
    ClaimEnded own s s.abandonClaim := by
  rw [State.abandonClaim_of_some claim]
  exact ⟨rfl, fun _ => ⟨rfl, rfl, fun w hw => (HouseLine.mem_withdrawClaim.1 hw).2⟩⟩

theorem State.abandonClaim_owing {s : State} : s.abandonClaim.owing ↔ s.owing := by
  cases claim : s.pm.claim with
  | none => rw [State.abandonClaim_of_none claim]
  | some c => rw [State.abandonClaim_of_some claim, State.owing, settle_eq, State.owing]

theorem ClaimEnded.owedTick {own : Stamped} {a b : State} (h : ClaimEnded own a b) (owing : b.owing ↔ a.owing) :
    ClaimEnded own a b.owedTick := by
  refine ⟨b.owedTick_stepsKeep.abandoned.trans h.abandoned, fun idle => ?_⟩
  rw [State.owedTick_of_not_owing (mt owing.1 idle)]
  exact h.rests idle

/-! ## The position manager on a CLAIM -/

section
variable {s : State} {n : Nat} {p : Position}

theorem State.reactClaim_of_apart (h : s.conflictsWith n = false) : s.reactClaim n p = s := by
  rw [State.reactClaim, if_neg (by rw [h]; decide)]

theorem State.reactClaim_of_conflict (h : s.conflictsWith n = true) : s.reactClaim n p =
    if (s.objectTo n p).claimLosesTo n then (s.objectTo n p).abandonClaim.owedTick else s.objectTo n p := if_pos h

theorem State.abandonClaim_objects (s : State) : s.abandonClaim.line.objects = s.line.objects := by
  cases claim : s.pm.claim with
  | none => rw [State.abandonClaim_of_none claim]
  | some c =>
    rw [State.abandonClaim_of_some claim]
    exact HouseLine.withdrawClaim_objects c _

theorem State.reactClaim_objects (n : Nat) (p : Position) (s : State) : (s.reactClaim n p).line.objects =
    if s.conflictsWith n then (s.objectTo n p).line.objects else s.line.objects := by
  cases conflict : s.conflictsWith n with
  | false => rw [State.reactClaim_of_apart conflict, if_neg (by decide)]
  | true =>
    rw [State.reactClaim_of_conflict conflict, if_pos rfl]
    split
    · rw [(State.owedTick_stepsKeep _).objects, State.abandonClaim_objects]
    · rfl

/-- No OBJECT answers where the position is not held, or outside JOINED. -/
theorem State.objectTo_of_out (h : s.joined = false ∨ ∀ o ∈ s.pm.holdings, o.position ≠ p) : s.objectTo n p = s := by
  obtain away | free := h
  · unfold State.objectTo
    split
    · rw [State.handOver_eq, away]
      rfl
    · rfl
  · have none_ : s.pm.holdings.find? (fun h => h.position == p) = none :=
      List.find?_eq_none.2 fun o ho => mt beq_iff_eq.1 (free o ho)
    rw [State.objectTo, none_]

theorem State.objectTo_of_held {h : Stamped} {r : PeerRecord} {c : PeerClaim}
    (held : s.pm.holdings.find? (fun o => o.position == p) = some h) (found : findPeer s.peers n = some r)
    (claim : r.claim = some c) : s.objectTo n p = s.handOver (.object p h.stamp n c.windowEnd) := by
  have theirs : (findPeer s.peers n).bind (·.claim) = some c := by rw [found, Option.bind_some, claim]
  rw [State.objectTo, held, theirs]

theorem State.claimLosesTo_iff {own : Stamped} {r : PeerRecord} {c : PeerClaim} (mine : s.pm.claim = some own)
    (found : findPeer s.peers n = some r) (claim : r.claim = some c) : s.claimLosesTo n = true ↔
      own.position = c.position ∧ precedes c.stamp n own.stamp s.cfg.number = true := by
  have theirs : (findPeer s.peers n).bind (·.claim) = some c := by rw [found, Option.bind_some, claim]
  rw [State.claimLosesTo, mine, theirs]
  simp

/-- A message handed over with room in the queue, in JOINED. -/
theorem State.handOver_waits {body : WaitingBody} (joined : s.joined = true) (room : s.line.queue.length ≤ 5) :
    ∃ w ∈ (s.handOver body).line.queue, w.body = body ∧ (body ≠ .announce → w.conflicts = 0) := by
  rw [State.handOver_eq, joined]
  exact HouseLine.hand_waits room

end

/-! ## A CLAIM heard -/

section
variable {u : State} {m : Sender} {p : Position} {stamp : FrameNo}

/-- The state in which the position manager acts on a CLAIM. -/
def State.claimHeard (m : Sender) (p : Position) (stamp : FrameNo) (u : State) : State :=
  u.heard m false (fun peers => updatePeer peers m.number (PeerRecord.takeClaim { position := p, stamp := stamp }))

theorem exec_claim_heard {dt : Nat} {s : State} (hu : u = advance dt s) (hearing : u.line.hearing = true)
    (other : m.number ≠ u.cfg.number) (p : Position) (stamp : FrameNo) :
    exec (.claim dt m p stamp) s = .next (finish ((u.claimHeard m p stamp).reactClaim m.number p)) :=
  exec_claim_of_other hu hearing other p stamp

theorem State.claimHeard_keeps (m : Sender) (p : Position) (stamp : FrameNo) (u : State) :
    HeardKeeps u (u.claimHeard m p stamp) := u.heard_keeps m false _

theorem HeardKeeps.cfg {a b : State} (h : HeardKeeps a b) : b.cfg = a.cfg := by
  rw [State.cfg, h.loader, State.cfg]

theorem HeardKeeps.joined {a b : State} (h : HeardKeeps a b) : b.joined = a.joined := by
  rw [State.joined, h.loader, State.joined]

/-- The claimant's record holds the claim, its window end in the station's own numbering (R130). -/
theorem State.claimHeard_found (u : State) : ∃ r, findPeer (u.claimHeard m p stamp).peers m.number = some r
    ∧ r.neighbours = ((findPeer u.peers m.number).getD (.fresh m.number)).neighbours
    ∧ r.claim = some { position := p, stamp := stamp
                       windowEnd := stamp + 13 - (measure m u.line.heardFrame u.line.heardPhase).frameDiff } := by
  refine ⟨u.recordHeard m (PeerRecord.takeClaim { position := p, stamp := stamp }), ?_, rfl, rfl⟩
  rw [State.claimHeard, State.heard_peers]
  exact State.findPeer_takeMessage_self (PeerRecord.takeClaim_keepsStanding _) m u

end

end Sys2Proof.Machine

/-! The first two parts of the statement on a CLAIM: the OBJECT drawn, and the station's own claim lost or kept. -/

namespace Sys2Proof.Machine

section
variable {u : State} {m : Sender} {p : Position} {stamp : FrameNo}

theorem State.claimHeard_conflicts_iff (other : m.number ≠ u.cfg.number) :
    (u.claimHeard m p stamp).conflictsWith m.number = true ↔ inNeighbours u.cfg.neighbours m.number = true
      ∨ ∃ r, findPeer u.peers m.number = some r ∧ inNeighbours r.neighbours u.cfg.number = true := by
  obtain ⟨r, found, neighbours, -⟩ := u.claimHeard_found (m := m) (p := p) (stamp := stamp)
  exact State.conflictsWith_iff_of_kept (u.claimHeard_keeps m p stamp).cfg other found neighbours

/-- The OBJECT that a conflicting peer's CLAIM on a holding draws (R146). -/
theorem State.reactClaim_answers {h : Stamped} (conflict : (u.claimHeard m p stamp).conflictsWith m.number = true)
    (joined : u.joined = true) (held : u.pm.holdings.find? (fun o => o.position == p) = some h)
    (room : u.line.queue.length ≤ 4) :
    ∃ w ∈ ((u.claimHeard m p stamp).reactClaim m.number p).line.queue, w.conflicts = 0
      ∧ w.body = .object p h.stamp m.number (stamp + 13 - (measure m u.line.heardFrame u.line.heardPhase).frameDiff) := by
  have keeps := u.claimHeard_keeps m p stamp
  obtain ⟨r, found, -, claim⟩ := u.claimHeard_found (m := m) (p := p) (stamp := stamp)
  have room' : (u.claimHeard m p stamp).line.queue.length ≤ 5 := keeps.room.trans (Nat.succ_le_succ room)
  obtain ⟨w, hw, body, fresh⟩ := State.handOver_waits (s := u.claimHeard m p stamp)
    (body := .object p h.stamp m.number (stamp + 13 - (measure m u.line.heardFrame u.line.heardPhase).frameDiff))
    (by rw [keeps.joined, joined]) room'
  have object : w ∈ ((u.claimHeard m p stamp).reactClaim m.number p).line.objects := by
    rw [State.reactClaim_objects, if_pos conflict, State.objectTo_of_held (by rw [keeps.holdings, held]) found claim]
    exact List.mem_filter.2 ⟨hw, by rw [body]; rfl⟩
  exact ⟨w, List.mem_of_mem_filter object, fresh nofun, body⟩

/-- Where no OBJECT is due, those that wait stay. -/
theorem State.reactClaim_objects_of_out
    (h : (u.claimHeard m p stamp).conflictsWith m.number = false ∨ u.joined = false ∨ ∀ o ∈ u.pm.holdings, o.position ≠ p) :
    ((u.claimHeard m p stamp).reactClaim m.number p).line.objects = u.line.objects := by
  have keeps := u.claimHeard_keeps m p stamp
  rw [State.reactClaim_objects, ← keeps.objects]
  obtain apart | out := h
  · rw [apart]
    rfl
  · rw [State.objectTo_of_out (by rw [keeps.joined, keeps.holdings]; exact out), ite_self]

theorem State.objectTo_claimLosesTo (n : Nat) (p : Position) (s : State) :
    (s.objectTo n p).claimLosesTo n = s.claimLosesTo n := by
  simp only [State.claimLosesTo, State.cfg, State.objectTo_pm, State.objectTo_peers, State.objectTo_loader]

theorem State.objectTo_owing {n : Nat} {p : Position} {s : State} : (s.objectTo n p).owing ↔ s.owing := by
  simp only [State.owing, State.objectTo_pm, State.objectTo_timing]

variable {own : Stamped}

theorem State.claimHeard_loses_iff (mine : u.pm.claim = some own) :
    (u.claimHeard m p stamp).claimLosesTo m.number = true ↔
      p = own.position ∧ precedes stamp m.number own.stamp u.cfg.number = true := by
  have keeps := u.claimHeard_keeps m p stamp
  obtain ⟨r, found, -, claim⟩ := u.claimHeard_found (m := m) (p := p) (stamp := stamp)
  have mine' : (u.claimHeard m p stamp).pm.claim = some own := (keeps.claim (by rw [mine]; nofun)).trans mine
  rw [State.claimLosesTo_iff mine' found claim, keeps.cfg, eq_comm]

/-- A conflicting claim on the same position, of precedence, ends the station's own (R147). -/
theorem State.reactClaim_ends (mine : u.pm.claim = some own)
    (conflict : (u.claimHeard m p stamp).conflictsWith m.number = true)
    (loses : (u.claimHeard m p stamp).claimLosesTo m.number = true) :
    ClaimEnded own u ((u.claimHeard m p stamp).reactClaim m.number p) := by
  have keeps := u.claimHeard_keeps m p stamp
  have mine' : ((u.claimHeard m p stamp).objectTo m.number p).pm.claim = some own := by
    rw [State.objectTo_pm, keeps.claim (by rw [mine]; nofun), mine]
  rw [State.reactClaim_of_conflict conflict, State.objectTo_claimLosesTo, if_pos loses]
  have ended := (State.abandonClaim_ended mine').owedTick State.abandonClaim_owing
  refine ⟨?_, fun idle => ended.rests (mt (State.objectTo_owing.trans keeps.owing_iff).1 idle)⟩
  rw [ended.abandoned, State.objectTo_pm, keeps.abandoned]

/-- Any other CLAIM leaves the station's own standing. -/
theorem State.reactClaim_keeps (mine : u.pm.claim = some own)
    (h : (u.claimHeard m p stamp).conflictsWith m.number = false ∨ (u.claimHeard m p stamp).claimLosesTo m.number = false) :
    ClaimStands own u ((u.claimHeard m p stamp).reactClaim m.number p) := by
  have keeps := u.claimHeard_keeps m p stamp
  have pm : ((u.claimHeard m p stamp).reactClaim m.number p).pm = (u.claimHeard m p stamp).pm := by
    cases conflict : (u.claimHeard m p stamp).conflictsWith m.number with
    | false => rw [State.reactClaim_of_apart conflict]
    | true =>
      rw [conflict] at h
      have stands := h.resolve_left nofun
      rw [State.reactClaim_of_conflict conflict, State.objectTo_claimLosesTo, if_neg (by rw [stands]; nofun),
        State.objectTo_pm]
  refine ⟨?_, by rw [pm, keeps.abandoned], by rw [pm, keeps.claimRest]⟩
  rw [pm, keeps.claim (by rw [mine]; nofun), mine]

end

end Sys2Proof.Machine

/-! Step 4 that waits for the pending claim: no part of a message reads that it waits, but the last (R156). -/

namespace Sys2Proof.Machine

/-- The state with no step 4 waiting. -/
def State.paid (s : State) : State := { s with pm := { s.pm with tickOwed := false } }

/-- A change that neither reads nor writes whether step 4 waits. -/
def BlindToTick (f : State → State) : Prop := ∀ s : State, f s.paid = (f s).paid ∧ ((f s).owing ↔ s.owing)

section
variable {f g : State → State}

theorem BlindToTick.comp (hf : BlindToTick f) (hg : BlindToTick g) : BlindToTick (fun s => g (f s)) := fun s =>
  ⟨(congrArg g (hf s).1).trans (hg _).1, (hg _).2.trans (hf s).2⟩

theorem BlindToTick.id_ : BlindToTick (fun s => s) := fun _ => ⟨rfl, Iff.rfl⟩

theorem BlindToTick.ite_ {c : State → Bool} (hc : ∀ s, c s.paid = c s) (hf : BlindToTick f) (hg : BlindToTick g) :
    BlindToTick (fun s => if c s then f s else g s) := by
  intro s
  dsimp only
  rw [hc]
  split
  · exact hf s
  · exact hg s

end

/-- The OBJECT that answers a CLAIM, where one does (R146). -/
def State.objectBody (n : Nat) (p : Position) (s : State) : Option WaitingBody :=
  (s.pm.holdings.find? (fun h => h.position == p)).bind fun h =>
    ((findPeer s.peers n).bind (·.claim)).map fun theirs => .object p h.stamp n theirs.windowEnd

theorem State.objectTo_eq (n : Nat) (p : Position) (s : State) :
    s.objectTo n p = (s.objectBody n p).elim s s.handOver := by
  unfold State.objectTo State.objectBody
  split
  · rename_i held theirs
    rw [held, theirs]
    rfl
  · rename_i none_
    cases held : s.pm.holdings.find? (fun h => h.position == p) with
    | none => rfl
    | some h =>
      cases theirs : (findPeer s.peers n).bind (·.claim) with
      | none => rfl
      | some c => exact absurd theirs (none_ h c held)

/-! ## A burst cancelled (R78, R75) -/

/-- Cancelling a burst writes the plan and the radio port alone. -/
theorem State.cancelBurst_frame (p : Position) (s : State) :
    s.cancelBurst p = { s with plan := (s.cancelBurst p).plan, radio := (s.cancelBurst p).radio } := by
  have needs (c : Option (Fin 8)) (v : State) : v.need c = { v with radio := (v.need c).radio } := by
    unfold State.need
    (repeat' split) <;> rfl
  have tunes (v : State) : v.retune = { v with radio := v.retune.radio } := by
    unfold State.retune
    split
    · exact needs _ v
    · rfl
  by_cases planned : ∃ b ∈ s.plan.bursts, b.position = p ∧ b.progress = .planned
  · rw [State.cancelBurst_of_planned planned]
    split
    · rfl
    · rw [tunes]
      rfl
  · rw [State.cancelBurst_of_none fun b hb at_ progress => planned ⟨b, hb, at_, progress⟩]

/-- The choice of carrier at the end of a slot reads no more than this. -/
theorem State.retune_congr {a b : State} (plan : a.plan = b.plan) (radio : a.radio = b.radio)
    (station : a.loader.station = b.loader.station) (time : a.timing.localTime = b.timing.localTime)
    (holdings : a.pm.holdings = b.pm.holdings) : a.retune.plan = b.retune.plan ∧ a.retune.radio = b.retune.radio := by
  have carrier : a.slotEndCarrier = b.slotEndCarrier := by rw [State.slotEndCarrier, State.slotEndCarrier, plan, holdings]
  rw [State.retune, State.retune, station, carrier]
  split
  · cases b.slotEndCarrier with
    | none => exact ⟨plan, radio⟩
    | some c =>
      rw [State.need, State.need, radio, time]
      split
      · exact ⟨plan, radio⟩
      · exact ⟨plan, rfl⟩
  · exact ⟨plan, radio⟩

/-- What cancelling a burst leads to is read from the plan, the radio port, the station state, the local time and the
holdings. -/
theorem State.cancelBurst_congr {a b : State} (p : Position) (plan : a.plan = b.plan) (radio : a.radio = b.radio)
    (station : a.loader.station = b.loader.station) (time : a.timing.localTime = b.timing.localTime)
    (holdings : a.pm.holdings = b.pm.holdings) :
    (a.cancelBurst p).plan = (b.cancelBurst p).plan ∧ (a.cancelBurst p).radio = (b.cancelBurst p).radio := by
  obtain ⟨pa, hpa⟩ : ∃ v, v = (a.setProgress p .cancelled).reportUnsent p := ⟨_, rfl⟩
  obtain ⟨pb, hpb⟩ : ∃ v, v = (b.setProgress p .cancelled).reportUnsent p := ⟨_, rfl⟩
  have plans : pa.plan = pb.plan := by
    rw [hpa, hpb]
    simp only [State.setProgress, State.reportUnsent, plan]
  have radios : pa.radio = pb.radio := by rw [hpa, hpb]; exact radio
  by_cases planned : ∃ b ∈ a.plan.bursts, b.position = p ∧ b.progress = .planned
  · rw [State.cancelBurst_of_planned planned, State.cancelBurst_of_planned (plan ▸ planned), ← hpa, ← hpb, radio]
    split
    · exact ⟨plans, radios⟩
    · exact State.retune_congr plans radios (by rw [hpa, hpb]; exact station) (by rw [hpa, hpb]; exact time)
        (by rw [hpa, hpb]; exact holdings)
  · have unplanned : ∀ b ∈ a.plan.bursts, b.position = p → b.progress ≠ .planned :=
      fun b hb at_ progress => planned ⟨b, hb, at_, progress⟩
    rw [State.cancelBurst_of_none unplanned, State.cancelBurst_of_none (plan ▸ unplanned)]
    exact ⟨plan, radio⟩

namespace BlindToTick

theorem handOver (body : WaitingBody) : BlindToTick (State.handOver body) := fun s => by
  rw [State.handOver_eq, State.handOver_eq]
  exact ⟨rfl, Iff.rfl⟩

theorem issueClaim (p : Position) : BlindToTick (State.issueClaim p) := fun s => by
  rw [State.issueClaim, State.issueClaim, State.handOver_eq, State.handOver_eq]
  exact ⟨rfl, Iff.rfl⟩

theorem claimAttempt : BlindToTick State.claimAttempt := fun s => by
  rw [State.claimAttempt_eq, s.claimAttempt_eq]
  change Option.elim (if s.mayClaim then s.scan else none) _ _ = _ ∧ _
  cases (if s.mayClaim then s.scan else none) with
  | none => exact ⟨rfl, Iff.rfl⟩
  | some p => exact issueClaim p s

theorem setTiming {choice : State → Timing} (hc : ∀ s, choice s.paid = choice s)
    (clock : ∀ s, (choice s).clock = s.timing.clock) : BlindToTick (fun s => s.setTiming (choice s)) := fun s => by
  have kept := State.setTiming_keeps (clock s)
  refine ⟨?_, kept.owing_iff⟩
  dsimp only
  rw [hc, State.setTiming_eq, State.setTiming_eq]
  have attempt := (claimAttempt { s with timing := choice s }).1
  change (if (choice s).state ≠ s.timing.state ∧ _ then State.claimAttempt (State.paid { s with timing := choice s })
    else _) = _
  rw [attempt, apply_ite State.paid]
  rfl

theorem abandonClaim : BlindToTick State.abandonClaim := fun s => by
  refine ⟨?_, State.abandonClaim_owing⟩
  cases claim : s.pm.claim with
  | none => rw [State.abandonClaim_of_none claim, State.abandonClaim_of_none (s := s.paid) claim]
  | some c =>
    rw [State.abandonClaim_of_some claim, State.abandonClaim_of_some (s := s.paid) claim]
    rfl

theorem objectTo (n : Nat) (p : Position) : BlindToTick (State.objectTo n p) := fun s => by
  refine ⟨?_, State.objectTo_owing⟩
  rw [State.objectTo_eq, State.objectTo_eq]
  change Option.elim (s.objectBody n p) _ _ = _
  cases s.objectBody n p with
  | none => rfl
  | some body => exact (handOver body s).1

theorem cancelBurst (p : Position) : BlindToTick (State.cancelBurst p) := fun s => by
  refine ⟨?_, by simp [State.owing]⟩
  obtain ⟨plan, radio⟩ := State.cancelBurst_congr (a := s.paid) (b := s) p rfl rfl rfl rfl rfl
  rw [State.cancelBurst_frame p s.paid, plan, radio, State.cancelBurst_frame p s]
  rfl

theorem raise (e : Event) : BlindToTick (State.raise e) := fun _ => ⟨rfl, Iff.rfl⟩

/-- A position manager rewritten in other fields, its counts settled. -/
theorem setPm {change : PositionManager → PositionManager}
    (h : ∀ p, change { p with tickOwed := false } = { change p with tickOwed := false })
    (owed : ∀ p, (change p).tickOwed = p.tickOwed) : BlindToTick (fun s => s.setPm (change s.pm)) := fun s => by
  refine ⟨?_, ?_⟩
  · dsimp only
    rw [State.paid, h]
    rfl
  · change (change s.pm).tickOwed = true ∧ s.timing.boundaryOpen = true ↔ _
    rw [owed, State.owing]

theorem evictOnly (h : Stamped) : BlindToTick (State.evictOnly h) := by
  have leaves := setPm (change := fun p => { p with
    holdings := p.holdings.filter (fun o => o.position != h.position), evictions := bump p.evictions })
    (fun _ => rfl) (fun _ => rfl)
  exact ((leaves.comp (cancelBurst h.position)).comp (handOver (.release h.position .evicted))).comp (raise .evicted)

theorem foldl {α : Type} {f : α → State → State} (h : ∀ x, BlindToTick (f x)) (l : List α) :
    BlindToTick (fun s => l.foldl (fun s x => f x s) s) := by
  induction l with
  | nil => exact id_
  | cons x xs ih => exact (h x).comp ih

theorem evictWhere {asked : State → Stamped → Bool} (h : ∀ s, asked s.paid = asked s) :
    BlindToTick (fun s => s.evictWhere (asked s)) := fun s => by
  dsimp only
  rw [h]
  unfold State.evictWhere
  change ((if (byIndex (s.pm.holdings.filter (fun h => asked s h && peerPrecedes s.cfg s.peers h))).isEmpty then s.paid else
    _) = _) ∧ _
  dsimp only
  split
  · exact ⟨rfl, Iff.rfl⟩
  · exact (foldl evictOnly _).comp claimAttempt s

end BlindToTick

end Sys2Proof.Machine

/-! The step 4 that a message's end of the claim brings (R156), and the statement on a CLAIM. -/

namespace Sys2Proof.Machine

/-! ## Reactions that end in the step that waits -/

/-- The reaction of the position manager, with a claim pending, is a part blind to the step that waits, and then that step. -/
structure PaysLast (react core : State → State) : Prop where
  blind : BlindToTick core
  last : ∀ s, s.pm.claim ≠ none → react s = (core s).owedTick

theorem paid_conflictsWith (n : Nat) (s : State) : s.paid.conflictsWith n = s.conflictsWith n := rfl

theorem paid_claimLosesTo (n : Nat) (s : State) : s.paid.claimLosesTo n = s.claimLosesTo n := rfl

/-- What a CLAIM leads to, but for the step that waits. -/
def State.answerClaim (n : Nat) (p : Position) (s : State) : State :=
  if s.conflictsWith n then if s.claimLosesTo n then (s.objectTo n p).abandonClaim else s.objectTo n p else s

theorem PaysLast.claim (n : Nat) (p : Position) : PaysLast (State.reactClaim n p) (State.answerClaim n p) where
  blind := BlindToTick.ite_ (fun _ => rfl)
    (BlindToTick.ite_ (fun _ => rfl) ((BlindToTick.objectTo n p).comp .abandonClaim) (.objectTo n p)) .id_
  last := fun s claims => by
    obtain ⟨own, mine⟩ := Option.ne_none_iff_exists'.1 claims
    have stands : (s.objectTo n p).owedTick = s.objectTo n p :=
      State.owedTick_of_claim (c := own) (by rw [State.objectTo_pm, mine])
    rw [State.answerClaim]
    cases conflict : s.conflictsWith n with
    | false =>
      rw [State.reactClaim_of_apart conflict, if_neg (by decide), State.owedTick_of_claim mine]
    | true =>
      rw [State.reactClaim_of_conflict conflict, State.objectTo_claimLosesTo, if_pos rfl, apply_ite State.owedTick, stands]

/-- What an OBJECT leads to, but for the step that waits. -/
def State.answerObject (n : Nat) (p : Position) (claimant : Nat) (s : State) : State :=
  State.evictWhere (fun h => h.position == p)
    (if s.pm.claim.any (fun own => own.position == p) && (claimant == s.cfg.number || s.conflictsWith n) then s.abandonClaim
      else s)

theorem PaysLast.object (n : Nat) (p : Position) (claimant : Nat) :
    PaysLast (State.reactObject n p claimant) (State.answerObject n p claimant) where
  blind := (BlindToTick.ite_ (fun _ => rfl) .abandonClaim .id_).comp
    (BlindToTick.evictWhere (asked := fun _ h => h.position == p) fun _ => rfl)
  last := fun _ _ => rfl

/-- The holdings that an ANNOUNCE has precedence asked over (R149). -/
def State.listedBy (n : Nat) (s : State) (h : Stamped) : Bool := (findPeer s.peers n).any (fun r => r.holds h.position)

/-- What an ANNOUNCE leads to, but for the step that waits. -/
def State.answerAnnounce (n : Nat) (a : AnnounceFields) (s : State) : State :=
  let s := if s.conflictsWith n && (s.claimLosesTo n || s.claimListed a) then s.abandonClaim else s
  s.evictWhere (s.listedBy n)

theorem PaysLast.announce (n : Nat) (a : AnnounceFields) :
    PaysLast (State.reactAnnounce n a) (State.answerAnnounce n a) where
  blind := (BlindToTick.ite_ (fun _ => rfl) .abandonClaim .id_).comp
    (BlindToTick.evictWhere (asked := State.listedBy n) fun _ => rfl)
  last := fun _ _ => rfl

/-! ## A message heard -/

theorem BlindToTick.timingHears (m : Sender) (a : Bool) (o : Int) (b : Option PeerRecord) :
    BlindToTick (State.timingHears m a o b) := by
  have clock (s : State) := State.timingHears_clock m a o b s
  simp only [State.timingHears, State.setTiming_timing] at clock
  exact BlindToTick.setTiming (fun _ => rfl) clock

theorem BlindToTick.heard (m : Sender) (a : Bool) {update : State → List PeerRecord → List PeerRecord}
    (h : ∀ s, update s.paid = update s) : BlindToTick (fun s => s.heard m a (update s)) := fun s => by
  dsimp only
  rw [h]
  exact BlindToTick.timingHears m a _ _ { s with
    line := s.line.endMessage
    peers := update s (takeCommon m (measure m s.line.heardFrame s.line.heardPhase) s.line.heardFrame s.peers) }

theorem advance_paid (dt : Nat) (s : State) : advance dt s.paid = (advance dt s).paid := by
  change (if s.loader.held then _ else _) = _
  unfold advance
  split <;> rfl

/-! ## The step with and without a step 4 that waits -/

theorem State.owedTick_paid (s : State) : s.paid.owedTick = s.paid :=
  State.owedTick_of_not_owing (fun owing => nomatch owing.1)

theorem State.owedTick_of_owing {s : State} (owing : s.owing) (claim : s.pm.claim = none) : s.owedTick = s.paid.tickAttempt := by
  obtain ⟨owed, open_⟩ := owing
  exact if_pos (by simp [owed, open_, claim])

/-- The end of a step does not read whether step 4 waits. -/
theorem finish_paid (s : State) : finish s.paid = (finish s).paid := by
  cases free : s.link.sending with
  | some r => rw [finish_of_sending (s := s.paid) (by simp [State.paid, free]), finish_of_sending (by simp [free])]; rfl
  | none =>
    match hq : s.link.outQueue with
    | [] => rw [finish_of_nothing_waiting (s := s.paid) hq, finish_of_nothing_waiting hq]; rfl
    | .status :: rest => rw [finish_of_status (s := s.paid) free hq, finish_of_status free hq]; rfl
    | .refusal r :: rest => rw [finish_of_refusal (s := s.paid) free hq, finish_of_refusal free hq]; rfl

theorem State.owe_paid {s : State} (owed : s.pm.tickOwed = true) :
    { s.paid with pm := { s.paid.pm with tickOwed := true } } = s := by
  rw [State.paid, ← owed]

/-- The position manager as step 4 leaves it to the attempt (R156). -/
def State.fedPm (s : State) : PositionManager :=
  { s.pm with
    starvation := if starvationRuns s.joined s.pm then min 10 (s.pm.starvation + 1) else s.pm.starvation
    claimRest := false }

theorem State.tickAttempt_eq (s : State) : s.tickAttempt = State.claimAttempt { s with pm := s.fedPm } := rfl

/-- An attempt after the end of a step is the attempt before it. -/
theorem claimAttempt_finish (s : State) (p : PositionManager) :
    (State.claimAttempt { finish s with pm := p }).pm = (State.claimAttempt { s with pm := p }).pm
      ∧ (State.claimAttempt { finish s with pm := p }).line = (State.claimAttempt { s with pm := p }).line := by
  obtain ⟨outQueue, sending, ended, -⟩ := finish_cases s
  rw [ended, State.claimAttempt_eq, State.claimAttempt_eq]
  change State.pm (Option.elim (if State.mayClaim { s with pm := p } then State.scan { s with pm := p } else none) _ _) = _
    ∧ State.line (Option.elim (if State.mayClaim { s with pm := p } then State.scan { s with pm := p } else none) _ _) = _
  cases (if State.mayClaim { s with pm := p } then State.scan { s with pm := p } else none) with
  | none => exact ⟨rfl, rfl⟩
  | some position =>
    simp only [Option.elim_some, State.issueClaim, State.handOver_eq]
    exact ⟨rfl, rfl⟩

/-- A message's command with the step that waits, against the same with none waiting: the claim stands and so does the step, or
the claim has ended and the step follows. -/
theorem exec_owing {react core before : State → State} (pays : PaysLast react core) (blind : BlindToTick before)
    {c : Instr} {s u : State} (hu : u = advance c.micros s) (owing : u.owing) (claims : (before u).pm.claim ≠ none)
    (joined : (core (before u)).joined = u.joined) (effect : c.effect u = react (before u)) (effect₀ : c.effect u.paid = react (before u.paid)) :
    ∃ t t₀, exec c s = .next t ∧ exec c s.paid = .next t₀
      ∧ (t₀.pm.claim ≠ none → t = { t₀ with pm := { t₀.pm with tickOwed := true } })
      ∧ (t₀.pm.claim = none → ∀ v, v = State.claimAttempt { t₀ with pm := { t₀.pm with
          starvation := if u.joined ∧ 0 < t₀.pm.demand ∧ t₀.pm.holdings = [] then min 10 (t₀.pm.starvation + 1)
            else t₀.pm.starvation
          claimRest := false } } →
        t.pm = v.pm ∧ t.line = v.line ∧ t.peers = t₀.peers ∧ t.timing = t₀.timing ∧ t.plan = t₀.plan ∧ t.radio = t₀.radio
          ∧ t.link.events = t₀.link.events) := by
  obtain ⟨x, hx⟩ : ∃ x, x = core (before u) := ⟨_, rfl⟩
  have owes : x.owing := hx ▸ (pays.blind _).2.2 ((blind u).2.2 owing)
  have reached : c.effect u = x.owedTick := by rw [effect, pays.last _ claims, ← hx]
  have claims₀ : (before u.paid).pm.claim ≠ none := by
    rw [(blind u).1]
    exact claims
  have reached₀ : c.effect u.paid = x.paid := by
    rw [effect₀, pays.last _ claims₀, (blind u).1, (pays.blind _).1, ← hx, State.owedTick_paid]
  have hu₀ : u.paid = advance c.micros s.paid := by rw [advance_paid, ← hu]
  refine ⟨_, _, exec_of_effect hu reached, exec_of_effect hu₀ reached₀, fun stands => ?_, fun ended v hv => ?_⟩
  · rw [finish_pm] at stands
    obtain ⟨own, mine⟩ := Option.ne_none_iff_exists'.1 stands
    rw [State.owedTick_of_claim (s := x) mine, finish_paid]
    exact (State.owe_paid (by rw [finish_pm]; exact owes.1)).symm
  · rw [finish_pm] at ended
    have fed : v = State.claimAttempt { finish x.paid with pm := x.paid.fedPm } := by
      rw [hv]
      simp only [finish_pm, State.fedPm, starvationRuns_iff, ← joined, ← hx]
      rfl
    rw [State.owedTick_of_owing owes ended, fed]
    obtain ⟨pm, line⟩ := claimAttempt_finish x.paid x.paid.fedPm
    rw [pm, line]
    simp only [finish_pm, finish_line, finish_peers, finish_timing, finish_plan, finish_radio, finish_events,
      State.tickAttempt_eq, State.claimAttempt_peers, State.claimAttempt_timing, State.claimAttempt_plan,
      State.claimAttempt_radio, State.claimAttempt_link, and_self]

end Sys2Proof.Machine

/-! Settling the statement on a CLAIM that meets a holding or the station's own claim. -/

namespace Sys2Proof.Machine

/-- The three kinds of message that can end the station's claim, each heard and then acted upon. -/
theorem endsClaim_parts {dt : Nat} {m : Sender} {c : Instr}
    (kind : (∃ a, c = .announce dt m a) ∨ (∃ p f, c = .claim dt m p f) ∨ ∃ p f k, c = .object dt m p f k) :
    c.micros = dt ∧ ∃ react core announce, ∃ update : State → List PeerRecord → List PeerRecord,
      PaysLast react core ∧ (∀ v, update v.paid = update v) ∧ (∀ v, (core v).joined = v.joined)
        ∧ ∀ v, c.effect v = v.route m announce (update v) react := by
  obtain ⟨a, rfl⟩ | ⟨p, f, rfl⟩ | ⟨p, f, k, rfl⟩ := kind
  · refine ⟨rfl, _, _, true,
      fun v peers => updatePeer peers m.number (PeerRecord.takeAnnounce v.timing.frameNumber a),
      .announce m.number a, fun _ => rfl, fun v => ?_, fun _ => rfl⟩
    rw [State.answerAnnounce, State.joined, State.evictWhere_loader, apply_ite State.loader, State.abandonClaim_loader, ite_self,
      State.joined]
  · refine ⟨rfl, _, _, false,
      fun _ peers => updatePeer peers m.number (PeerRecord.takeClaim { position := p, stamp := f }),
      .claim m.number p, fun _ => rfl, fun v => ?_, fun _ => rfl⟩
    rw [State.answerClaim, State.joined, apply_ite State.loader, apply_ite State.loader, State.abandonClaim_loader,
      State.objectTo_loader, ite_self, ite_self, State.joined]
  · refine ⟨rfl, _, _, false,
      fun v peers => updatePeer (updatePeer peers m.number
        (PeerRecord.takeObject v.timing.frameNumber { position := p, stamp := f })) k (PeerRecord.loseClaim p),
      .object m.number p k, fun _ => rfl, fun v => ?_, fun _ => rfl⟩
    rw [State.answerObject, State.joined, State.evictWhere_loader, apply_ite State.loader, State.abandonClaim_loader, ite_self,
      State.joined]

/-- Settles O40: the OBJECT, the own claim lost or kept, and the step 4 that the claim's end may bring. -/
theorem claimOnAHoldingDrawsAnObject : Obligations.ClaimOnAHoldingDrawsAnObject := by
  refine ⟨fun dt s u m p stamp conflict hu hearing other hconflict => ?answered,
    fun dt s u m own p stamp conflict owed hu hearing other mine hconflict howed => ?own,
    fun dt s u s₀ m c hu kind hearing other owed open_ claims hs₀ => ?step⟩
  case answered =>
    have conflicts_ := State.claimHeard_conflicts_iff (p := p) (stamp := stamp) other
    rw [← hconflict] at conflicts_
    refine ⟨_, exec_claim_heard hu hearing other p stamp, ?_, fun h conflict joined held room => ?_, fun out => ?_⟩
    · rw [finish_pm, State.reactClaim_holdings, (u.claimHeard_keeps m p stamp).holdings]
    · rw [finish_line]
      exact State.reactClaim_answers (conflicts_.2 conflict) joined held room
    · rw [finish_line]
      exact State.reactClaim_objects_of_out (out.imp_left fun apart => Bool.eq_false_iff.2 (mt conflicts_.1 apart))
  case own =>
    have conflicts_ := State.claimHeard_conflicts_iff (p := p) (stamp := stamp) other
    rw [← hconflict] at conflicts_
    have loses := State.claimHeard_loses_iff (m := m) (p := p) (stamp := stamp) mine
    refine ⟨_, exec_claim_heard hu hearing other p stamp, ?_, fun conflict same precedes => ?_, fun out => ?_⟩
    · rw [finish_pm, State.reactClaim_holdings, (u.claimHeard_keeps m p stamp).holdings]
    · obtain ⟨abandoned, rests⟩ := State.reactClaim_ends mine (conflicts_.2 conflict) (loses.2 ⟨same, precedes⟩)
      rw [finish_pm, finish_line]
      exact ⟨abandoned, fun idle => rests (mt howed.2 idle)⟩
    · have stands : (u.claimHeard m p stamp).conflictsWith m.number = false
          ∨ (u.claimHeard m p stamp).claimLosesTo m.number = false := by
        rw [Bool.eq_false_iff, Bool.eq_false_iff, ne_eq, ne_eq, conflicts_, loses, not_and_or, Bool.not_eq_true]
        exact out
      obtain ⟨claim, abandoned, rest⟩ := State.reactClaim_keeps mine stands
      rw [finish_pm]
      exact ⟨claim, abandoned, rest⟩
  case step =>
    obtain ⟨micros, react, core, announce, update, pays, blind, joined, effect⟩ := endsClaim_parts kind
    rw [← micros] at hu
    have reached := (effect u).trans (State.route_of_heard react hearing other)
    have reached₀ := (effect u.paid).trans (State.route_of_heard (s := u.paid) react hearing other)
    have keeps := u.heard_keeps m announce (update u)
    rw [hs₀]
    refine exec_owing pays (BlindToTick.heard m announce blind) hu ⟨owed, open_⟩ ?_ ?_ reached reached₀
    · rw [keeps.claim claims]
      exact claims
    · rw [joined, keeps.joined]

end Sys2Proof.Machine

/-! Holdings evicted one after another (R149, R151): what is left of the position manager, the plan and the waiting messages. -/

namespace Sys2Proof.Machine

/-! ## A burst cancelled -/

/-- A burst still PLANNED after another was cancelled stood so before, in another position. -/
theorem State.cancelBurst_planned {s : State} {p : Position} {o : Burst} (ho : o ∈ (s.cancelBurst p).plan.bursts)
    (progress : o.progress = .planned) : o ∈ s.plan.bursts ∧ o.position ≠ p := by
  by_cases planned : ∃ b ∈ s.plan.bursts, b.position = p ∧ b.progress = .planned
  · have bursts : (s.cancelBurst p).plan.bursts = (s.setProgress p .cancelled).plan.bursts := by
      rw [State.cancelBurst_of_planned planned]
      split
      · rfl
      · rw [State.retune_plan]
        rfl
    rw [bursts] at ho
    obtain ⟨b, hb, written⟩ := List.mem_map.1 ho
    split at written
    · subst written
      cases progress
    · rename_i elsewhere
      subst written
      exact ⟨hb, mt beq_iff_eq.2 elsewhere⟩
  · rw [State.cancelBurst_of_none fun b hb at_ waiting => planned ⟨b, hb, at_, waiting⟩] at ho
    exact ⟨ho, fun at_ => planned ⟨o, ho, at_, progress⟩⟩

/-! ## One eviction, part by part -/

/-- The position manager without a holding evicted. -/
def State.evictedPm (h : Stamped) (s : State) : PositionManager :=
  settle s.joined { s.pm with
    holdings := s.pm.holdings.filter (fun o => o.position != h.position), evictions := bump s.pm.evictions }

section
variable (h : Stamped) (s : State)

theorem State.evictOnly_pm : (s.evictOnly h).pm = s.evictedPm h := by
  rw [State.evictOnly_eq, State.cancelBurst_pm]
  rfl

theorem State.evictOnly_line :
    (s.evictOnly h).line = if s.joined then s.line.hand (.release h.position .evicted) else s.line := by
  rw [State.evictOnly_eq]

theorem State.evictOnly_link : (s.evictOnly h).link = s.link.raise .evicted := by
  rw [State.evictOnly_eq]

theorem State.evictOnly_plan :
    (s.evictOnly h).plan = (State.cancelBurst h.position { s with pm := s.evictedPm h }).plan := by
  rw [State.evictOnly_eq]
  rfl

theorem State.evictOnly_radio :
    (s.evictOnly h).radio = (State.cancelBurst h.position { s with pm := s.evictedPm h }).radio := by
  rw [State.evictOnly_eq]
  rfl

end

/-! ## Several evictions -/

/-- One of some holdings stands in the position. -/
def standsIn (l : List Stamped) (p : Position) : Bool := l.any (fun h => h.position == p)

theorem standsIn_iff {l : List Stamped} {p : Position} : standsIn l p = true ↔ ∃ h ∈ l, h.position = p := by
  simp [standsIn]

/-- From a to b the holdings l have been evicted, one after another. -/
structure Evicted (l : List Stamped) (a b : State) : Prop where
  loader : b.loader = a.loader
  timing : b.timing = a.timing
  holdings : b.pm.holdings = a.pm.holdings.filter (fun o => !standsIn l o.position)
  evictions : b.pm.evictions = bump^[l.length] a.pm.evictions
  claim : b.pm.claim = a.pm.claim
  claimRest : b.pm.claimRest = a.pm.claimRest
  abandoned : b.pm.abandoned = a.pm.abandoned
  tickOwed : b.pm.tickOwed = a.pm.tickOwed
  event : (l ≠ [] ∨ a.link.has .evicted = true) → b.link.has .evicted = true
  planned : ∀ o ∈ b.plan.bursts, o.progress = .planned → o ∈ a.plan.bursts ∧ standsIn l o.position = false
  released : ∀ w ∈ b.line.queue, w ∈ a.line.queue ∨ ∃ p, w.body = .release p .evicted
  stays : ∀ w ∈ a.line.queue, w.body.class_ ≤ 2 → w ∈ b.line.queue
  room : b.line.queue.length ≤ a.line.queue.length + l.length
  waits : a.joined = true → a.line.queue.length + l.length ≤ 6 →
    ∀ h ∈ l, ∃ w ∈ b.line.queue, w.body = .release h.position .evicted

namespace Evicted

variable {l k : List Stamped} {a b c : State}

theorem refl (a : State) : Evicted [] a a where
  loader := rfl
  timing := rfl
  holdings := (List.filter_eq_self.2 fun _ _ => rfl).symm
  evictions := rfl
  claim := rfl
  claimRest := rfl
  abandoned := rfl
  tickOwed := rfl
  event := fun h => h.resolve_left (absurd rfl)
  planned := fun _ ho _ => ⟨ho, rfl⟩
  released := fun _ => .inl
  stays := fun _ hw _ => hw
  room := le_rfl
  waits := fun _ _ => nofun

theorem trans (h : Evicted l a b) (g : Evicted k b c) : Evicted (l ++ k) a c where
  loader := g.loader.trans h.loader
  timing := g.timing.trans h.timing
  holdings := by
    rw [g.holdings, h.holdings, List.filter_filter]
    refine List.filter_congr fun o _ => ?_
    rw [standsIn, standsIn, standsIn, List.any_append, Bool.not_or, Bool.and_comm]
  evictions := by
    rw [g.evictions, h.evictions, List.length_append, Nat.add_comm, Function.iterate_add_apply]
  claim := g.claim.trans h.claim
  claimRest := g.claimRest.trans h.claimRest
  abandoned := g.abandoned.trans h.abandoned
  tickOwed := g.tickOwed.trans h.tickOwed
  event := fun some_ => by
    by_cases last : k = []
    · subst last
      rw [List.append_nil] at some_
      exact g.event (.inr (h.event some_))
    · exact g.event (.inl last)
  planned := fun o ho progress => by
    obtain ⟨between, right⟩ := g.planned o ho progress
    obtain ⟨before, left⟩ := h.planned o between progress
    refine ⟨before, ?_⟩
    rw [standsIn] at left right ⊢
    rw [List.any_append, left, right]
    rfl
  released := fun w hw => (g.released w hw).elim (h.released w) .inr
  stays := fun w hw low => g.stays w (h.stays w hw low) low
  room := by
    have left := h.room
    have right := g.room
    rw [List.length_append]
    omega
  waits := fun joined room x hx => by
    have left := h.room
    rw [List.length_append] at room
    obtain hx | hx := List.mem_append.1 hx
    · obtain ⟨w, hw, body⟩ := h.waits joined (by omega) x hx
      exact ⟨w, g.stays w hw (by rw [body]; exact le_rfl), body⟩
    · refine g.waits ?_ (by omega) x hx
      rw [State.joined, h.loader]
      exact joined

theorem evictOnly (h : Stamped) (a : State) : Evicted [h] a (a.evictOnly h) where
  loader := State.evictOnly_loader h a
  timing := State.evictOnly_timing h a
  holdings := by
    rw [State.evictOnly_pm, State.evictedPm, settle_holdings]
    refine List.filter_congr fun o _ => ?_
    rw [standsIn, List.any_cons, List.any_nil, Bool.or_false, bne, BEq.comm]
  evictions := by rw [State.evictOnly_pm]; rfl
  claim := by rw [State.evictOnly_pm]; rfl
  claimRest := by rw [State.evictOnly_pm]; rfl
  abandoned := by rw [State.evictOnly_pm]; rfl
  tickOwed := by rw [State.evictOnly_pm]; rfl
  event := fun _ => by simp [State.evictOnly_link, ShowLink.has_raise]
  planned := fun o ho progress => by
    rw [State.evictOnly_plan] at ho
    obtain ⟨before, elsewhere⟩ := State.cancelBurst_planned ho progress
    exact ⟨before, by simp [standsIn, elsewhere.symm]⟩
  released := fun w hw => by
    rw [State.evictOnly_line] at hw
    split at hw
    · obtain rfl | hw := HouseLine.mem_join hw
      · exact .inr ⟨_, rfl⟩
      · exact .inl hw
    · exact .inl hw
  stays := fun w hw low => by
    rw [State.evictOnly_line]
    split
    · exact HouseLine.mem_join_of_le low hw
    · exact hw
  room := by
    rw [State.evictOnly_line]
    split
    · exact HouseLine.join_length_le _ _
    · exact Nat.le_succ _
  waits := fun joined room x hx => by
    rw [List.mem_singleton] at hx
    subst hx
    rw [State.evictOnly_line, if_pos joined]
    obtain ⟨w, hw, body, -⟩ := HouseLine.hand_waits (body := .release x.position .evicted) (Nat.le_of_succ_le_succ room)
    exact ⟨w, hw, body⟩

theorem foldl (l : List Stamped) (a : State) : Evicted l a (l.foldl (fun s h => s.evictOnly h) a) := by
  induction l generalizing a with
  | nil => exact refl a
  | cons x xs ih => exact (evictOnly x a).trans (ih (a.evictOnly x))

end Evicted

end Sys2Proof.Machine

/-! What a message that has precedence asked leads to: the holdings lost, and what becomes of the station's own claim (R147 to
R149, R151, R156). -/

namespace Sys2Proof.Machine

/-! ## What an attempt keeps (R143) -/

/-- A claim attempt, or none, leaves all this of a state a. -/
structure AttemptKeeps (a b : State) : Prop where
  loader : b.loader = a.loader
  holdings : b.pm.holdings = a.pm.holdings
  evictions : b.pm.evictions = a.pm.evictions
  abandoned : b.pm.abandoned = a.pm.abandoned
  link : b.link = a.link
  plan : b.plan = a.plan
  radio : b.radio = a.radio
  stays : ∀ w ∈ a.line.queue, w.body.class_ ≤ 2 → w ∈ b.line.queue

namespace AttemptKeeps

variable {a b c : State}

theorem refl (a : State) : AttemptKeeps a a := ⟨rfl, rfl, rfl, rfl, rfl, rfl, rfl, fun _ hw _ => hw⟩

theorem trans (h : AttemptKeeps a b) (g : AttemptKeeps b c) : AttemptKeeps a c :=
  ⟨g.loader.trans h.loader, g.holdings.trans h.holdings, g.evictions.trans h.evictions, g.abandoned.trans h.abandoned,
    g.link.trans h.link, g.plan.trans h.plan, g.radio.trans h.radio, fun w hw low => g.stays w (h.stays w hw low) low⟩

theorem claimAttempt (a : State) : AttemptKeeps a a.claimAttempt := by
  obtain ⟨evictions, abandoned, -⟩ := a.claimAttempt_kept
  refine ⟨by simp, by simp, evictions, abandoned, by simp, by simp, by simp, fun w hw low => ?_⟩
  obtain h | ⟨p, h⟩ := a.claimAttempt_cases
  · rw [h]
    exact hw
  · rw [h, State.issueClaim, State.handOver_eq]
    dsimp only
    split
    · exact HouseLine.mem_join_of_le (low.trans (by decide : 2 ≤ 3)) hw
    · exact hw

theorem owedTick (a : State) : AttemptKeeps a a.owedTick := by
  unfold State.owedTick
  split
  · have paid : AttemptKeeps a { a.paid with pm := a.paid.fedPm } :=
      ⟨rfl, rfl, rfl, rfl, rfl, rfl, rfl, fun _ hw _ => hw⟩
    exact paid.trans (claimAttempt _)
  · exact refl a

end AttemptKeeps

/-! ## Holdings lost -/

/-- The holdings that a question about precedence finds lost, in the order in which they are evicted (R149). -/
def State.losers (asked : Stamped → Bool) (s : State) : List Stamped :=
  byIndex (s.pm.holdings.filter (fun h => asked h && peerPrecedes s.cfg s.peers h))

theorem State.evictWhere_eq (asked : Stamped → Bool) (s : State) : s.evictWhere asked =
    if s.losers asked = [] then s else ((s.losers asked).foldl (fun s h => s.evictOnly h) s).claimAttempt := by
  unfold State.evictWhere
  dsimp only
  exact if_congr List.isEmpty_iff rfl rfl

/-- The evictions, and then at most an attempt. -/
theorem State.evictWhere_parts (asked : Stamped → Bool) (s : State) : AttemptKeeps
    ((s.losers asked).foldl (fun s h => s.evictOnly h) s) (s.evictWhere asked) := by
  rw [State.evictWhere_eq]
  split
  · rename_i none_
    rw [none_]
    exact .refl s
  · exact .claimAttempt _

/-- From u, what a message has left to the loss of holdings: no more than the line's queue has grown. -/
structure ReadyToLose (u y : State) : Prop where
  loader : y.loader = u.loader
  holdings : y.pm.holdings = u.pm.holdings
  evictions : y.pm.evictions = u.pm.evictions
  plan : y.plan = u.plan
  radio : y.radio = u.radio
  localTime : y.timing.localTime = u.timing.localTime
  room : y.line.queue.length ≤ u.line.queue.length + 1

/-- From u to t the holdings l have been lost: evicted one after another, their bursts cancelled, RELEASEs handed over. -/
structure HoldingsLost (l : List Stamped) (u t : State) : Prop where
  holdings : t.pm.holdings = u.pm.holdings.filter (fun o => !standsIn l o.position)
  evictions : t.pm.evictions = bump^[l.length] u.pm.evictions
  event : l ≠ [] → t.link.has .evicted = true
  planned : ∀ o ∈ t.plan.bursts, o.progress = .planned → standsIn l o.position = false
  none_ : l = [] → t.radio = u.radio ∧ t.plan = u.plan
  one : ∀ h v, l = [h] → v = State.cancelBurst h.position { u with pm := { u.pm with holdings := t.pm.holdings } } →
    t.radio = v.radio ∧ t.plan = v.plan
  waits : u.joined = true → u.line.queue.length + l.length ≤ 5 →
    ∀ h ∈ l, ∃ w ∈ t.line.queue, w.body = .release h.position .evicted

theorem ReadyToLose.lost {u y : State} (ready : ReadyToLose u y) (asked : Stamped → Bool) :
    HoldingsLost (y.losers asked) u (y.evictWhere asked).owedTick := by
  obtain ⟨z, hz⟩ : ∃ z, z = (y.losers asked).foldl (fun s h => s.evictOnly h) y := ⟨_, rfl⟩
  have evicted : Evicted (y.losers asked) y z := hz ▸ Evicted.foldl _ y
  have keeps : AttemptKeeps z (y.evictWhere asked).owedTick :=
    (hz ▸ State.evictWhere_parts asked y).trans (.owedTick _)
  refine ⟨?_, ?_, fun some_ => ?_, fun o ho progress => ?_, fun none_ => ?_, fun h v one hv => ?_, fun joined room h hh => ?_⟩
  · rw [keeps.holdings, evicted.holdings, ready.holdings]
  · rw [keeps.evictions, evicted.evictions, ready.evictions]
  · rw [keeps.link]
    exact evicted.event (.inl some_)
  · rw [keeps.plan] at ho
    exact (evicted.planned o ho progress).2
  · rw [keeps.radio, keeps.plan, hz, none_]
    exact ⟨ready.radio, ready.plan⟩
  · have holdings : (y.evictedPm h).holdings = (y.evictWhere asked).owedTick.pm.holdings := by
      rw [keeps.holdings, hz, one, List.foldl_cons, List.foldl_nil, State.evictOnly_pm]
    have same := State.cancelBurst_congr (a := { y with pm := y.evictedPm h })
      (b := { u with pm := { u.pm with holdings := (y.evictWhere asked).owedTick.pm.holdings } }) h.position ready.plan
      ready.radio (congrArg Loader.station ready.loader) ready.localTime holdings
    rw [keeps.radio, keeps.plan, hz, one, List.foldl_cons, List.foldl_nil, State.evictOnly_radio, State.evictOnly_plan, hv]
    exact ⟨same.2, same.1⟩
  · have before := ready.room
    have joined' : y.joined = true := by rw [State.joined, ready.loader, ← joined, State.joined]
    obtain ⟨w, hw, body⟩ := evicted.waits joined' (by omega) h hh
    exact ⟨w, keeps.stays w hw (by rw [body]; exact le_rfl), body⟩

/-! ## The station's own claim meanwhile -/

section
variable {own : Stamped} {u y : State}

theorem ClaimStands.evictWhere (h : ClaimStands own u y) (asked : Stamped → Bool) :
    ClaimStands own u (y.evictWhere asked).owedTick := by
  have evicted := Evicted.foldl (y.losers asked) y
  have none_ := State.claimAttempt_of_not_mayClaim (State.mayClaim_of_claim (evicted.claim.trans h.claim))
  have stands : ClaimStands own u (y.evictWhere asked) := by
    rw [State.evictWhere_eq, none_]
    split
    · exact h
    · exact ⟨evicted.claim.trans h.claim, evicted.abandoned.trans h.abandoned, evicted.claimRest.trans h.claimRest⟩
  rw [State.owedTick_of_claim stands.claim]
  exact stands

theorem State.mayClaim_of_rest {s : State} (h : s.pm.claimRest = true) : s.mayClaim = false := by
  simp [State.mayClaim, h]

/-- The claim rests, so that the evictions bring no attempt. -/
theorem ClaimEnded.evictWhere (h : ClaimEnded own u y) (rest : y.pm.claimRest = true) (owing : y.owing ↔ u.owing)
    (asked : Stamped → Bool) : ClaimEnded own u (y.evictWhere asked).owedTick := by
  have evicted := Evicted.foldl (y.losers asked) y
  have none_ := State.claimAttempt_of_not_mayClaim (State.mayClaim_of_rest (evicted.claimRest.trans rest))
  have ended : ClaimEnded own u (y.evictWhere asked) ∧ ((y.evictWhere asked).owing ↔ u.owing) := by
    rw [State.evictWhere_eq, none_]
    split
    · exact ⟨h, owing⟩
    · refine ⟨⟨evicted.abandoned.trans h.abandoned, fun idle => ?_⟩, ?_⟩
      · obtain ⟨claim, rests, gone⟩ := h.rests idle
        refine ⟨evicted.claim.trans claim, evicted.claimRest.trans rests, fun w hw => ?_⟩
        obtain before | ⟨p, release⟩ := evicted.released w hw
        · exact gone w before
        · rw [release]
          nofun
      · rw [State.owing, evicted.tickOwed, evicted.timing]
        exact owing
  exact ended.1.owedTick ended.2

end

end Sys2Proof.Machine

/-! The peer table's answers on occupancy and precedence (R137, R138), a holding added (R131, R133), and losses read without
their order. -/

namespace Sys2Proof.Machine

/-! ## Losses without their order -/

theorem byIndex_perm (l : List Stamped) : (byIndex l).Perm l := sortBy_perm _ l

theorem standsIn_perm {l k : List Stamped} (h : l.Perm k) (p : Position) : standsIn l p = standsIn k p := h.any_eq

/-- Of holdings in distinct positions, the one in a lost holding's position is the lost holding. -/
theorem standsIn_eq_contains {held lost : List Stamped} (distinct : (held.map (·.position)).Nodup) (sub : lost ⊆ held)
    {o : Stamped} (ho : o ∈ held) : standsIn lost o.position = lost.contains o := by
  rw [Bool.eq_iff_iff, standsIn_iff, List.contains_iff_mem]
  constructor
  · rintro ⟨h, hh, same⟩
    rwa [← List.inj_on_of_nodup_map distinct (sub hh) ho same]
  · exact fun ho => ⟨o, ho, rfl⟩

theorem HoldingsLost.unordered {lost : List Stamped} {u t : State} (h : HoldingsLost (byIndex lost) u t) :
    HoldingsLost lost u t := by
  have perm := byIndex_perm lost
  have empty : byIndex lost = [] ↔ lost = [] := by rw [← List.length_eq_zero_iff, perm.length_eq, List.length_eq_zero_iff]
  obtain ⟨holdings, evictions, event, planned, none_, one, waits⟩ := h
  rw [perm.length_eq] at evictions waits
  simp only [standsIn_perm perm] at holdings planned
  refine ⟨holdings, evictions, fun some_ => event (mt empty.1 some_), planned, fun none => none_ (empty.2 none),
    fun x v one' => one x v ?_, fun joined room x hx => waits joined room x (perm.mem_iff.2 hx)⟩
  rw [one'] at perm ⊢
  exact List.perm_singleton.1 perm

/-! ## A holding added to a record (R131, R133) -/

section
variable {now : FrameNo} {restamp : Bool} {new : Stamped} {held : List Stamped}

theorem addHolding_of_present (h : ∃ o ∈ held, o.position = new.position) : addHolding now restamp new held =
    if restamp then held.map (fun h => if h.position == new.position then { h with stamp := new.stamp } else h) else held := by
  rw [addHolding, if_pos (by simpa [List.any_eq_true] using h)]

theorem addHolding_of_crowded (h : ∀ o ∈ held, o.position ≠ new.position) (full : 4 ≤ held.length) :
    addHolding now restamp new held = withoutNewest now held ++ [new] := by
  rw [addHolding, if_neg (by simpa [List.any_eq_true] using h), if_neg (by omega)]

/-- An OBJECT's holding stands in the record afterwards, under its stamp. -/
theorem mem_addHolding_restamped : new ∈ addHolding now true new held := by
  by_cases present : ∃ o ∈ held, o.position = new.position
  · rw [addHolding_of_present present, if_pos rfl]
    obtain ⟨o, ho, same⟩ := present
    refine List.mem_map.2 ⟨o, ho, ?_⟩
    rw [if_pos (beq_iff_eq.2 same), same]
  · have apart : ∀ o ∈ held, o.position ≠ new.position := fun o ho same => present ⟨o, ho, same⟩
    obtain room | full := Nat.lt_or_ge held.length 4
    · rw [addHolding_of_room true apart room]
      exact List.mem_append_right _ (List.mem_singleton_self new)
    · rw [addHolding_of_crowded apart full]
      exact List.mem_append_right _ (List.mem_singleton_self new)

end

/-! ## Occupancy (R137) -/

section
variable (cfg : ConfigImage) (peers : List PeerRecord) (p : Position) (n : Nat)

theorem PeerRecord.holds_iff (r : PeerRecord) : r.holds p = true ↔ ∃ h ∈ r.holdings, h.position = p := by
  simp [PeerRecord.holds]

theorem PeerRecord.claims_iff (r : PeerRecord) : r.claims p = true ↔ ∃ c, r.claim = some c ∧ c.position = p := by
  simp [PeerRecord.claims, Option.any_eq_true]

theorem mem_holders_iff : n ∈ (occupants cfg peers p).holders ↔
    ∃ r ∈ peers, r.number = n ∧ conflicts cfg r = true ∧ ∃ h ∈ r.holdings, h.position = p := by
  simp only [occupants, List.mem_map, List.mem_filter, Bool.and_eq_true, PeerRecord.holds_iff]
  exact exists_congr fun r => by tauto

theorem mem_claimants_iff : n ∈ (occupants cfg peers p).claimants ↔
    ∃ r ∈ peers, r.number = n ∧ conflicts cfg r = true ∧ ∃ c, r.claim = some c ∧ c.position = p := by
  simp only [occupants, List.mem_map, List.mem_filter, Bool.and_eq_true, PeerRecord.claims_iff]
  exact exists_congr fun r => by tauto

theorem occupied_iff : occupied cfg peers p = true ↔
    (occupants cfg peers p).holders ≠ [] ∨ (occupants cfg peers p).claimants ≠ [] := by
  rw [occupied, Bool.not_eq_true', Bool.and_eq_false_iff, ne_eq, ne_eq, ← List.isEmpty_iff, ← List.isEmpty_iff,
    Bool.not_eq_true, Bool.not_eq_true]

end

/-! ## Precedence (R138) -/

section
variable {cfg : ConfigImage} {peers : List PeerRecord} {h : Stamped}

/-- The record has precedence over the station's holding. -/
theorem PeerRecord.precedesAt_iff {r : PeerRecord} : r.precedesAt cfg h.position h.stamp = true ↔
    conflicts cfg r = true ∧ r.stale = false
      ∧ ∃ k ∈ r.holdings, k.position = h.position ∧ precedes k.stamp r.number h.stamp cfg.number = true := by
  simp [PeerRecord.precedesAt, and_assoc]

theorem peerPrecedes_iff : peerPrecedes cfg peers h = true ↔ ∃ r ∈ peers, conflicts cfg r = true ∧ r.stale = false
    ∧ ∃ k ∈ r.holdings, k.position = h.position ∧ precedes k.stamp r.number h.stamp cfg.number = true := by
  rw [peerPrecedes, precedenceOver, Option.isSome_map, isSome_firstBy, Bool.not_eq_true', List.isEmpty_eq_false_iff_exists_mem]
  simp only [List.mem_filter, PeerRecord.precedesAt_iff]

theorem precedenceOver_spec {n : Nat} (found : precedenceOver cfg peers h = some n) :
    ∃ r ∈ peers, r.number = n ∧ conflicts cfg r = true ∧ r.stale = false
      ∧ ∃ k ∈ r.holdings, k.position = h.position ∧ precedes k.stamp r.number h.stamp cfg.number = true := by
  obtain ⟨r, first, number⟩ := Option.map_eq_some_iff.1 found
  obtain ⟨hr, over_⟩ := List.mem_filter.1 (mem_of_firstBy first)
  exact ⟨r, hr, number, PeerRecord.precedesAt_iff.1 over_⟩

theorem precedenceOver_eq_none_iff : precedenceOver cfg peers h = none ↔ peerPrecedes cfg peers h = false := by
  rw [peerPrecedes, Option.isSome_eq_false_iff, Option.isNone_iff_eq_none]

end

end Sys2Proof.Machine

/-! From a message heard to the reaction of the position manager: the timing unit's part with the sender's record in hand, and
what stands ready for the losses. -/

namespace Sys2Proof.Machine

section
variable {m : Sender} {announce : Bool} {update : List PeerRecord → List PeerRecord} {u x : State}

/-! ## The timing unit (R136) -/

/-- An ANNOUNCE's part in the timing unit, before any review. -/
def State.gateHeard (m : Sender) (announce : Bool) (peers : List PeerRecord) (u : State) : Timing :=
  if announce then u.timing.hearFollowed u.cfg.number peers u.holds m.number
    (measure m u.line.heardFrame u.line.heardPhase).offset m.frame
  else u.timing

/-- The timing unit reviews its choice where the sender's record is new or shows another standing. -/
theorem State.heard_timing {r : PeerRecord} (found : findPeer (u.heard m announce update).peers m.number = some r) :
    (u.heard m announce update).timing =
      if (findPeer u.peers m.number).map (·.standing) = some r.standing then
        u.gateHeard m announce (u.heard m announce update).peers
      else (u.gateHeard m announce (u.heard m announce update).peers).review u.cfg.number (u.heard m announce update).peers
        u.holds := by
  rw [State.heard_peers] at found ⊢
  rw [State.heard, State.timingHears, State.setTiming_timing]
  dsimp only
  rw [found, reportsEligibility, Option.map_some]
  by_cases same : (findPeer u.peers m.number).map (·.standing) = some r.standing
  · rw [if_pos same, if_neg (by rw [same, bne_self_eq_false]; nofun)]
    rfl
  · rw [if_neg same, if_pos (bne_iff_ne.2 same)]
    rfl

/-! ## Ready for the losses -/

theorem State.heard_ready (m : Sender) (announce : Bool) (update : List PeerRecord → List PeerRecord) (u : State) :
    ReadyToLose u (u.heard m announce update) := by
  have keeps := u.heard_keeps m announce update
  exact ⟨keeps.loader, keeps.holdings, keeps.evictions, State.timingHears_plan _ _ _ _ _, State.timingHears_radio _ _ _ _ _,
    keeps.localTime, keeps.room⟩

theorem ReadyToLose.abandon (h : ReadyToLose u x) : ReadyToLose u x.abandonClaim := by
  cases claim : x.pm.claim with
  | none =>
    rw [State.abandonClaim_of_none claim]
    exact h
  | some c =>
    obtain ⟨loader, holdings, evictions, plan, radio, time, room⟩ := h
    rw [State.abandonClaim_of_some claim]
    exact ⟨loader, holdings, evictions, plan, radio, time, (List.length_filter_le _ _).trans room⟩

/-! ## The own claim -/

variable {own : Stamped}

theorem HeardKeeps.stands (h : HeardKeeps u x) (mine : u.pm.claim = some own) : ClaimStands own u x :=
  ⟨(h.claim (by rw [mine]; nofun)).trans mine, h.abandoned, h.claimRest⟩

theorem HeardKeeps.ended (h : HeardKeeps u x) (mine : u.pm.claim = some own) :
    ClaimEnded own u x.abandonClaim ∧ x.abandonClaim.pm.claimRest = true ∧ (x.abandonClaim.owing ↔ u.owing) := by
  have mine' := (h.stands mine).claim
  obtain ⟨abandoned, rests⟩ := State.abandonClaim_ended mine'
  refine ⟨⟨abandoned.trans (congrArg bump h.abandoned), fun idle => rests (mt h.owing_iff.1 idle)⟩, ?_,
    State.abandonClaim_owing.trans h.owing_iff⟩
  rw [State.abandonClaim_of_some mine']
  rfl

end

/-! ## An OBJECT heard (R131) -/

/-- The table with an OBJECT's two parts. -/
def takeObjection (f : FrameNo) (n : Nat) (h : Stamped) (claimant : Nat) (peers : List PeerRecord) : List PeerRecord :=
  updatePeer (updatePeer peers n (PeerRecord.takeObject f h)) claimant (PeerRecord.loseClaim h.position)

theorem PeerRecord.takeObject_keepsStanding (f : FrameNo) (h : Stamped) : KeepsStanding (PeerRecord.takeObject f h) :=
  ⟨fun _ => rfl, fun _ => rfl⟩

theorem PeerRecord.loseClaim_eq (p : Position) (r : PeerRecord) :
    r.loseClaim p = { r with claim := if r.claim.any (fun c => c.position == p) then none else r.claim } := by
  unfold PeerRecord.loseClaim
  split <;> rfl

theorem PeerRecord.loseClaim_number (p : Position) (r : PeerRecord) : (r.loseClaim p).number = r.number := by
  rw [PeerRecord.loseClaim_eq]

section
variable (m : Sender) (p : Position) (stamp : FrameNo) (claimant : Nat) (u : State)

/-- The state in which the position manager acts on an OBJECT. -/
def State.objectHeard : State :=
  u.heard m false (takeObjection u.timing.frameNumber m.number { position := p, stamp := stamp } claimant)

/-- The objector's record. -/
def State.objectorRecord : PeerRecord :=
  u.recordHeard m (PeerRecord.takeObject u.timing.frameNumber { position := p, stamp := stamp })

theorem State.objectHeard_found_of_objector : findPeer (u.objectHeard m p stamp claimant).peers m.number =
    some (if claimant = m.number then (u.objectorRecord m p stamp).loseClaim p else u.objectorRecord m p stamp) := by
  have objector := State.findPeer_takeMessage_self (PeerRecord.takeObject_keepsStanding u.timing.frameNumber
    { position := p, stamp := stamp }) m u
  have number : (u.objectorRecord m p stamp).number = m.number := number_of_findPeer objector
  refine State.heard_peers.symm ▸ ?_
  refine (findPeer_updatePeer (PeerRecord.loseClaim_number p) _ _ _).trans ((congrArg _ objector).trans ?_)
  change some (if ((u.objectorRecord m p stamp).number == claimant) = true then _ else _) = _
  rw [number]
  exact congrArg some (if_congr (beq_iff_eq.trans eq_comm) rfl rfl)

theorem State.objectHeard_found_of_other {n : Nat} (other : n ≠ m.number) :
    findPeer (u.objectHeard m p stamp claimant).peers n =
      (findPeer u.peers n).map (fun r => if n = claimant then r.loseClaim p else r) := by
  have before := State.findPeer_takeMessage_of_ne (PeerRecord.takeObject_keepsStanding u.timing.frameNumber
    { position := p, stamp := stamp }) other u
  refine State.heard_peers.symm ▸ ?_
  refine (findPeer_updatePeer (PeerRecord.loseClaim_number p) _ _ _).trans ((congrArg _ before).trans ?_)
  refine Option.map_congr fun r found => ?_
  rw [number_of_findPeer found]
  exact if_congr beq_iff_eq rfl rfl

end

end Sys2Proof.Machine

/-! Settling the statement on an OBJECT, occupancy and precedence (R131, R137, R138, R147 to R151). -/

namespace Sys2Proof.Machine

section
variable {m : Sender} {p : Position} {stamp : FrameNo} {claimant : Nat} {u : State}

/-! ## The objector's record -/

theorem State.objectorRecord_of_known {r₀ : PeerRecord} (known : findPeer u.peers m.number = some r₀) :
    u.objectorRecord m p stamp = PeerRecord.takeObject u.timing.frameNumber { position := p, stamp := stamp }
      (r₀.hear m (measure m u.line.heardFrame u.line.heardPhase) u.line.heardFrame) := by
  rw [State.objectorRecord, State.recordHeard, known]
  rfl

/-- The objector's record as it stands in the table, its claim lost where the OBJECT names it. -/
theorem State.objectHeard_found (m : Sender) (p : Position) (stamp : FrameNo) (claimant : Nat) (u : State) :
    ∃ claim, findPeer (u.objectHeard m p stamp claimant).peers m.number =
        some { u.objectorRecord m p stamp with claim := claim }
      ∧ (claimant = m.number → claim = if (u.objectorRecord m p stamp).claim.any (fun c => c.position == p) then none
          else (u.objectorRecord m p stamp).claim)
      ∧ (claimant ≠ m.number → claim = (u.objectorRecord m p stamp).claim) := by
  have found := State.objectHeard_found_of_objector m p stamp claimant u
  by_cases named : claimant = m.number
  · rw [if_pos named, PeerRecord.loseClaim_eq] at found
    exact ⟨_, found, fun _ => rfl, fun other => absurd named other⟩
  · rw [if_neg named] at found
    exact ⟨_, found, fun same => absurd same named, fun _ => rfl⟩

theorem State.objectHeard_claimant {q : PeerRecord} (known : findPeer u.peers claimant = some q) :
    ∃ q', findPeer (u.objectHeard m p stamp claimant).peers claimant = some q'
      ∧ (claimant ≠ m.number → q'.holdings = q.holdings)
      ∧ q'.claim = if q.claim.any (fun c => c.position == p) then none else q.claim := by
  by_cases named : claimant = m.number
  · subst named
    obtain ⟨claim, found, lost, -⟩ := State.objectHeard_found m p stamp m.number u
    refine ⟨_, found, fun other => absurd rfl other, ?_⟩
    rw [lost rfl, State.objectorRecord_of_known known]
    rfl
  · have found := State.objectHeard_found_of_other m p stamp claimant u named
    rw [known, Option.map_some, if_pos rfl] at found
    refine ⟨_, found, fun _ => ?_, ?_⟩
    all_goals rw [PeerRecord.loseClaim_eq]

/-- A message that keeps the stale mark has the choice reviewed where it shows a new timing state. -/
theorem State.objectHeard_timing (m : Sender) (p : Position) (stamp : FrameNo) (claimant : Nat) (u : State) :
    (u.objectHeard m p stamp claimant).timing =
      if (findPeer u.peers m.number).map (·.timing) = some m.timing then u.timing
      else u.timing.review u.cfg.number (u.objectHeard m p stamp claimant).peers (!u.pm.holdings.isEmpty) := by
  obtain ⟨claim, found, -⟩ := State.objectHeard_found m p stamp claimant u
  refine (State.heard_timing found).trans (if_congr ?_ rfl rfl)
  cases known : findPeer u.peers m.number with
  | none => simp
  | some r₀ =>
    rw [State.objectorRecord_of_known known]
    simp [PeerRecord.standing, PeerRecord.takeObject, PeerRecord.hear]

/-! ## The position manager's reaction -/

/-- The OBJECT is against the station's own claim (R148). -/
def State.objectedTo (n : Nat) (p : Position) (claimant : Nat) (x : State) : Bool :=
  x.pm.claim.any (fun own => own.position == p) && (claimant == x.cfg.number || x.conflictsWith n)

/-- What stands when precedence is asked. -/
def State.afterObjection (n : Nat) (p : Position) (claimant : Nat) (x : State) : State :=
  if x.objectedTo n p claimant then x.abandonClaim else x

theorem State.reactObject_eq (n : Nat) (p : Position) (claimant : Nat) (x : State) : x.reactObject n p claimant =
    ((x.afterObjection n p claimant).evictWhere (fun h => h.position == p)).owedTick := rfl

theorem State.afterObjection_peers (n : Nat) (x : State) : (x.afterObjection n p claimant).peers = x.peers := by
  rw [State.afterObjection, apply_ite State.peers, State.abandonClaim_peers, ite_self]

theorem ReadyToLose.objection {x : State} (h : ReadyToLose u x) (n : Nat) : ReadyToLose u (x.afterObjection n p claimant) := by
  unfold State.afterObjection
  split
  · exact h.abandon
  · exact h

theorem State.objectHeard_objectedTo {own : Stamped} (other : m.number ≠ u.cfg.number) (mine : u.pm.claim = some own) :
    (u.objectHeard m p stamp claimant).objectedTo m.number p claimant = true ↔
      own.position = p ∧ (claimant = u.cfg.number ∨ inNeighbours u.cfg.neighbours m.number = true
        ∨ ∃ r, findPeer u.peers m.number = some r ∧ inNeighbours r.neighbours u.cfg.number = true) := by
  have keeps : HeardKeeps u (u.objectHeard m p stamp claimant) := u.heard_keeps m false _
  obtain ⟨claim, found, -⟩ := State.objectHeard_found m p stamp claimant u
  rw [State.objectedTo, (keeps.stands mine).claim, Bool.and_eq_true, Bool.or_eq_true, beq_iff_eq, keeps.cfg,
    State.conflictsWith_iff_of_kept keeps.cfg other found rfl]
  simp

/-- The holdings that an OBJECT has lost, in their order of eviction. -/
theorem State.losers_of_object (n : Nat) (x : State) (same : ReadyToLose u x) :
    (x.afterObjection n p claimant).losers (fun h => h.position == p) =
      byIndex (u.pm.holdings.filter (fun h => h.position == p && peerPrecedes u.cfg x.peers h)) := by
  have ready := same.objection (p := p) (claimant := claimant) n
  have cfg : (x.afterObjection n p claimant).cfg = u.cfg := by rw [State.cfg, ready.loader, State.cfg]
  rw [State.losers, ready.holdings, State.afterObjection_peers, cfg]

end

end Sys2Proof.Machine

/-! Settling the statement on an OBJECT. -/

namespace Sys2Proof.Machine

section
variable {m : Sender} {p : Position} {stamp : FrameNo} {claimant : Nat} {u : State}

theorem State.objectorRecord_of_unknown (unknown : findPeer u.peers m.number = none) :
    u.objectorRecord m p stamp = PeerRecord.takeObject u.timing.frameNumber { position := p, stamp := stamp }
      ((PeerRecord.fresh m.number).hear m (measure m u.line.heardFrame u.line.heardPhase) u.line.heardFrame) := by
  rw [State.objectorRecord, State.recordHeard, unknown]
  rfl

/-- The state that an OBJECT leads to. -/
def State.objected (m : Sender) (p : Position) (stamp : FrameNo) (claimant : Nat) (u : State) : State :=
  (u.objectHeard m p stamp claimant).reactObject m.number p claimant

theorem State.objected_peers : (u.objected m p stamp claimant).peers = (u.objectHeard m p stamp claimant).peers := by
  rw [State.objected, State.reactObject_peers]

/-- The station's own claim after an OBJECT (R148). -/
theorem State.objected_claim {own : Stamped} (other : m.number ≠ u.cfg.number) (mine : u.pm.claim = some own) :
    (own.position = p → (claimant = u.cfg.number ∨ inNeighbours u.cfg.neighbours m.number = true
        ∨ ∃ r, findPeer u.peers m.number = some r ∧ inNeighbours r.neighbours u.cfg.number = true) →
      ClaimEnded own u (u.objected m p stamp claimant))
    ∧ (¬ (own.position = p ∧ (claimant = u.cfg.number ∨ inNeighbours u.cfg.neighbours m.number = true
        ∨ ∃ r, findPeer u.peers m.number = some r ∧ inNeighbours r.neighbours u.cfg.number = true)) →
      ClaimStands own u (u.objected m p stamp claimant)) := by
  have keeps : HeardKeeps u (u.objectHeard m p stamp claimant) := u.heard_keeps m false _
  have against := State.objectHeard_objectedTo (p := p) (stamp := stamp) (claimant := claimant) other mine
  refine ⟨fun same named => ?_, fun clear => ?_⟩
  · obtain ⟨ended, rest, owing⟩ := keeps.ended mine
    rw [State.objected, State.reactObject_eq, State.afterObjection, if_pos (against.2 ⟨same, named⟩)]
    exact ended.evictWhere rest owing _
  · rw [State.objected, State.reactObject_eq, State.afterObjection, if_neg (mt against.1 clear)]
    exact (keeps.stands mine).evictWhere _

/-- The holding lost to an OBJECT (R149). -/
theorem State.objected_lost {lost : List Stamped} (hlost : lost = u.pm.holdings.filter
      (fun h => h.position == p && peerPrecedes u.cfg (u.objected m p stamp claimant).peers h)) :
    HoldingsLost lost u (u.objected m p stamp claimant) := by
  have heard : ReadyToLose u (u.objectHeard m p stamp claimant) := State.heard_ready m false _ u
  have done := (heard.objection (p := p) (claimant := claimant) m.number).lost (fun h => h.position == p)
  rw [State.losers_of_object m.number _ heard, ← State.objected_peers, ← hlost] at done
  exact done.unordered

/-- Of holdings in distinct positions at most one stands in a position. -/
theorem eq_singleton_of_lost {held lost : List Stamped} {asked : Stamped → Bool} (distinct : (held.map (·.position)).Nodup)
    (hlost : lost = held.filter (fun h => h.position == p && asked h)) {h : Stamped} (hh : h ∈ lost) :
    lost = [h] ∧ h.position = p := by
  obtain ⟨held_, named⟩ := List.mem_filter.1 (hlost ▸ hh)
  obtain ⟨position, lost_⟩ := (Bool.and_eq_true _ _).mp named
  rw [beq_iff_eq] at position
  refine ⟨?_, position⟩
  rw [hlost, List.filter_congr fun x _ => Bool.and_comm (x.position == p) (asked x), ← List.filter_filter,
    filter_position_of_nodup distinct held_ position, List.filter_singleton, lost_]
  rfl

end

/-- Settles O38: the objector's record, the claimant's, the station's own claim and its holding. -/
theorem objectRecordsTheHolder : Obligations.ObjectRecordsTheHolder := by
  refine ⟨fun dt s u m p stamp claimant conflict lost owed hu howed hearing other hconflict => ?object,
    fun now restamp new held => ⟨addHolding_of_present, fun apart => ⟨fun room => addHolding_of_room restamp apart room,
      fun full => ?full⟩⟩,
    fun cfg peers p n => ⟨mem_holders_iff cfg peers p n, mem_claimants_iff cfg peers p n, occupied_iff cfg peers p⟩,
    fun cfg peers h => ⟨peerPrecedes_iff, precedenceOver_eq_none_iff, fun n found => precedenceOver_spec found⟩⟩
  case full =>
    obtain ⟨before, v, after, split, left, ahead, behind⟩ := withoutNewest_splits (now := now)
      (List.ne_nil_of_length_pos (by omega : 0 < held.length))
    exact ⟨before, v, after, split, by rw [addHolding_of_crowded apart full, left], ahead, behind⟩
  case object =>
    obtain ⟨t, ht⟩ : ∃ t, t = u.objected m p stamp claimant := ⟨_, rfl⟩
    have effect : Instr.effect (.object dt m p stamp claimant) u = t := by
      rw [ht]
      exact State.route_of_heard (m := m) (announce := false)
        (update := takeObjection u.timing.frameNumber m.number { position := p, stamp := stamp } claimant)
        (State.reactObject m.number p claimant) hearing other
    have peers : t.peers = (u.objectHeard m p stamp claimant).peers := ht ▸ State.objected_peers
    have timing : t.timing = (u.objectHeard m p stamp claimant).timing := by
      rw [ht, State.objected, State.reactObject_timing]
    obtain ⟨claim, found, lost_, kept⟩ := State.objectHeard_found m p stamp claimant u
    refine ⟨_, { u.objectorRecord m p stamp with claim := claim }, exec_of_effect hu effect, ?_⟩
    simp only [finish_show, finish_has, finish_cues, finish_clips, finish_pm, finish_line, finish_roster, finish_timing,
      finish_peers, finish_plan, finish_radio, finish_station, finish_config]
    rw [peers, timing]
    refine ⟨found, mem_addHolding_restamped, fun r₀ known => ?known, fun unknown => ?unknown, rfl, rfl, rfl, rfl,
      fun q known => State.objectHeard_claimant known, fun named unknown => ?absent, fun n foreign unnamed => ?others,
      ?_, ?_, ?_, ?_, ?_, ?_, State.objectHeard_timing m p stamp claimant u, fun own mine => ?claim,
      fun distinct hlost => ?lost⟩
    case known =>
      rw [State.objectorRecord_of_known known]
      exact ⟨rfl, rfl, rfl⟩
    case unknown =>
      have fresh := State.objectorRecord_of_unknown (p := p) (stamp := stamp) unknown
      have claimless : claim = none := by
        rw [fresh] at lost_ kept
        by_cases named : claimant = m.number
        · exact lost_ named
        · exact kept named
      rw [fresh, claimless]
      exact ⟨rfl, rfl, rfl, rfl⟩
    case absent =>
      rw [State.objectHeard_found_of_other m p stamp claimant u named, unknown]
      rfl
    case others =>
      rw [State.objectHeard_found_of_other m p stamp claimant u foreign]
      simp [unnamed]
    case claim =>
      obtain ⟨ended, stands⟩ := State.objected_claim (p := p) (stamp := stamp) (claimant := claimant) other mine
      rw [← hconflict, ← ht] at ended stands
      refine ⟨fun same named => ?_, fun clear => ?_⟩
      · obtain ⟨abandoned, rests⟩ := ended same named
        exact ⟨abandoned, fun idle => rests (mt howed.2 idle)⟩
      · have free : ¬ (own.position = p ∧ (claimant = u.cfg.number ∨ conflict)) := by
          rintro ⟨same, named⟩
          obtain elsewhere | ⟨unnamed, apart⟩ := clear
          · exact elsewhere same
          · exact named.elim unnamed apart
        obtain ⟨claim, abandoned, rest⟩ := stands free
        exact ⟨claim, abandoned, rest⟩
    case lost =>
      rw [← peers, ht] at hlost
      have done := State.objected_lost hlost
      rw [← ht] at done
      have contains : t.pm.holdings = u.pm.holdings.filter (fun h => !lost.contains h) := by
        rw [done.holdings]
        refine List.filter_congr fun o ho => ?_
        rw [standsIn_eq_contains distinct (hlost ▸ List.filter_subset_self _) ho]
      refine ⟨contains, fun none_ => ⟨?_, done.none_ none_⟩, fun v some_ hv => ?_, fun h hh => ?_⟩
      · rw [done.evictions, none_]
        rfl
      · obtain ⟨h, hh⟩ := List.exists_mem_of_ne_nil _ some_
        obtain ⟨one, position⟩ := eq_singleton_of_lost distinct hlost hh
        exact done.one h v one (position ▸ hv)
      · obtain ⟨one, position⟩ := eq_singleton_of_lost distinct hlost hh
        refine ⟨by rw [done.evictions, one]; rfl, done.event (List.ne_nil_of_mem hh), fun b hb at_ progress => ?_,
          fun joined room => ?_⟩
        · have free := done.planned b hb progress
          rw [standsIn_iff.2 ⟨h, hh, position.trans at_.symm⟩] at free
          cases free
        · rw [← position]
          refine done.waits joined ?_ h hh
          rw [one, List.length_singleton]
          omega
    all_goals simp [ht, State.objected, State.objectHeard, State.heard]

end Sys2Proof.Machine

/-! The measurement, the holdings of an ANNOUNCE without repetitions, the rate gate, and the timing unit's choices, case by case
(R101 to R108, R128, R136). -/

namespace Sys2Proof.Machine

/-! ## Measurement (R101) -/

section
variable {m : Sender} {ownFrame : FrameNo} {ownPhase : Nat}

theorem measure_of_above (h : 10000 ≤ (m.phase : Int) - (ownPhase : Int)) : measure m ownFrame ownPhase =
    { offset := (m.phase : Int) - (ownPhase : Int) - 20000, frameDiff := m.frame - ownFrame + 1 } := if_pos h

theorem measure_of_within (low : -10000 ≤ (m.phase : Int) - (ownPhase : Int))
    (high : (m.phase : Int) - (ownPhase : Int) ≤ 9999) : measure m ownFrame ownPhase =
      { offset := (m.phase : Int) - (ownPhase : Int), frameDiff := m.frame - ownFrame } :=
  (if_neg (by omega)).trans (if_neg (by omega))

theorem measure_of_below (h : (m.phase : Int) - (ownPhase : Int) < -10000) : measure m ownFrame ownPhase =
    { offset := (m.phase : Int) - (ownPhase : Int) + 20000, frameDiff := m.frame - ownFrame - 1 } :=
  (if_neg (by omega)).trans (if_pos h)

end

/-! ## Repeated positions (R128) -/

/-- One more listed holding: it joins the others, or its position stands once, under the older stamp. -/
def keepOnce (kept : List Stamped) (h : Stamped) : List Stamped :=
  if kept.any (fun k => k.position == h.position) then
    kept.map (fun k => if k.position == h.position then { k with stamp := olderStamp k.stamp h.stamp } else k)
  else kept ++ [h]

theorem dedupHoldings_cons (acc hs : List Stamped) (h : Stamped) :
    dedupHoldings acc (h :: hs) = dedupHoldings (keepOnce acc h) hs := by
  rw [dedupHoldings, keepOnce, apply_ite (fun l => dedupHoldings l hs)]

theorem dedupHoldings_append_singleton (acc hs : List Stamped) (h : Stamped) :
    dedupHoldings acc (hs ++ [h]) = keepOnce (dedupHoldings acc hs) h := by
  induction hs generalizing acc with
  | nil => exact dedupHoldings_cons acc [] h
  | cons x xs ih => rw [List.cons_append, dedupHoldings_cons, ih, dedupHoldings_cons]

theorem older_asymm {a b : FrameNo} (h : older b a = true) : older a b = false := by
  simp only [older, Bool.and_eq_true, decide_eq_true_eq, Bool.and_eq_false_iff, decide_eq_false_iff_not] at h ⊢
  rw [BitVec.toNat_sub] at h ⊢
  omega

theorem olderStamp_of_older {a b : FrameNo} (h : older a b = true) : olderStamp a b = a := if_pos h

theorem olderStamp_of_newer {a b : FrameNo} (h : older b a = true) : olderStamp a b = b :=
  (if_neg (by rw [older_asymm h]; nofun)).trans (if_pos h)

theorem olderStamp_either (a b : FrameNo) : olderStamp a b = a ∨ olderStamp a b = b := by
  unfold olderStamp
  (repeat' split) <;> simp

/-! ## The rate gate (R102, R103) -/

theorem beyond_iff (bound : Nat) (offset : Int) : beyond bound offset = true ↔ offset < -(bound : Int) ∨ (bound : Int) < offset := by
  rw [beyond, Bool.or_eq_true, decide_eq_true_eq, decide_eq_true_eq, or_comm]

theorem beyond_eq_false {bound : Nat} {offset : Int} (low : -(bound : Int) ≤ offset) (high : offset ≤ bound) :
    beyond bound offset = false := by
  rw [Bool.eq_false_iff, ne_eq, beyond_iff]
  omega

section
variable {offset : Int} {frame : FrameNo} {t : Timing}

theorem Timing.feedGate_of_empty (h : t.gate = none) :
    t.feedGate offset frame = { t with gate := some { offset := offset, frame := frame } } := by
  rw [Timing.feedGate, h]

theorem Timing.feedGate_of_off {g : FrameAnchor} (h : t.gate = some g) (off : frame ≠ g.frame + 50) :
    t.feedGate offset frame = { t with gate := some { offset := offset, frame := frame }, lockCount := 0 } := by
  rw [Timing.feedGate, h]
  exact if_neg (mt beq_iff_eq.1 off)

theorem Timing.feedGate_of_on {g : FrameAnchor} (h : t.gate = some g) (on : frame = g.frame + 50) :
    t.feedGate offset frame = { t with
      gate := some { offset := offset, frame := frame }
      trim := max (-200) (min 200 (offset - g.offset + t.trim + Int.tdiv offset 4))
      lockCount := if -50 ≤ offset ∧ offset ≤ 50 then min 3 (t.lockCount + 1) else 0 } := by
  rw [Timing.feedGate, h]
  refine (if_pos (beq_iff_eq.2 on)).trans ?_
  have within : (if beyond 50 offset then 0 else min 3 (t.lockCount + 1))
      = if -50 ≤ offset ∧ offset ≤ 50 then min 3 (t.lockCount + 1) else 0 := by
    by_cases close : -50 ≤ offset ∧ offset ≤ 50
    · rw [if_pos close, beyond_eq_false close.1 close.2]
      rfl
    · rw [if_neg close, if_pos ((beyond_iff 50 offset).2 (by omega))]
  rw [within]
  rfl

/-- The gate touches neither the timing state nor whom the station follows. -/
theorem Timing.feedGate_kept (offset : Int) (frame : FrameNo) (t : Timing) :
    (t.feedGate offset frame).state = t.state ∧ (t.feedGate offset frame).followed = t.followed := by
  cases gate : t.gate with
  | none =>
    rw [Timing.feedGate_of_empty gate]
    exact ⟨rfl, rfl⟩
  | some g =>
    by_cases on : frame = g.frame + 50
    · rw [Timing.feedGate_of_on gate on]
      exact ⟨rfl, rfl⟩
    · rw [Timing.feedGate_of_off gate on]
      exact ⟨rfl, rfl⟩

/-! ## An ANNOUNCE of the followed station -/

variable {own n : Nat} {peers : List PeerRecord} {holds : Bool}

theorem Timing.hearFollowed_of_other (h : t.followed ≠ some n) : t.hearFollowed own peers holds n offset frame = t :=
  if_neg (mt beq_iff_eq.1 h)

theorem Timing.hearFollowed_of_followed (h : t.followed = some n) : t.hearFollowed own peers holds n offset frame =
    let locked := (t.feedGate offset frame).lockIn own peers holds
    if locked.followed == some n && (locked.state == .acquire || locked.state == .locked) && beyond 2000 offset then
      locked.decide_ holds
    else locked := if_pos (beq_iff_eq.2 h)

/-- An offset within 2,000 µs decides no change. -/
theorem Timing.hearFollowed_of_near (h : t.followed = some n) (near : beyond 2000 offset = false) :
    t.hearFollowed own peers holds n offset frame = (t.feedGate offset frame).lockIn own peers holds := by
  rw [Timing.hearFollowed_of_followed h]
  dsimp only
  rw [near, Bool.and_false]
  rfl

theorem Timing.lockIn_of_count {g : Timing} (state : g.state = .acquire) (count : 3 ≤ g.lockCount) :
    g.lockIn own peers holds = Timing.chooseLocked own peers holds { g with state := .locked } :=
  if_pos (by simp [state, count])

theorem Timing.lockIn_of_kept {g : Timing} (h : g.state = .acquire ∧ g.lockCount < 3 ∨ g.state = .locked) :
    g.lockIn own peers holds = g := by
  refine if_neg fun lock => ?_
  simp only [Bool.and_eq_true, beq_iff_eq, decide_eq_true_eq] at lock
  obtain ⟨acquire, count⟩ := lock
  obtain ⟨-, few⟩ | locked := h
  · omega
  · rw [acquire] at locked
    cases locked

theorem Timing.hearFollowed_of_kept (h : t.followed = some n)
    (state : t.state = .acquire ∧ (t.feedGate offset frame).lockCount < 3 ∨ t.state = .locked) :
    t.hearFollowed own peers holds n offset frame =
      if beyond 2000 offset then (t.feedGate offset frame).decide_ holds else t.feedGate offset frame := by
  obtain ⟨sameState, sameFollowed⟩ := Timing.feedGate_kept offset frame t
  have served : (t.state == .acquire || t.state == .locked) = true := by
    obtain ⟨h, -⟩ | h := state
    all_goals rw [h]; rfl
  rw [Timing.hearFollowed_of_followed h, Timing.lockIn_of_kept (by rw [sameState]; exact state)]
  dsimp only
  rw [sameState, sameFollowed, h, served, beq_self_eq_true]
  rfl

end

/-! ## A change decided (R108) -/

theorem Timing.decide_of_restep {holds : Bool} {t : Timing}
    (h : t.change = .restepHeld ∨ t.change = .restep ∨ t.change = .restepSilent) :
    t.decide_ holds = { t with state := .acquire } := by
  unfold Timing.decide_
  dsimp only
  obtain h | h | h := h
  all_goals rw [h]

theorem Timing.decide_of_free {holds : Bool} {t : Timing}
    (h : t.change = .none ∨ t.change = .stepHeld ∨ t.change = .step) :
    t.decide_ holds = { t with
      state := .acquire
      change := if holds then (if t.atBoundary then .restepHeld else .restep) else (if t.atBoundary then .stepHeld else .step) } := by
  have same : Timing.atBoundary { t with state := .acquire } = t.atBoundary := rfl
  unfold Timing.decide_
  dsimp only
  rw [same]
  obtain h | h | h := h
  all_goals rw [h]; cases holds <;> rfl

end Sys2Proof.Machine

/-! The choice of the station to follow, case by case (R104 to R107, R136). -/

namespace Sys2Proof.Machine

/-- The station follows a peer in a timing state: a new one empties the gate and clears the lock count (R102). -/
def Timing.taken (t : Timing) (n : Nat) (state : TimingState) : Timing :=
  if t.followed = some n then { t with state := state }
  else { t with followed := some n, gate := none, lockCount := 0, state := state }

theorem Timing.taken_eq (t : Timing) (n : Nat) (state : TimingState) : { t.follow (some n) with state := state } = t.taken n state := by
  unfold Timing.taken
  split
  · rename_i same
    rw [Timing.follow_of_same same]
  · rename_i other
    rw [Timing.follow_of_other other]

section
variable {own n : Nat} {peers : List PeerRecord} {holds : Bool} {t : Timing}

theorem offsetOf_of_found {r : PeerRecord} (h : findPeer peers n = some r) : offsetOf peers n = r.offset := by
  rw [offsetOf, h]

theorem Timing.acquire_of_near (near : beyond 2000 (offsetOf peers n) = false) :
    t.acquire_ peers holds n = t.taken n .acquire := by
  rw [Timing.acquire_, near, ← Timing.taken_eq]
  rfl

theorem Timing.acquire_of_far (far : beyond 2000 (offsetOf peers n) = true) :
    t.acquire_ peers holds n = (t.taken n .acquire).decide_ holds := by
  rw [Timing.acquire_, far, ← Timing.taken_eq]
  rfl

theorem Timing.enterPace_of_following (h : t.followed ≠ none) :
    t.enterPace = { t with followed := none, gate := none, lockCount := 0, state := .pace } := by
  rw [Timing.enterPace, Timing.follow_of_other h]

/-! ## The choice in LOCKED (R107) -/

theorem Timing.chooseLocked_of_none (h : lowestEligibleBelow peers own = none) :
    t.chooseLocked own peers holds = t.enterPace := by
  rw [Timing.chooseLocked, h]

theorem Timing.chooseLocked_of_some (h : lowestEligibleBelow peers own = some n) : t.chooseLocked own peers holds =
    if t.followed = some n then t
    else if beyond 50 (offsetOf peers n) then t.acquire_ peers holds n else t.taken n .locked := by
  rw [Timing.chooseLocked, h]
  exact if_congr beq_iff_eq rfl (if_congr Iff.rfl rfl (Timing.taken_eq t n .locked))

/-! ## The review in each timing state (R105 to R107) -/

theorem Timing.review_of_pace (state : t.state = .pace) : t.review own peers holds =
    match lowestEligibleBelow peers own with
    | some n => if beyond 50 (offsetOf peers n) then t.acquire_ peers holds n else t.taken n .locked
    | none => t := by
  rw [Timing.review, state]
  cases lowestEligibleBelow peers own with
  | none => rfl
  | some n => exact if_congr Iff.rfl rfl (Timing.taken_eq t n .locked)

theorem Timing.review_of_locked (state : t.state = .locked) :
    t.review own peers holds = t.chooseLocked own peers holds := by
  rw [Timing.review, state]

theorem Timing.review_of_lost (state : t.state = .acquire) (lost : followedLost peers t.followed = true) :
    t.review own peers holds = match lowestEligible peers with
      | some n => t.acquire_ peers holds n
      | none => t.enterPace := by
  rw [Timing.review, state]
  dsimp only
  refine (if_pos lost).trans ?_
  unfold Timing.chooseAny
  cases lowestEligible peers <;> rfl

theorem Timing.review_of_served {f : Nat} (state : t.state = .acquire) (followed : t.followed = some f)
    (served : followedLost peers (some f) = false) : t.review own peers holds = match lowestEligible peers with
      | some n => if n < f then t.acquire_ peers holds n else t
      | none => t := by
  rw [Timing.review, state]
  dsimp only
  rw [followed, if_neg (by rw [served]; nofun)]
  cases lowestEligible peers with
  | none => rfl
  | some n => exact if_congr (by simp) rfl rfl

end

/-! ## The followed station lost (R106) -/

section
variable {peers : List PeerRecord} {f : Nat}

theorem followedLost_eq_true (h : ∀ r, findPeer peers f = some r → r.timing ≠ .pace ∧ r.timing ≠ .locked) :
    followedLost peers (some f) = true := by
  cases found : findPeer peers f with
  | none => rw [followedLost, Option.bind_some, found]
  | some r =>
    obtain ⟨pace, locked⟩ := h r found
    rw [followedLost_of_found found, beq_false_of_ne pace, beq_false_of_ne locked]
    rfl

theorem followedLost_eq_false {r : PeerRecord} (found : findPeer peers f = some r) (h : r.timing = .pace ∨ r.timing = .locked) :
    followedLost peers (some f) = false := by
  rw [followedLost_of_found found]
  obtain h | h := h
  all_goals rw [h]; rfl

/-! ## The lowest eligible record (R136) -/

theorem PeerRecord.eligible_iff (r : PeerRecord) :
    r.eligible = true ↔ r.stale = false ∧ (r.timing = .pace ∨ r.timing = .locked) := by
  simp [PeerRecord.eligible]

theorem lowestEligible_spec {n : Nat} (h : lowestEligible peers = some n) :
    (∃ r ∈ peers, r.number = n ∧ r.stale = false ∧ (r.timing = .pace ∨ r.timing = .locked))
      ∧ ∀ r ∈ peers, r.stale = false → r.timing = .pace ∨ r.timing = .locked → n ≤ r.number := by
  obtain ⟨r, first, rfl⟩ := Option.map_eq_some_iff.1 h
  obtain ⟨hr, eligible⟩ := List.mem_filter.1 (mem_of_firstBy first)
  refine ⟨⟨r, hr, rfl, r.eligible_iff.1 eligible⟩, fun q hq fresh timing => ?_⟩
  exact firstBy_least (rank := PeerRecord.number) (fun _ _ => rfl) first q
    (List.mem_filter.2 ⟨hq, q.eligible_iff.2 ⟨fresh, timing⟩⟩)

theorem lowestEligible_eq_none (h : lowestEligible peers = none) :
    ∀ r ∈ peers, r.stale = true ∨ (r.timing ≠ .pace ∧ r.timing ≠ .locked) := by
  intro r hr
  by_contra eligible
  have some_ := isSome_firstBy (fun a b : PeerRecord => a.number < b.number) (peers.filter PeerRecord.eligible)
  rw [Option.map_eq_none_iff.1 h] at some_
  have here : r ∈ peers.filter PeerRecord.eligible := by
    refine List.mem_filter.2 ⟨hr, r.eligible_iff.2 ?_⟩
    rw [not_or, Bool.not_eq_true] at eligible
    exact ⟨eligible.1, by tauto⟩
  rw [List.isEmpty_eq_false_iff_exists_mem.2 ⟨r, here⟩] at some_
  cases some_

end

/-! ## The choices, put together -/

section
variable (own : Nat) (peers : List PeerRecord) (holds : Bool) (t : Timing)

theorem Timing.acquire_cases {n : Nat} {r : PeerRecord} (found : findPeer peers n = some r) :
    (-2000 ≤ r.offset → r.offset ≤ 2000 → t.acquire_ peers holds n = t.taken n .acquire)
    ∧ (r.offset < -2000 ∨ 2000 < r.offset → t.acquire_ peers holds n = (t.taken n .acquire).decide_ holds) := by
  have offset := offsetOf_of_found found
  refine ⟨fun low high => Timing.acquire_of_near ?_, fun far => Timing.acquire_of_far ?_⟩
  · rw [offset]
    exact beyond_eq_false low high
  · rw [offset]
    exact (beyond_iff 2000 r.offset).2 far

theorem Timing.choice_of_found {n : Nat} {r : PeerRecord} (below : lowestEligibleBelow peers own = some n)
    (found : findPeer peers n = some r) :
    (t.followed = some n → t.chooseLocked own peers holds = t)
    ∧ (t.followed ≠ some n → -50 ≤ r.offset → r.offset ≤ 50 → t.chooseLocked own peers holds = t.taken n .locked)
    ∧ (t.followed ≠ some n → r.offset < -50 ∨ 50 < r.offset → t.chooseLocked own peers holds = t.acquire_ peers holds n)
    ∧ (t.state = .pace → -50 ≤ r.offset → r.offset ≤ 50 → t.review own peers holds = t.taken n .locked)
    ∧ (t.state = .pace → r.offset < -50 ∨ 50 < r.offset → t.review own peers holds = t.acquire_ peers holds n) := by
  have near (low : -50 ≤ r.offset) (high : r.offset ≤ 50) : ¬ beyond 50 (offsetOf peers n) = true := by
    rw [offsetOf_of_found found, beyond_eq_false low high]
    nofun
  have far (h : r.offset < -50 ∨ 50 < r.offset) : beyond 50 (offsetOf peers n) = true := by
    rw [offsetOf_of_found found]
    exact (beyond_iff 50 r.offset).2 h
  rw [Timing.chooseLocked_of_some below]
  refine ⟨fun same => if_pos same, fun other low high => (if_neg other).trans (if_neg (near low high)),
    fun other h => (if_neg other).trans (if_pos (far h)), fun state low high => ?_, fun state h => ?_⟩
  · rw [Timing.review_of_pace state, below]
    exact if_neg (near low high)
  · rw [Timing.review_of_pace state, below]
    exact if_pos (far h)

theorem Timing.review_of_acquire {f : Nat} (state : t.state = .acquire) (followed : t.followed = some f) :
    ((∀ r, findPeer peers f = some r → r.timing ≠ .pace ∧ r.timing ≠ .locked) →
      (lowestEligible peers = none → t.review own peers holds = t.enterPace)
      ∧ (∀ n, lowestEligible peers = some n → t.review own peers holds = t.acquire_ peers holds n))
    ∧ (∀ r, findPeer peers f = some r → r.timing = .pace ∨ r.timing = .locked →
      (∀ n, lowestEligible peers = some n → n < f → t.review own peers holds = t.acquire_ peers holds n)
      ∧ ((∀ n, lowestEligible peers = some n → f ≤ n) → t.review own peers holds = t)) := by
  refine ⟨fun gone => ?_, fun r found served => ?_⟩
  · rw [Timing.review_of_lost state (by rw [followed]; exact followedLost_eq_true gone)]
    exact ⟨fun none_ => by rw [none_], fun n lowest => by rw [lowest]⟩
  · rw [Timing.review_of_served state followed (followedLost_eq_false found served)]
    refine ⟨fun n lowest below => ?_, fun least => ?_⟩
    · rw [lowest]
      exact if_pos below
    · cases lowest : lowestEligible peers with
      | none => rfl
      | some n => exact if_neg (Nat.not_lt_of_le (least n lowest))

end

end Sys2Proof.Machine

/-! An ANNOUNCE heard: the sender's record replaced, the station's own claim and the holdings lost (R129, R133, R147 to R151). -/

namespace Sys2Proof.Machine

section
variable (m : Sender) (a : AnnounceFields) (u : State)

/-! ## The sender's record (R129, R133) -/

/-- The record as an ANNOUNCE lists it, before a claim whose window has ended passes. -/
def State.listedRecord : PeerRecord :=
  { number := m.number, neighbours := a.neighbours, timing := m.timing
    offset := (measure m u.line.heardFrame u.line.heardPhase).offset
    frameDiff := (measure m u.line.heardFrame u.line.heardPhase).frameDiff
    lastHeard := u.line.heardFrame, stale := false, holdings := dedupHoldings [] a.holdings
    claim := a.claim.map fun c =>
      { position := c.position, stamp := c.stamp
        windowEnd := c.stamp + 13 - (measure m u.line.heardFrame u.line.heardPhase).frameDiff } }

/-- The record that an ANNOUNCE leaves. -/
def State.announceRecord : PeerRecord :=
  if (u.listedRecord m a).claimDue u.timing.frameNumber then (u.listedRecord m a).passClaim u.timing.frameNumber
  else u.listedRecord m a

/-- The state in which the position manager acts on an ANNOUNCE. -/
def State.announceHeard : State :=
  u.heard m true (fun peers => updatePeer peers m.number (PeerRecord.takeAnnounce u.timing.frameNumber a))

theorem PeerRecord.takeAnnounce_number (f : FrameNo) (r : PeerRecord) : (r.takeAnnounce f a).number = r.number := by
  unfold PeerRecord.takeAnnounce
  dsimp only
  split
  · exact PeerRecord.passClaim_number f _
  · rfl

theorem State.takeAnnounce_hear {r : PeerRecord} (number : r.number = m.number) : PeerRecord.takeAnnounce u.timing.frameNumber a
    (r.hear m (measure m u.line.heardFrame u.line.heardPhase) u.line.heardFrame) = u.announceRecord m a := by
  rw [State.announceRecord, State.listedRecord, ← number]
  rfl

theorem State.announceHeard_found : findPeer (u.announceHeard m a).peers m.number = some (u.announceRecord m a) := by
  have number : ((findPeer u.peers m.number).getD (.fresh m.number)).number = m.number := by
    cases found : findPeer u.peers m.number with
    | none => rfl
    | some r => exact number_of_findPeer found
  rw [State.announceHeard, State.heard_peers, findPeer_updatePeer_self (PeerRecord.takeAnnounce_number a _), takeCommon_eq,
    findPeer_updatePeer_self (PeerRecord.hear_number m _ _), findPeer_ensurePeer_self, Option.map_some, Option.map_some,
    State.takeAnnounce_hear m a u number]

theorem State.announceHeard_found_of_other {n : Nat} (other : n ≠ m.number) :
    findPeer (u.announceHeard m a).peers n = findPeer u.peers n := by
  rw [State.announceHeard, State.heard_peers, findPeer_updatePeer_of_ne (PeerRecord.takeAnnounce_number a _) _ other,
    takeCommon_eq, findPeer_updatePeer_of_ne (PeerRecord.hear_number m _ _) _ other, findPeer_ensurePeer_of_ne _ other]

end

section
variable {m : Sender} {a : AnnounceFields} {u : State}

theorem State.listedRecord_due : (u.listedRecord m a).claimDue u.timing.frameNumber = true ↔
    ∃ c, a.claim = some c ∧ (u.timing.frameNumber
      - (c.stamp + 13 - (measure m u.line.heardFrame u.line.heardPhase).frameDiff)).toNat < 2147483648 := by
  cases claim : a.claim with
  | none => simp [PeerRecord.claimDue, State.listedRecord, claim]
  | some c =>
    rw [PeerRecord.claimDue_iff (c := ⟨c.position, c.stamp,
      c.stamp + 13 - (measure m u.line.heardFrame u.line.heardPhase).frameDiff⟩) _ (by rw [State.listedRecord, claim]; rfl)]
    simp

theorem State.announceRecord_of_kept (h : (u.listedRecord m a).claimDue u.timing.frameNumber = false) :
    u.announceRecord m a = u.listedRecord m a := if_neg (by rw [h]; nofun)

theorem State.announceRecord_of_passed {c : Stamped} (h : (u.listedRecord m a).claimDue u.timing.frameNumber = true)
    (claim : a.claim = some c) : u.announceRecord m a = { u.listedRecord m a with
      holdings := addHolding (u.timing.frameNumber + (measure m u.line.heardFrame u.line.heardPhase).frameDiff) false c
        (dedupHoldings [] a.holdings)
      claim := none } := by
  refine (if_pos h).trans ?_
  exact PeerRecord.passClaim_of_claim (c := ⟨c.position, c.stamp,
    c.stamp + 13 - (measure m u.line.heardFrame u.line.heardPhase).frameDiff⟩) _ (by rw [State.listedRecord, claim]; rfl)

/-- But for holdings and claim the record is as the ANNOUNCE lists it. -/
theorem State.announceRecord_frame : u.announceRecord m a = { u.listedRecord m a with
    holdings := (u.announceRecord m a).holdings, claim := (u.announceRecord m a).claim } := by
  unfold State.announceRecord PeerRecord.passClaim
  (repeat' split) <;> rfl

/-! ## The reaction -/

/-- The ANNOUNCE is against the station's own claim (R147, R148). -/
def State.announcedAgainst (n : Nat) (a : AnnounceFields) (x : State) : Bool :=
  x.conflictsWith n && (x.claimLosesTo n || x.claimListed a)

/-- What stands when precedence is asked. -/
def State.afterAnnounce (n : Nat) (a : AnnounceFields) (x : State) : State :=
  if x.announcedAgainst n a then x.abandonClaim else x

theorem State.reactAnnounce_eq (n : Nat) (x : State) : x.reactAnnounce n a =
    ((x.afterAnnounce n a).evictWhere ((x.afterAnnounce n a).listedBy n)).owedTick := rfl

theorem State.afterAnnounce_peers (n : Nat) (x : State) : (x.afterAnnounce n a).peers = x.peers := by
  rw [State.afterAnnounce, apply_ite State.peers, State.abandonClaim_peers, ite_self]

theorem ReadyToLose.announce {x : State} (h : ReadyToLose u x) (n : Nat) : ReadyToLose u (x.afterAnnounce n a) := by
  unfold State.afterAnnounce
  split
  · exact h.abandon
  · exact h

theorem State.announceHeard_keeps (m : Sender) (a : AnnounceFields) (u : State) : HeardKeeps u (u.announceHeard m a) :=
  u.heard_keeps m true _

theorem State.announceHeard_conflicts (other : m.number ≠ u.cfg.number) :
    (u.announceHeard m a).conflictsWith m.number = true ↔
      inNeighbours u.cfg.neighbours m.number = true ∨ inNeighbours a.neighbours u.cfg.number = true := by
  rw [State.conflictsWith_of_found (State.announceHeard_found m a u), (State.announceHeard_keeps m a u).cfg,
    State.announceRecord_frame]
  exact conflicts_iff (r := { u.listedRecord m a with holdings := _, claim := _ }) other

/-- The claim that an ANNOUNCE lists has precedence over the station's own, unless it has passed. -/
theorem State.announceHeard_loses {own : Stamped} (mine : u.pm.claim = some own) :
    (u.announceHeard m a).claimLosesTo m.number = true ↔ (u.listedRecord m a).claimDue u.timing.frameNumber = false
      ∧ ∃ c, a.claim = some c ∧ c.position = own.position ∧ precedes c.stamp m.number own.stamp u.cfg.number = true := by
  have keeps := State.announceHeard_keeps m a u
  have mine' := (keeps.stands mine).claim
  have found := State.announceHeard_found m a u
  have unclaimed (h : (u.announceRecord m a).claim = none) : (u.announceHeard m a).claimLosesTo m.number = false := by
    have theirs : (findPeer (u.announceHeard m a).peers m.number).bind (·.claim) = none := by
      rw [found, Option.bind_some, h]
    rw [State.claimLosesTo, mine', theirs]
  cases claim : a.claim with
  | none =>
    have kept : (u.listedRecord m a).claimDue u.timing.frameNumber = false := by
      rw [Bool.eq_false_iff, ne_eq, State.listedRecord_due, claim]
      simp
    rw [unclaimed (by rw [State.announceRecord_of_kept kept, State.listedRecord, claim]; rfl)]
    simp
  | some c =>
    cases due : (u.listedRecord m a).claimDue u.timing.frameNumber with
    | true =>
      rw [unclaimed (by rw [State.announceRecord_of_passed due claim])]
      simp
    | false =>
      have theirs : (u.announceRecord m a).claim = some ⟨c.position, c.stamp,
          c.stamp + 13 - (measure m u.line.heardFrame u.line.heardPhase).frameDiff⟩ := by
        rw [State.announceRecord_of_kept due, State.listedRecord, claim]
        rfl
      rw [State.claimLosesTo_iff mine' found theirs, keeps.cfg]
      simp [eq_comm (a := own.position)]

theorem State.announceHeard_against {own : Stamped} (other : m.number ≠ u.cfg.number) (mine : u.pm.claim = some own) :
    (u.announceHeard m a).announcedAgainst m.number a = true ↔
      (inNeighbours u.cfg.neighbours m.number = true ∨ inNeighbours a.neighbours u.cfg.number = true)
        ∧ ((∃ h ∈ a.holdings, h.position = own.position) ∨ (u.listedRecord m a).claimDue u.timing.frameNumber = false
          ∧ ∃ c, a.claim = some c ∧ c.position = own.position
              ∧ precedes c.stamp m.number own.stamp u.cfg.number = true) := by
  have mine' := ((State.announceHeard_keeps m a u).stands mine).claim
  have listed : (u.announceHeard m a).claimListed a = true ↔ ∃ h ∈ a.holdings, h.position = own.position := by
    rw [State.claimListed, mine']
    simp
  rw [State.announcedAgainst, Bool.and_eq_true, Bool.or_eq_true, State.announceHeard_conflicts other,
    State.announceHeard_loses mine, listed, or_comm (a := ∃ h ∈ a.holdings, h.position = own.position)]

/-- The state that an ANNOUNCE leads to. -/
def State.announced (m : Sender) (a : AnnounceFields) (u : State) : State :=
  (u.announceHeard m a).reactAnnounce m.number a

theorem State.announced_peers : (u.announced m a).peers = (u.announceHeard m a).peers := by
  rw [State.announced, State.reactAnnounce_peers]

/-- The station's own claim after an ANNOUNCE. -/
theorem State.announced_claim {own : Stamped} (mine : u.pm.claim = some own) :
    ((u.announceHeard m a).announcedAgainst m.number a = true → ClaimEnded own u (u.announced m a))
    ∧ ((u.announceHeard m a).announcedAgainst m.number a = false → ClaimStands own u (u.announced m a)) := by
  have keeps := State.announceHeard_keeps m a u
  rw [State.announced, State.reactAnnounce_eq, State.afterAnnounce]
  refine ⟨fun against => ?_, fun clear => ?_⟩
  · obtain ⟨ended, rest, owing⟩ := keeps.ended mine
    rw [if_pos against]
    exact ended.evictWhere rest owing _
  · rw [if_neg (by rw [clear]; nofun)]
    exact (keeps.stands mine).evictWhere _

/-- The holdings lost to an ANNOUNCE (R149). -/
theorem State.announced_lost {lost : List Stamped} (hlost : lost = u.pm.holdings.filter (fun h =>
      (u.announceRecord m a).holds h.position && peerPrecedes u.cfg (u.announced m a).peers h)) :
    HoldingsLost lost u (u.announced m a) := by
  have heard : ReadyToLose u (u.announceHeard m a) := State.heard_ready m true _ u
  have ready := heard.announce (a := a) m.number
  have asked : ((u.announceHeard m a).afterAnnounce m.number a).listedBy m.number
      = fun h => (u.announceRecord m a).holds h.position := by
    funext h
    rw [State.listedBy, State.afterAnnounce_peers, State.announceHeard_found, Option.any_some]
  have cfg : ((u.announceHeard m a).afterAnnounce m.number a).cfg = u.cfg := by rw [State.cfg, ready.loader, State.cfg]
  have done := ready.lost (((u.announceHeard m a).afterAnnounce m.number a).listedBy m.number)
  rw [State.losers, asked, ready.holdings, State.afterAnnounce_peers, cfg, ← State.announced_peers, ← hlost, ← asked] at done
  exact done.unordered

end

/-- A counter one further on, again and again (00, Conventions). -/
theorem iterate_bump {c : Nat} (h : c ≤ 65535) (k : Nat) : bump^[k] c = bumpBy k c := by
  induction k with
  | zero => exact (Nat.min_eq_right h).symm
  | succ k ih =>
    rw [Function.iterate_succ_apply', ih, bump]
    simp only [bumpBy, Config.counterMax]
    omega

end Sys2Proof.Machine

/-! Settling the statement on an ANNOUNCE. -/

namespace Sys2Proof.Machine

/-- Settles O36: the record replaced, the gate and the choice, the station's own claim and its holdings. -/
theorem announceReplacesTheRecord : Obligations.AnnounceReplacesTheRecord := by
  refine ⟨fun dt s u m a heard conflict passed owed listed lost d hu hearing other hd hlisted hpassed howed hconflict =>
      ?announce,
    fun m ownFrame ownPhase raw hraw => ?measured, rfl, fun hs kept h hkept => ?once,
    fun x y => ⟨olderStamp_of_older, olderStamp_of_newer, olderStamp_either x y⟩,
    fun offset frame t anchored hanchored => ?gate,
    fun own n peers holds offset frame t gated hgated => ?followed,
    fun own peers holds t taken htaken => ?choices,
    fun holds t => ⟨Timing.decide_of_restep, Timing.decide_of_free⟩⟩
  case announce =>
    obtain ⟨t, ht⟩ : ∃ t, t = u.announced m a := ⟨_, rfl⟩
    have effect : Instr.effect (.announce dt m a) u = t := by
      rw [ht]
      exact State.route_of_heard (m := m) (announce := true)
        (update := fun peers => updatePeer peers m.number (PeerRecord.takeAnnounce u.timing.frameNumber a))
        (State.reactAnnounce m.number a) hearing other
    have peers : t.peers = (u.announceHeard m a).peers := ht ▸ State.announced_peers
    have timing : t.timing = (u.announceHeard m a).timing := by
      rw [ht, State.announced, State.reactAnnounce_timing]
    have due : (u.listedRecord m a).claimDue u.timing.frameNumber = true ↔ passed := by
      rw [hpassed, hd, State.listedRecord_due]
    refine ⟨_, u.announceRecord m a, exec_of_effect hu effect, ?_⟩
    simp only [finish_show, finish_has, finish_cues, finish_clips, finish_pm, finish_line, finish_roster, finish_timing,
      finish_peers, finish_plan, finish_radio, finish_station, finish_config]
    rw [peers, timing]
    refine ⟨State.announceHeard_found m a u, ?record, fun kept => ?kept, fun gone => ?passed,
      fun n foreign => State.announceHeard_found_of_other m a u foreign, ?_, ?_, ?_, ?_, ?_, ?_, fun hheard => ?timing,
      fun own mine => ?claim, fun distinct hlost => ?lost⟩
    case record =>
      rw [hd]
      exact State.announceRecord_frame
    case kept =>
      rw [State.announceRecord_of_kept (Bool.eq_false_iff.2 (mt due.1 kept)), hlisted, hd]
      exact ⟨rfl, rfl⟩
    case passed =>
      obtain ⟨c, claim, -⟩ := hpassed.1 gone
      rw [State.announceRecord_of_passed (due.2 gone) claim, hlisted, hd]
      refine ⟨rfl, fun c' claim' => ?_⟩
      rw [claim] at claim'
      cases claim'
      rfl
    case timing =>
      have standing : (u.announceRecord m a).standing = (m.timing, false) := by
        rw [State.announceRecord_frame]
        rfl
      have heard' := State.heard_timing (State.announceHeard_found m a u)
      rw [standing] at heard'
      rw [hheard]
      exact heard'
    case claim =>
      obtain ⟨ended, stands⟩ := State.announced_claim (m := m) (a := a) mine
      have against := State.announceHeard_against (a := a) other mine
      rw [← hconflict, Bool.eq_false_iff.trans (not_congr due)] at against
      rw [← ht] at ended stands
      refine ⟨fun conflict' named => ?_, fun clear => ?_⟩
      · obtain ⟨abandoned, rests⟩ := ended (against.2 ⟨conflict', named⟩)
        exact ⟨abandoned, fun idle => rests (mt howed.2 idle)⟩
      · have free : ¬ (u.announceHeard m a).announcedAgainst m.number a = true := by
          rw [against]
          rintro ⟨conflict', named⟩
          obtain apart | ⟨unlisted, lower⟩ := clear
          · exact apart conflict'
          · obtain ⟨h, hh, same⟩ | ⟨stays, c, claim, same, precedes⟩ := named
            · exact unlisted h hh same
            · rw [(lower.resolve_left stays) c claim same] at precedes
              cases precedes
        obtain ⟨claim, abandoned, rest⟩ := stands (Bool.eq_false_iff.2 free)
        exact ⟨claim, abandoned, rest⟩
    case lost =>
      rw [← peers, ht] at hlost
      have done := State.announced_lost hlost
      rw [← ht] at done
      have sub : lost ⊆ u.pm.holdings := hlost ▸ List.filter_subset_self _
      have few : lost.length ≤ u.pm.holdings.length := hlost ▸ List.length_filter_le _ _
      refine ⟨?_, fun bound => ?_, done.event, done.none_, fun h v one hv => done.one h v one hv, fun h hh =>
        ⟨fun b hb at_ progress => ?_, fun joined room => done.waits joined (by omega) h hh⟩⟩
      · rw [done.holdings]
        refine List.filter_congr fun o ho => ?_
        rw [standsIn_eq_contains distinct sub ho]
      · rw [done.evictions, iterate_bump bound]
      · have free := done.planned b hb progress
        rw [standsIn_iff.2 ⟨h, hh, at_.symm⟩] at free
        cases free
    all_goals simp [ht, State.announced, State.announceHeard, State.heard]
  case measured =>
    subst hraw
    exact ⟨measure_of_above, measure_of_within, measure_of_below⟩
  case once =>
    rw [hkept]
    exact dedupHoldings_append_singleton [] hs h
  case gate =>
    subst hanchored
    exact ⟨Timing.feedGate_of_empty, fun g => Timing.feedGate_of_off, fun g => Timing.feedGate_of_on⟩
  case followed =>
    subst hgated
    obtain ⟨sameState, -⟩ := Timing.feedGate_kept offset frame t
    refine ⟨Timing.hearFollowed_of_other, fun same acquire count low high => ?_, fun same state => ?_⟩
    · rw [Timing.hearFollowed_of_near same (beyond_eq_false low high)]
      exact Timing.lockIn_of_count (sameState.trans acquire) count
    · rw [Timing.hearFollowed_of_kept same state]
      refine ⟨fun low high => if_neg ?_, fun far => if_pos ((beyond_iff 2000 offset).2 far)⟩
      rw [beyond_eq_false (bound := 2000) low high]
      nofun
  case choices =>
    have taken_eq (n : Nat) (state : TimingState) : taken n state = t.taken n state := by rw [htaken, Timing.taken]
    simp only [taken_eq]
    refine ⟨fun n r found => Timing.acquire_cases peers holds t found, Timing.enterPace_of_following,
      Timing.chooseLocked_of_none, fun n r below found => Timing.choice_of_found own peers holds t below found,
      fun state none_ => ?_, fun state => Timing.review_of_listen own peers holds state, Timing.review_of_locked,
      fun f state followed => Timing.review_of_acquire own peers holds t state followed,
      fun n lowest => lowestEligible_spec lowest, lowestEligible_eq_none, rfl⟩
    rw [Timing.review_of_pace state, none_]

end Sys2Proof.Machine

/-! The places of a frame (R65, R66): items put into them level by level, and the bursts cut from them. -/

namespace Sys2Proof.Machine

/-! ## Filling places (R66) -/

@[simp] theorem freePlaces_nil : freePlaces [] = 0 := rfl

theorem freePlaces_some (x : Cell) (ps : Places) : freePlaces (some x :: ps) = freePlaces ps := by
  simp [freePlaces]

theorem freePlaces_none (ps : Places) : freePlaces (none :: ps) = freePlaces ps + 1 := by
  simp [freePlaces]

theorem freePlaces_append (ps qs : Places) : freePlaces (ps ++ qs) = freePlaces ps + freePlaces qs := by
  simp [freePlaces]

theorem freePlaces_replicate (n : Nat) : freePlaces (List.replicate n none) = n := by
  simp [freePlaces]

theorem fillPlaces_nil (ps : Places) : fillPlaces [] ps = ps := by
  cases ps <;> rfl

theorem fillPlaces_some (cs : List Cell) (x : Cell) (ps : Places) :
    fillPlaces cs (some x :: ps) = some x :: fillPlaces cs ps := by
  cases cs with
  | nil => rw [fillPlaces_nil, fillPlaces_nil]
  | cons c cs => rfl

theorem fillPlaces_length (cs : List Cell) (ps : Places) : (fillPlaces cs ps).length = ps.length := by
  induction ps generalizing cs with
  | nil => cases cs <;> rfl
  | cons p ps ih =>
    cases p with
    | some x => rw [fillPlaces_some, List.length_cons, ih, List.length_cons]
    | none =>
      cases cs with
      | nil => rw [fillPlaces_nil]
      | cons c cs => exact congrArg (· + 1) (ih cs)

/-- Cells go into the places at the front first. -/
theorem fillPlaces_append_places (cs : List Cell) (ps qs : Places) : fillPlaces cs (ps ++ qs) =
    fillPlaces (cs.take (freePlaces ps)) ps ++ fillPlaces (cs.drop (freePlaces ps)) qs := by
  induction ps generalizing cs with
  | nil => simp [fillPlaces_nil]
  | cons p ps ih =>
    cases p with
    | some x => rw [List.cons_append, fillPlaces_some, ih, freePlaces_some, fillPlaces_some, List.cons_append]
    | none =>
      cases cs with
      | nil => simp [fillPlaces_nil]
      | cons c cs =>
        rw [freePlaces_none]
        exact congrArg (some c :: ·) (ih cs)

/-- One item after another is all their cells in a row. -/
theorem fillPlaces_append_cells (cs ds : List Cell) (ps : Places) :
    fillPlaces (cs ++ ds) ps = fillPlaces ds (fillPlaces cs ps) := by
  induction ps generalizing cs with
  | nil => cases cs <;> cases ds <;> rfl
  | cons p ps ih =>
    cases p with
    | some x => rw [fillPlaces_some, fillPlaces_some, fillPlaces_some, ih]
    | none =>
      cases cs with
      | nil => rw [fillPlaces_nil, List.nil_append]
      | cons c cs =>
        refine (congrArg (some c :: ·) (ih cs)).trans ?_
        exact (fillPlaces_some ds c _).symm

theorem freePlaces_fillPlaces (cs : List Cell) (ps : Places) : freePlaces (fillPlaces cs ps) = freePlaces ps - cs.length := by
  induction ps generalizing cs with
  | nil => cases cs <;> simp [fillPlaces]
  | cons p ps ih =>
    cases p with
    | some x => rw [fillPlaces_some, freePlaces_some, freePlaces_some, ih]
    | none =>
      cases cs with
      | nil => rw [fillPlaces_nil, List.length_nil, Nat.sub_zero]
      | cons c cs =>
        have rest := ih cs
        rw [freePlaces_none, List.length_cons, Nat.add_sub_add_right, ← rest]
        exact freePlaces_some c _

/-- What stands in free places once they are filled, FILL in those left. -/
theorem fillPlaces_replicate {cs : List Cell} {n : Nat} (fit : cs.length ≤ n) :
    (fillPlaces cs (List.replicate n none)).map (fun c => c.getD .fill) = cs ++ List.replicate (n - cs.length) .fill := by
  induction n generalizing cs with
  | zero =>
    rw [List.length_eq_zero_iff.1 (Nat.le_zero.1 fit)]
    rfl
  | succ n ih =>
    cases cs with
    | nil => simp [fillPlaces_nil]
    | cons c cs =>
      rw [List.length_cons, Nat.add_sub_add_right]
      exact congrArg (c :: ·) (ih (Nat.le_of_succ_le_succ fit))

/-! ## Items offered one after another -/

/-- Each item that fits is put. -/
def placeAll (items : List (List Cell)) (ps : Places) : Places :=
  items.foldl (fun ps item => if item.length ≤ freePlaces ps then fillPlaces item ps else ps) ps

theorem placeAll_append (xs ys : List (List Cell)) (ps : Places) : placeAll (xs ++ ys) ps = placeAll ys (placeAll xs ps) :=
  List.foldl_append

theorem placeAll_cons (x : List Cell) (xs : List (List Cell)) (ps : Places) :
    placeAll (x :: xs) ps = placeAll xs (if x.length ≤ freePlaces ps then fillPlaces x ps else ps) := rfl

theorem placeAll_eq (items : List (List Cell)) (ps : Places) :
    placeAll items ps = fillPlaces (itemsPlaced (freePlaces ps) items).flatten ps := by
  induction items generalizing ps with
  | nil => exact (fillPlaces_nil ps).symm
  | cons x xs ih =>
    rw [placeAll_cons, itemsPlaced]
    split
    · rw [ih, freePlaces_fillPlaces, List.flatten_cons, fillPlaces_append_cells]
    · exact ih ps

theorem itemsPlaced_length_le (n : Nat) (items : List (List Cell)) : (itemsPlaced n items).flatten.length ≤ n := by
  induction items generalizing n with
  | nil => exact Nat.zero_le n
  | cons x xs ih =>
    rw [itemsPlaced]
    split
    · have rest := ih (n - x.length)
      rw [List.flatten_cons, List.length_append]
      omega
    · exact ih n

theorem itemsPlaced_append (n : Nat) (xs ys : List (List Cell)) :
    itemsPlaced n (xs ++ ys) = itemsPlaced n xs ++ itemsPlaced (n - (itemsPlaced n xs).flatten.length) ys := by
  induction xs generalizing n with
  | nil => rfl
  | cons x xs ih =>
    rw [List.cons_append, itemsPlaced, itemsPlaced]
    split
    · rw [ih, List.flatten_cons, List.length_append, Nat.sub_add_eq, List.cons_append]
    · exact ih n

theorem itemsPlaced_sublist (n : Nat) (items : List (List Cell)) : (itemsPlaced n items).Sublist items := by
  induction items generalizing n with
  | nil => exact .slnil
  | cons x xs ih =>
    rw [itemsPlaced]
    split
    · exact (ih _).cons_cons x
    · exact (ih n).cons x

theorem freePlaces_placeAll (items : List (List Cell)) (ps : Places) :
    freePlaces (placeAll items ps) = freePlaces ps - (itemsPlaced (freePlaces ps) items).flatten.length := by
  rw [placeAll_eq, freePlaces_fillPlaces]

/-! ## The bursts cut from the places (R65, R66) -/

section
variable {beacon : Cell} {at_ : Option Position}

/-- The places of one burst before anything is put. -/
def burstPlaces (beacon : Cell) (at_ : Option Position) (p : Position) : Places :=
  (if at_ == some p then some beacon else none) :: List.replicate 5 none

theorem beaconPlaces_cons (p : Position) (ps : List Position) :
    beaconPlaces beacon at_ (p :: ps) = burstPlaces beacon at_ p ++ beaconPlaces beacon at_ ps := rfl

/-- The burst of one position, these cells put into its places. -/
def burstWith (beacon : Cell) (at_ : Option Position) (cs : List Cell) (p : Position) : Burst :=
  { position := p, cells := (fillPlaces cs (burstPlaces beacon at_ p)).map (fun c => c.getD .fill), beacon := at_ == some p
    progress := .planned }

theorem burstsFrom_cons (cs : List Cell) (p : Position) (ps : List Position) :
    burstsFrom at_ (p :: ps) (fillPlaces cs (beaconPlaces beacon at_ (p :: ps))) =
      burstWith beacon at_ (cs.take (freePlaces (burstPlaces beacon at_ p))) p
        :: burstsFrom at_ ps (fillPlaces (cs.drop (freePlaces (burstPlaces beacon at_ p))) (beaconPlaces beacon at_ ps)) := by
  have six : (fillPlaces (cs.take (freePlaces (burstPlaces beacon at_ p))) (burstPlaces beacon at_ p)).length = 6 :=
    fillPlaces_length _ _
  rw [beaconPlaces_cons, fillPlaces_append_places, burstsFrom, burstWith]
  have front := List.take_left' (l₂ := fillPlaces (cs.drop (freePlaces (burstPlaces beacon at_ p))) (beaconPlaces beacon at_ ps))
    six
  have back := List.drop_left' (l₂ := fillPlaces (cs.drop (freePlaces (burstPlaces beacon at_ p))) (beaconPlaces beacon at_ ps))
    six
  change ({ position := p, cells := ((_ : Places).take 6).map _, beacon := _, progress := _ } : Burst)
    :: burstsFrom at_ ps ((_ : Places).drop 6) = _
  rw [front, back]

theorem burstsFrom_positions (at_ : Option Position) (ps : List Position) (places : Places) :
    (burstsFrom at_ ps places).map (·.position) = ps := by
  induction ps generalizing places with
  | nil => rfl
  | cons p ps ih => exact congrArg (p :: ·) (ih _)

/-- Every burst cut has its six cells, is PLANNED, and begins with the BEACON where it is the beacon burst. -/
theorem burstsFrom_spec (cs : List Cell) (held : List Position) :
    ∀ b ∈ burstsFrom at_ held (fillPlaces cs (beaconPlaces beacon at_ held)), b.cells.length = 6 ∧ b.progress = .planned
      ∧ b.beacon = (at_ == some b.position) ∧ (b.beacon = true → b.cells.head? = some beacon) := by
  induction held generalizing cs with
  | nil => exact nofun
  | cons p ps ih =>
    intro b hb
    rw [burstsFrom_cons] at hb
    obtain rfl | hb := List.mem_cons.1 hb
    · refine ⟨(List.length_map _).trans (fillPlaces_length _ _), rfl, rfl, fun first => ?_⟩
      have first' : (at_ == some p) = true := first
      rw [burstWith, burstPlaces, if_pos first', fillPlaces_some]
      rfl
    · exact ih _ b hb

/-- The cells of one burst without its BEACON. -/
theorem burstWith_cells {cs : List Cell} {p : Position} (fit : cs.length ≤ freePlaces (burstPlaces beacon at_ p)) :
    (if (burstWith beacon at_ cs p).beacon then (burstWith beacon at_ cs p).cells.tail else (burstWith beacon at_ cs p).cells)
      = cs ++ List.replicate (freePlaces (burstPlaces beacon at_ p) - cs.length) .fill := by
  rw [burstWith]
  by_cases first : (at_ == some p) = true
  · have five : burstPlaces beacon at_ p = some beacon :: List.replicate 5 none := by rw [burstPlaces, if_pos first]
    rw [five, freePlaces_some, freePlaces_replicate] at fit ⊢
    rw [if_pos first, fillPlaces_some]
    exact fillPlaces_replicate fit
  · have six : burstPlaces beacon at_ p = List.replicate 6 none := by
      rw [burstPlaces, if_neg first]
      rfl
    rw [six, freePlaces_replicate] at fit ⊢
    rw [if_neg first]
    exact fillPlaces_replicate fit

/-- Cells in a row and the FILL behind them, cut after some places. -/
theorem append_fill_cut (cs : List Cell) (k n : Nat) :
    cs.take k ++ List.replicate (k - (cs.take k).length) Cell.fill
        ++ (cs.drop k ++ List.replicate (n - (cs.drop k).length) .fill)
      = cs ++ List.replicate (k + n - cs.length) .fill := by
  rw [List.length_take, List.length_drop]
  obtain few | many := Nat.le_total cs.length k
  · rw [List.take_of_length_le few, List.drop_eq_nil_of_le few, List.nil_append, List.append_assoc, List.replicate_append_replicate]
    congr 2
    omega
  · rw [Nat.min_eq_left many, Nat.sub_self, List.replicate_zero, List.append_nil, ← List.append_assoc, List.take_append_drop]
    congr 2
    omega

/-- The cells of a plan without its BEACON: what was put, and FILL (R66). -/
theorem burstsFrom_cells {cs : List Cell} {held : List Position} (fit : cs.length ≤ freePlaces (beaconPlaces beacon at_ held)) :
    (burstsFrom at_ held (fillPlaces cs (beaconPlaces beacon at_ held))).flatMap
        (fun b => if b.beacon then b.cells.tail else b.cells) =
      cs ++ List.replicate (freePlaces (beaconPlaces beacon at_ held) - cs.length) .fill := by
  induction held generalizing cs with
  | nil =>
    rw [List.length_eq_zero_iff.1 (Nat.le_zero.1 fit)]
    rfl
  | cons p ps ih =>
    have total : freePlaces (beaconPlaces beacon at_ (p :: ps))
        = freePlaces (burstPlaces beacon at_ p) + freePlaces (beaconPlaces beacon at_ ps) := freePlaces_append _ _
    rw [total] at fit ⊢
    rw [burstsFrom_cons, List.flatMap_cons, burstWith_cells (List.length_take_le _ _),
      ih (by rw [List.length_drop]; omega), append_fill_cut]

theorem freePlaces_beaconPlaces (beacon : Cell) (at_ : Option Position) (held : List Position) :
    freePlaces (beaconPlaces beacon at_ held) + (held.filter (fun p => at_ == some p)).length = 6 * held.length := by
  induction held with
  | nil => rfl
  | cons p ps ih =>
    rw [beaconPlaces_cons, freePlaces_append, List.length_cons, burstPlaces, List.filter_cons]
    by_cases here : (at_ == some p) = true
    · rw [if_pos here, if_pos here, freePlaces_some, freePlaces_replicate, List.length_cons]
      omega
    · rw [if_neg here, if_neg here, freePlaces_none, freePlaces_replicate]
      omega

end

end Sys2Proof.Machine

/-! The levels of a composition (R67 to R71) as items offered one after another. -/

namespace Sys2Proof.Machine

/-! ## Each level -/

theorem Draft.fits_iff {d : Draft} {cells : List Cell} : d.fits cells = true ↔ cells.length ≤ freePlaces d.places :=
  decide_eq_true_iff

theorem Draft.putIfFits_places (c : Cell) (d : Draft) : (d.putIfFits c).places = placeAll [[c]] d.places := by
  rw [Draft.putIfFits, apply_ite Draft.places]
  exact if_congr Draft.fits_iff rfl rfl

/-- The cell of a block handed over (R69). -/
def AudioOffer.item (a : AudioOffer) : List Cell := [.audio a.track a.block]

theorem placeAudio_cons (a : AudioOffer) (rest : List AudioOffer) (d : Draft) (dropped : Nat) :
    placeAudio (a :: rest) d dropped =
      if a.item.length ≤ freePlaces d.places then placeAudio rest (d.put a.item) dropped
      else placeAudio rest d (dropped + 1) := by
  rw [placeAudio]
  exact if_congr Draft.fits_iff rfl rfl

theorem placeAudio_places (audio : List AudioOffer) (d : Draft) (dropped : Nat) :
    (placeAudio audio d dropped).1.places = placeAll (audio.map AudioOffer.item) d.places := by
  induction audio generalizing d dropped with
  | nil => rfl
  | cons a rest ih =>
    rw [placeAudio_cons, List.map_cons, placeAll_cons]
    split
    · exact ih (d.put a.item) dropped
    · exact ih d (dropped + 1)

/-- With room for every block none is dropped. -/
theorem placeAudio_of_room {audio : List AudioOffer} {d : Draft} (room : audio.length ≤ freePlaces d.places) (dropped : Nat) :
    (placeAudio audio d dropped).2 = dropped := by
  induction audio generalizing d with
  | nil => rfl
  | cons a rest ih =>
    rw [List.length_cons] at room
    have fits : a.item.length ≤ freePlaces d.places := Nat.le_trans (Nat.le_add_left 1 _) room
    have left : freePlaces (d.put a.item).places = freePlaces d.places - 1 := freePlaces_fillPlaces _ _
    rw [placeAudio_cons, if_pos fits]
    exact ih (by omega)

/-- With no place every block is dropped. -/
theorem placeAudio_of_full (audio : List AudioOffer) {d : Draft} (full : freePlaces d.places = 0) (dropped : Nat) :
    (placeAudio audio d dropped).2 = dropped + audio.length := by
  induction audio generalizing dropped with
  | nil => rfl
  | cons a rest ih =>
    have unfit : ¬ a.item.length ≤ freePlaces d.places := by
      rw [full]
      exact Nat.not_succ_le_zero 0
    rw [placeAudio_cons, if_neg unfit, ih, List.length_cons]
    omega

theorem placeClear_places (d : Draft) (c : ClearItem) :
    (placeClear d c).places = placeAll [[.captionClear c.track c.start c.region]] d.places := by
  unfold placeClear
  dsimp only
  rw [apply_ite Draft.places]
  exact if_congr Draft.fits_iff rfl rfl

theorem placeCue_places (show_ : ShowControl) (generation : Nat) (refresh : Bool) (d : Draft) (e : Cue) :
    (placeCue show_ generation refresh d e).places = placeAll [cueCells show_ refresh e] d.places := by
  unfold placeCue
  dsimp only
  rw [apply_ite Draft.places]
  exact if_congr Draft.fits_iff rfl rfl

/-- A level that offers one item after another. -/
theorem foldl_places {α : Type} {place : Draft → α → Draft} {item : α → List Cell}
    (h : ∀ d x, (place d x).places = placeAll [item x] d.places) (xs : List α) (d : Draft) :
    (xs.foldl place d).places = placeAll (xs.map item) d.places := by
  induction xs generalizing d with
  | nil => rfl
  | cons x xs ih =>
    rw [List.foldl_cons, ih, h]
    rfl

/-! ## Acknowledgements (R70) -/

theorem drainAcks_of_empty (fuel : Nat) (d : Draft) : drainAcks fuel [] d = (d, []) := by
  cases fuel <;> rfl

theorem drainAcks_of_full (fuel : Nat) (acks : List Ack) {d : Draft} (full : freePlaces d.places = 0) :
    drainAcks fuel acks d = (d, acks) := by
  cases fuel with
  | zero => rfl
  | succ fuel => exact if_pos (by simp [full])

theorem drainAcks_of_free (fuel : Nat) {acks : List Ack} {d : Draft} (some_ : acks ≠ []) (free : 0 < freePlaces d.places) :
    drainAcks (fuel + 1) acks d = drainAcks fuel (acks.drop 6) (d.put [.ack (acks.take 6)]) :=
  if_neg (by simp [some_, free.ne'])

theorem itemsPlaced_zero {items : List (List Cell)} (h : ∀ item ∈ items, item ≠ []) : itemsPlaced 0 items = [] := by
  induction items with
  | nil => rfl
  | cons x xs ih =>
    obtain ⟨hx, hxs⟩ := List.forall_mem_cons.1 h
    rw [itemsPlaced, if_neg (by simpa using hx), ih hxs]

theorem ackItems_ne_nil (n : Nat) (acks : List Ack) : ∀ item ∈ ackItems n acks, item ≠ [] := by
  induction n generalizing acks with
  | zero => exact nofun
  | succ n ih =>
    rw [ackItems]
    split
    · exact nofun
    · exact List.forall_mem_cons.2 ⟨nofun, ih _⟩

/-- The acknowledgements drained: a cell for each six, while a place is free. -/
theorem drainAcks_spec (fuel : Nat) (acks : List Ack) (d : Draft) :
    (drainAcks fuel acks d).1.places = placeAll (ackItems fuel acks) d.places
      ∧ (drainAcks fuel acks d).2
        = acks.drop (6 * ((itemsPlaced (freePlaces d.places) (ackItems fuel acks)).flatten.filter Cell.isAck).length) := by
  induction fuel generalizing acks d with
  | zero => exact ⟨rfl, rfl⟩
  | succ fuel ih =>
    obtain full | free := Nat.eq_zero_or_pos (freePlaces d.places)
    · rw [drainAcks_of_full _ _ full, placeAll_eq, full, itemsPlaced_zero (ackItems_ne_nil _ _)]
      exact ⟨(fillPlaces_nil _).symm, rfl⟩
    · by_cases none_ : acks = []
      · subst none_
        exact ⟨rfl, rfl⟩
      · have items : ackItems (fuel + 1) acks = [.ack (acks.take 6)] :: ackItems fuel (acks.drop 6) :=
          if_neg (by simp [none_])
        have fits : [Cell.ack (acks.take 6)].length ≤ freePlaces d.places := free
        obtain ⟨places, left⟩ := ih (acks.drop 6) (d.put [.ack (acks.take 6)])
        have room : freePlaces (d.put [.ack (acks.take 6)]).places = freePlaces d.places - [Cell.ack (acks.take 6)].length :=
          freePlaces_fillPlaces _ _
        rw [drainAcks_of_free _ none_ free, items, placeAll_cons, itemsPlaced, if_pos fits, if_pos fits, places, left, room]
        refine ⟨rfl, ?_⟩
        rw [List.drop_drop, List.flatten_cons, List.filter_append, List.length_append]
        congr 1
        change 6 + 6 * _ = 6 * (1 + _)
        omega

end Sys2Proof.Machine

/-! The composition as a whole (R64 to R71): its draft, its plan, and what else it writes. -/

namespace Sys2Proof.Machine

section
variable (s : State)

/-! ## The draft, level by level -/

/-- The cue queue and the clips that a composition works with. -/
def State.cuesNow : CueQueue := s.cues.progress s.show_.state s.show_.clock s.timing.frameNumber

def State.clipsNow : ClipProgress := s.clips.progress s.show_

/-- The position of the BEACON, and its cell. -/
def State.beaconAt : Option Position := beaconPosition s.timing.frameNumber s.pm.holdings

def State.beaconNow : Cell := s.beaconCell (heldInSlotOrder s.pm.holdings)

/-- The places with the BEACON alone. -/
def State.placesNow : Places := beaconPlaces s.beaconNow s.beaconAt (heldInSlotOrder s.pm.holdings)

def State.draftDirectory : Draft :=
  let d : Draft := { positions := heldInSlotOrder s.pm.holdings, places := s.placesNow, items := [], clears := [] }
  if directoryDue s.timing.frameNumber then d.putIfFits (.directory s.show_.tracks) else d

def State.draftAudio : Draft × Nat := placeAudio s.clipsNow.audio s.draftDirectory 0

def State.draftAcks : Draft × List Ack := drainAcks s.roster.acks.length s.roster.acks s.draftAudio.1

def State.draftCues : Draft :=
  let d := s.cuesNow.clears.foldl placeClear s.draftAcks.1
  let d := s.cuesNow.starts.foldl (placeCue s.show_ s.cuesNow.generation false) d
  (s.cuesNow.refreshes s.timing.frameNumber).foldl (placeCue s.show_ s.cuesNow.generation true) d

def State.planNow : Composer :=
  { bursts := burstsFrom s.beaconAt (heldInSlotOrder s.pm.holdings) s.draftCues.places, items := s.draftCues.items
    clears := s.draftCues.clears, underrun := bumpBy s.draftAudio.2 s.plan.underrun }

theorem State.compose_eq : s.compose = if s.radio.activity.occupiesSlot then s.composed s.draftAcks.2 s.planNow
    else (s.composed s.draftAcks.2 s.planNow).need (s.planNow.bursts.head?.map (·.position.carrier)) := rfl

/-- But for the tuning a composition is what it writes. -/
theorem State.compose_frame : s.compose = { s.composed s.draftAcks.2 s.planNow with radio := s.compose.radio } := by
  rw [State.compose_eq]
  split
  · rfl
  · unfold State.need
    (repeat' split) <;> rfl

/-! ## What is offered, and what is placed -/

/-- The items offered before the acknowledgements, and after them. -/
def State.offeredBefore : List (List Cell) :=
  (if s.timing.frameNumber.toNat % 25 = 0 then [[.directory s.show_.tracks]] else []) ++ s.clipsNow.audio.map AudioOffer.item

def State.offeredAfter : List (List Cell) :=
  s.cuesNow.clears.map (fun c => [.captionClear c.track c.start c.region]) ++ s.cuesNow.starts.map (cueCells s.show_ false)
    ++ (s.cuesNow.refreshes s.timing.frameNumber).map (cueCells s.show_ true)

theorem State.draftDirectory_places : s.draftDirectory.places =
    placeAll (if s.timing.frameNumber.toNat % 25 = 0 then [[.directory s.show_.tracks]] else []) s.placesNow := by
  rw [State.draftDirectory]
  by_cases due : s.timing.frameNumber.toNat % 25 = 0
  · rw [if_pos due, if_pos (by exact beq_iff_eq.2 due), Draft.putIfFits_places]
  · rw [if_neg due, if_neg (by exact mt beq_iff_eq.1 due)]
    rfl

theorem State.draftAudio_places : s.draftAudio.1.places = placeAll s.offeredBefore s.placesNow := by
  rw [State.draftAudio, placeAudio_places, State.draftDirectory_places, State.offeredBefore, placeAll_append]

theorem State.draftCues_places : s.draftCues.places =
    placeAll (s.offeredBefore ++ ackItems s.roster.acks.length s.roster.acks ++ s.offeredAfter) s.placesNow := by
  obtain ⟨acks, -⟩ := drainAcks_spec s.roster.acks.length s.roster.acks s.draftAudio.1
  rw [State.draftCues, foldl_places (placeCue_places _ _ true), foldl_places (placeCue_places _ _ false),
    foldl_places placeClear_places, State.draftAcks, acks, State.draftAudio_places, State.offeredAfter, placeAll_append,
    placeAll_append, placeAll_append, placeAll_append]

theorem State.itemsOffered_eq :
    itemsOffered s.show_ s.timing.frameNumber s.clipsNow.audio s.roster.acks s.cuesNow =
      s.offeredBefore ++ ackItems s.roster.acks.length s.roster.acks ++ s.offeredAfter := by
  rw [itemsOffered, State.offeredBefore, State.offeredAfter]
  simp only [List.append_assoc]
  rfl

/-- What the composition places (R66). -/
def State.placedNow : List (List Cell) :=
  itemsPlaced (freePlaces s.placesNow) (s.offeredBefore ++ ackItems s.roster.acks.length s.roster.acks ++ s.offeredAfter)

theorem State.planNow_bursts : s.planNow.bursts =
    burstsFrom s.beaconAt (heldInSlotOrder s.pm.holdings) (fillPlaces s.placedNow.flatten s.placesNow) := by
  rw [State.planNow, State.draftCues_places, placeAll_eq, State.placedNow]

/-! ## Acknowledgements left (R70) -/

theorem ackFree_flatten {items placed : List (List Cell)} (sub : placed.Sublist items)
    (h : ∀ item ∈ items, ∀ c ∈ item, c.isAck = false) : placed.flatten.filter Cell.isAck = [] := by
  refine List.filter_eq_nil_iff.2 fun c hc => ?_
  obtain ⟨item, hitem, hc⟩ := List.mem_flatten.1 hc
  rw [h item (sub.subset hitem) c hc]
  nofun

theorem textCells_ackFree (track start n : Nat) (runs : List (List Byte)) :
    ∀ c ∈ textCells track start n runs, c.isAck = false := by
  induction runs generalizing n with
  | nil => exact nofun
  | cons run rest ih => exact List.forall_mem_cons.2 ⟨rfl, ih (n + 1)⟩

theorem cueCells_ackFree (show_ : ShowControl) (refresh : Bool) (e : Cue) : ∀ c ∈ cueCells show_ refresh e, c.isAck = false :=
  List.forall_mem_cons.2 ⟨rfl, textCells_ackFree _ _ _ _⟩

theorem State.offeredBefore_ackFree : ∀ item ∈ s.offeredBefore, ∀ c ∈ item, c.isAck = false := by
  intro item offered
  obtain directory | audio := List.mem_append.1 offered
  · split at directory
    · rw [List.mem_singleton.1 directory]
      exact List.forall_mem_singleton.2 rfl
    · cases directory
  · obtain ⟨a, -, rfl⟩ := List.mem_map.1 audio
    exact List.forall_mem_singleton.2 rfl

theorem State.offeredAfter_ackFree : ∀ item ∈ s.offeredAfter, ∀ c ∈ item, c.isAck = false := by
  intro item offered
  obtain earlier | refresh := List.mem_append.1 offered
  · obtain clear | start := List.mem_append.1 earlier
    · obtain ⟨c, -, rfl⟩ := List.mem_map.1 clear
      exact List.forall_mem_singleton.2 rfl
    · obtain ⟨e, -, rfl⟩ := List.mem_map.1 start
      exact cueCells_ackFree _ _ e
  · obtain ⟨e, -, rfl⟩ := List.mem_map.1 refresh
    exact cueCells_ackFree _ _ e

/-- The acknowledgement cells placed are those of their own level. -/
theorem State.draftAcks_left :
    s.draftAcks.2 = s.roster.acks.drop (6 * (s.placedNow.flatten.filter Cell.isAck).length) := by
  obtain ⟨-, left⟩ := drainAcks_spec s.roster.acks.length s.roster.acks s.draftAudio.1
  rw [State.draftAcks, left, State.draftAudio_places, freePlaces_placeAll, State.placedNow, itemsPlaced_append,
    itemsPlaced_append, List.flatten_append, List.flatten_append, List.filter_append, List.filter_append,
    ackFree_flatten (itemsPlaced_sublist _ _) s.offeredBefore_ackFree,
    ackFree_flatten (itemsPlaced_sublist _ _) s.offeredAfter_ackFree, List.nil_append, List.append_nil]

end

end Sys2Proof.Machine

/-! What a composition leaves for each holding (R63 to R71, R75), read off the state before the boundary. -/

namespace Sys2Proof.Machine

/-! ## Held positions (R63, R65) -/

section
variable (f : FrameNo) (held : List Stamped)

theorem heldInSlotOrder_perm : (heldInSlotOrder held).Perm (held.map (·.position)) := (sortBy_perm _ held).map _

theorem heldInSlotOrder_sorted : (heldInSlotOrder held).Pairwise (fun p q => p.slot ≤ q.slot) :=
  List.pairwise_map.2 (sortBy_pairwise_le (fun h : Stamped => h.position.slot.val) held)

theorem heldInSlotOrder_eq_nil_iff : heldInSlotOrder held = [] ↔ held = [] := by
  rw [← List.length_eq_zero_iff, heldInSlotOrder_length, List.length_eq_zero_iff]

theorem beaconPosition_eq_none_iff : beaconPosition f held = none ↔ held = [] := by
  have some_ := isSome_firstBy (fun a b : Stamped => age f b.stamp < age f a.stamp) held
  rw [beaconPosition, Option.map_eq_none_iff, ← Option.isNone_iff_eq_none, ← Option.not_isSome, some_, Bool.not_not,
    List.isEmpty_iff]

/-- The BEACON goes to a holding with the oldest stamp. -/
theorem beaconPosition_spec {p : Position} (h : beaconPosition f held = some p) :
    ∃ h ∈ held, h.position = p ∧ ∀ k ∈ held, (f - k.stamp).toNat ≤ (f - h.stamp).toNat := by
  obtain ⟨x, first, position⟩ := Option.map_eq_some_iff.1 h
  have bound (k : Stamped) : age f k.stamp < 2 ^ 32 := (f - k.stamp).isLt
  have least := firstBy_least (rank := fun k : Stamped => 2 ^ 32 - age f k.stamp)
    (fun a b => decide_eq_decide.2 (by have := bound a; have := bound b; omega)) first
  refine ⟨x, mem_of_firstBy first, position, fun k hk => ?_⟩
  have older_ := least k hk
  have := bound k
  have := bound x
  change age f k.stamp ≤ age f x.stamp
  omega

end

/-! ## Places and blocks -/

section
variable {s : State}

/-- One place is the BEACON's, the others are free (R65, R66). -/
theorem State.freePlaces_placesNow (distinct : (s.pm.holdings.map (·.position)).Nodup) :
    freePlaces s.placesNow = 6 * s.pm.holdings.length - 1 := by
  have total := freePlaces_beaconPlaces s.beaconNow s.beaconAt (heldInSlotOrder s.pm.holdings)
  rw [heldInSlotOrder_length] at total
  rw [State.placesNow]
  by_cases none_ : s.pm.holdings = []
  · rw [none_, List.length_nil] at total ⊢
    omega
  · obtain ⟨p, beacon⟩ := Option.ne_none_iff_exists'.1 (mt (beaconPosition_eq_none_iff s.timing.frameNumber _).1 none_)
    obtain ⟨x, hx, position, -⟩ := beaconPosition_spec _ _ beacon
    have perm := heldInSlotOrder_perm s.pm.holdings
    have mem : p ∈ heldInSlotOrder s.pm.holdings := perm.mem_iff.2 (List.mem_map.2 ⟨x, hx, position⟩)
    have one : ((heldInSlotOrder s.pm.holdings).filter (fun q => s.beaconAt == some q)).length = 1 := by
      have same : (fun q => s.beaconAt == some q) = fun q => q == p := by
        funext q
        rw [State.beaconAt, beacon]
        exact (Option.some_beq_some).trans BEq.comm
      rw [same, List.filter_beq, List.length_replicate, List.count_eq_one_of_mem (perm.nodup_iff.2 distinct) mem]
    omega

theorem ClipStore.supplyEngine_length (t i : Nat) (s : ClipStore) : (s.supplyEngine t i).2.length ≤ 1 := by
  unfold ClipStore.supplyEngine
  split
  · exact Nat.zero_le 1
  · split
    · exact Nat.zero_le 1
    · dsimp only
      (repeat' split) <;> simp

/-- No composition is offered more than a block for each engine (R54). -/
theorem ClipStore.progress_audio_length (show_ : ShowControl) (s : ClipStore) : (s.progress show_).audio.length ≤ 4 := by
  unfold ClipStore.progress
  dsimp only
  split
  · rw [ClipStore.supply_eq _ _ _ _ _ _ rfl rfl rfl rfl]
    simp only [List.length_append]
    have one (i : Nat) (s : ClipStore) := ClipStore.supplyEngine_length show_.clock i s
    exact Nat.add_le_add (Nat.add_le_add (Nat.add_le_add (one 0 _) (one 1 _)) (one 2 _)) (one 3 _)
  · exact Nat.zero_le 4

/-- With a holding every block finds a place; without one every block is dropped (R69). -/
theorem State.draftAudio_dropped (distinct : (s.pm.holdings.map (·.position)).Nodup) :
    s.draftAudio.2 = if s.pm.holdings = [] then s.clipsNow.audio.length else 0 := by
  have free := State.freePlaces_placesNow distinct
  have few : s.clipsNow.audio.length ≤ 4 := ClipStore.progress_audio_length _ _
  have directory : freePlaces s.draftDirectory.places ≤ freePlaces s.placesNow
      ∧ freePlaces s.placesNow ≤ freePlaces s.draftDirectory.places + 1 := by
    rw [State.draftDirectory_places, freePlaces_placeAll]
    refine ⟨Nat.sub_le _ _, ?_⟩
    have placed : (itemsPlaced (freePlaces s.placesNow)
        (if s.timing.frameNumber.toNat % 25 = 0 then [[.directory s.show_.tracks]] else [])).flatten.length ≤ 1 := by
      refine ((itemsPlaced_sublist _ _).flatten.length_le).trans ?_
      split <;> simp
    omega
  by_cases none_ : s.pm.holdings = []
  · rw [none_, List.length_nil] at free
    rw [if_pos none_, State.draftAudio, placeAudio_of_full _ (by omega), Nat.zero_add]
  · have held : 0 < s.pm.holdings.length := List.length_pos_of_ne_nil none_
    rw [if_neg none_, State.draftAudio, placeAudio_of_room (by omega)]

/-! ## The tuning at a composition (R75) -/

theorem State.head_planNow (s : State) : s.planNow.bursts.head?.map (·.position) = (heldInSlotOrder s.pm.holdings).head? := by
  rw [← List.head?_map, State.planNow, burstsFrom_positions]

theorem State.compose_radio_of_kept (h : s.pm.holdings = [] ∨ s.radio.activity.occupiesSlot = true) :
    s.compose.radio = s.radio := by
  rw [State.compose_eq]
  obtain none_ | busy := h
  · have head := s.head_planNow
    rw [(heldInSlotOrder_eq_nil_iff _).2 none_, List.head?_nil, Option.map_eq_none_iff] at head
    rw [head]
    split <;> rfl
  · rw [if_pos busy]
    rfl

theorem State.compose_radio_of_free {p : Position} (first : (heldInSlotOrder s.pm.holdings).head? = some p)
    (free : s.radio.activity.occupiesSlot = false) : s.compose.radio =
      if s.radio.tuned = some p.carrier then s.radio else s.radio.tune s.timing.localTime p.carrier := by
  have head := s.head_planNow
  rw [first] at head
  have carrier : s.planNow.bursts.head?.map (·.position.carrier) = some p.carrier := by
    obtain ⟨b, hb, position⟩ := Option.map_eq_some_iff.1 head
    rw [hb, Option.map_some, position]
  rw [State.compose_eq, if_neg (by rw [free]; nofun), carrier]
  split
  · rename_i tuned
    rw [State.need_of_tuned (s := s.composed _ _) (.inr tuned.symm)]
    rfl
  · rename_i other
    rw [State.need_of_other (s := s.composed _ _) other]
    rfl

end

end Sys2Proof.Machine

/-! The clip store's part of a composition, case by case (R42, R45, R52 to R55). -/

namespace Sys2Proof.Machine

section
variable (show_ : ShowControl) (t : Nat) (s : ClipStore)

/-! ## The progress step (R52) -/

theorem ClipStore.progress_of_still (running : show_.state ≠ .running) (coasting : show_.state ≠ .coasting) :
    s.progress show_ = { store := s.retain show_.clock, audio := [], late := false } :=
  if_neg (by simp [ShowState.advances_iff, running, coasting])

theorem ClipStore.progress_of_advancing (h : show_.state = .running ∨ show_.state = .coasting)
    {started : ClipStore × Bool} {supplied : ClipStore × List AudioOffer}
    (hstarted : started = (((s.retain show_.clock).passing show_.clock).givingUp show_.clock).starting show_ show_.clock)
    (hsupplied : supplied = started.1.supply show_.clock) :
    s.progress show_ = { store := supplied.1.rechoose show_, audio := supplied.2, late := started.2 } := by
  subst hsupplied hstarted
  exact if_pos ((ShowState.advances_iff _).2 h)

theorem ClipState.waits_iff (state : ClipState) : state.waits = true ↔ state ≠ .playing ∧ state ≠ .spent := by
  cases state <;> simp [ClipState.waits]

theorem ClipStore.retain_eq : s.retain t = { s with
    clips := s.clips.filter (fun c => !(c.state == .spent && c.start + c.length * 20 + 30000 < t)) } := rfl

theorem ClipStore.passing_eq : s.passing t = { s with
    clips := s.clips.map (fun c =>
      if c.state ≠ .playing ∧ c.state ≠ .spent ∧ c.start + c.length * 20 ≤ t then { c with state := .spent } else c)
    skipped := bumpBy (s.clips.filter (fun c =>
      c.state != .playing && c.state != .spent && c.start + c.length * 20 ≤ t && !c.everPlayed)).length s.skipped } := by
  have passed (c : Clip) : (c.state.waits && decide (c.stop ≤ t)) =
      (c.state != .playing && c.state != .spent && decide (c.start + c.length * 20 ≤ t)) := by
    rw [Bool.eq_iff_iff, Bool.and_eq_true, ClipState.waits_iff, Clip.stop]
    simp
  unfold ClipStore.passing
  simp only [passed]
  congr 2
  funext c
  exact if_congr (by simp [and_assoc]) rfl rfl

theorem expectedIndex_of_started {start t : Nat} (h : start ≤ t) : expectedIndex start t = ((t - start) / 20 : Nat) :=
  if_pos h

theorem ClipStore.givingUp_eq (h : ∀ c ∈ s.clips, c.state = .late → c.start ≤ t) : s.givingUp t = { s with
    clips := s.clips.map (fun c =>
      if c.state = .late ∧ c.length < (t - c.start) / 20 + 10 then { c with state := .spent } else c)
    skipped := bumpBy (s.clips.filter (fun c => c.state == .late && c.length < (t - c.start) / 20 + 10)).length
      s.skipped } := by
  have given : ∀ c ∈ s.clips, (c.state == .late && c.tooLateToEnter t) =
      (c.state == .late && decide (c.length < (t - c.start) / 20 + 10)) := by
    intro c hc
    by_cases late : c.state = .late
    · rw [Clip.tooLateToEnter_of_started (h c hc late)]
    · rw [beq_false_of_ne late]
      rfl
  unfold ClipStore.givingUp
  dsimp only
  rw [List.filter_congr given]
  congr 1
  refine List.map_congr_left fun c hc => ?_
  refine if_congr ((Bool.eq_iff_iff.1 (given c hc)).trans ?_) rfl rfl
  simp

/-! ## The next clip (R45) -/

variable {show_ s}
variable {bound : Option Nat} {e : Engine}

theorem ClipStore.chooseNext_of_nothing (h : bound = none ∨ show_.state = .noShow ∨ show_.state = .ended) :
    s.chooseNext show_ bound e = none := by
  cases bound with
  | none => rfl
  | some track => exact if_pos (by simpa using h)

/-- The clips among which an engine's next one is chosen. -/
def ClipStore.waiting (s : ClipStore) (bound : Option Nat) (e : Engine) : List Clip :=
  s.clips.filter (fun c => bound == some c.track && c.state.waits
    && (match s.currentStart e with
        | some start => start < c.start
        | none => true))

theorem ClipStore.chooseNext_of_show (load : show_.state ≠ .noShow) (ended : show_.state ≠ .ended) :
    s.chooseNext show_ bound e = firstBy (fun a b => a.start < b.start) (s.waiting bound e) := by
  cases bound with
  | none =>
    have none_ : s.waiting none e = [] := List.filter_eq_nil_iff.2 fun c _ => by simp
    rw [none_]
    rfl
  | some track =>
    refine (if_neg (by simp [load, ended])).trans ?_
    congr 1
    refine List.filter_congr fun c _ => ?_
    rw [Option.some_beq_some, BEq.comm] <;> rfl

theorem ClipStore.mem_waiting_iff (c : Clip) : c ∈ s.waiting bound e ↔ c ∈ s.clips ∧ bound = some c.track
    ∧ (c.state = .loading ∨ c.state = .ready ∨ c.state = .late)
    ∧ ∀ cur k, e.current = some cur → s.find cur.clip = some k → k.start < c.start := by
  have behind : (match s.currentStart e with
      | some start => decide (start < c.start)
      | none => true) = true ↔ ∀ cur k, e.current = some cur → s.find cur.clip = some k → k.start < c.start := by
    unfold ClipStore.currentStart
    cases e.current with
    | none => simp
    | some cur =>
      cases found : s.find cur.clip with
      | none =>
        dsimp only
        rw [found]
        refine iff_of_true rfl ?_
        rintro _ k ⟨⟩ hk
        rw [found] at hk
        cases hk
      | some k =>
        dsimp only
        rw [found]
        refine decide_eq_true_iff.trans ⟨?_, fun all => all cur k rfl found⟩
        rintro less _ k' ⟨⟩ hk
        rw [found] at hk
        cases hk
        exact less
  have waits : c.state.waits = true ↔ c.state = .loading ∨ c.state = .ready ∨ c.state = .late := by
    cases c.state <;> simp [ClipState.waits]
  rw [ClipStore.waiting, List.mem_filter, Bool.and_eq_true, Bool.and_eq_true, beq_iff_eq, waits, and_assoc]
  exact and_congr_right fun _ => and_congr_right fun _ => and_congr_right fun _ => behind

theorem ClipStore.rechoose_engine (i : Nat) : (s.rechoose show_).engines.get i =
    { s.engines.get i with next := (s.chooseNext show_ (show_.binding.get i) (s.engines.get i)).map (·.id) } :=
  PerEngine.get_zip _ _ _ i

end

/-! ## The supply part of an engine (R54, R55) -/

section
variable {t i : Nat} {s : ClipStore} {cur : Current} {c : Clip}

theorem ClipStore.supplyEngine_of_none (h : (s.engines.get i).current = none) : s.supplyEngine t i = (s, []) := by
  rw [ClipStore.supplyEngine, h]

theorem ClipStore.supplyEngine_of_current (current : (s.engines.get i).current = some cur) (found : s.find cur.clip = some c)
    (started : c.start ≤ t) : s.supplyEngine t i =
      if (t - c.start) / 20 + 2 < cur.index then ({ s with slip := bump s.slip }, [])
      else if cur.index + 2 < (t - c.start) / 20 then
        if (t - c.start) / 20 < c.length then
          (ClipStore.advanceTo { s with slip := bump s.slip } i c ((t - c.start) / 20 + 1),
            [{ track := c.track, block := s.block c ((t - c.start) / 20) }])
        else (ClipStore.endCurrent { s with slip := bump s.slip } i c.id, [])
      else (s.advanceTo i c (cur.index + 1), [{ track := c.track, block := s.block c cur.index }]) := by
  rw [ClipStore.supplyEngine, current]
  dsimp only
  rw [found]
  dsimp only
  rw [expectedIndex_of_started started]
  refine if_congr (by omega) rfl (if_congr (by omega) rfl rfl)

end

end Sys2Proof.Machine

/-! Settling the statement on the composition. -/

namespace Sys2Proof.Machine

/-! ## The state that is composed at a boundary (R64, R79, R100) -/

/-- From u, the boundary of a frame has begun, and what a composition reads stands as before. -/
structure ReadyToCompose (u w : State) : Prop where
  loader : w.loader = u.loader
  timing : w.timing = u.timing.nextFrame
  holdings : w.pm.holdings = u.pm.holdings
  show_ : w.show_ = u.show_
  cues : w.cues = u.cues
  clips : w.clips = u.clips
  plan : w.plan = u.plan
  radio : w.radio = u.radio
  acks : w.roster.acks = u.roster.acks

/-- The state once the scheduled ANNOUNCE has been handed over. -/
def State.announcedFrame (u : State) : State := (State.ticked { u with timing := u.timing.nextFrame }).scheduleAnnounce

theorem ReadyToCompose.announced (u : State) : ReadyToCompose u u.announcedFrame := by
  obtain ⟨count, link, ticked⟩ := State.ticked_eq { u with timing := u.timing.nextFrame }
  rw [State.announcedFrame, ticked]
  constructor <;> simp

theorem ReadyToCompose.managed {u w : State} (h : ReadyToCompose u w) (f : FrameNo) (joined : w.joined = true)
    (kept : w.pm.demand ≠ 0) : ReadyToCompose u (w.managerBoundary f) := by
  have holdings := State.managerBoundary_holdings f joined
  rw [if_neg fun zero => kept zero.1] at holdings
  obtain ⟨loader, timing, held, show_, cues, clips, plan, radio, acks⟩ := h
  refine ⟨?_, ?_, holdings.trans held, ?_, ?_, ?_, ?_, ?_, ?_⟩
  all_goals simp [*]

/-- What is left of a boundary behind its composition: the position manager and the line. -/
structure Composed (w v : State) : Prop where
  plan : v.plan = w.compose.plan
  radio : v.radio = w.compose.radio
  cues : v.cues = w.compose.cues
  clips : v.clips = w.compose.clips
  roster : v.roster = w.compose.roster
  link : v.link = w.compose.link

theorem Composed.refl (w : State) : Composed w w.compose := ⟨rfl, rfl, rfl, rfl, rfl, rfl⟩

theorem Composed.managed (f : FrameNo) (w : State) : Composed w (w.compose.managerBoundary f) := by
  constructor <;> simp

section
variable {u w v : State}

theorem State.frameBoundary_of_sounding {r : Bool} (reached : u.timing.atBoundary = true) (joined : u.joined = true)
    (sounding : u.timing.change ≠ .restep) : u.frameBoundary r =
      if r then (u.announcedFrame.managerBoundary (u.timing.frameNumber + 1)).compose
      else u.announcedFrame.compose.managerBoundary (u.timing.frameNumber + 1) := by
  rw [State.frameBoundary_of_reached r reached, beq_false_of_ne sounding]
  exact State.boundaryWork_of_joined (s := { u with timing := u.timing.nextFrame }) r false joined

theorem ReadyToCompose.joined (h : ReadyToCompose u w) : w.joined = u.joined := by
  rw [State.joined, h.loader, State.joined]

theorem State.announcedFrame_pm (u : State) : u.announcedFrame.pm = u.pm := by
  obtain ⟨count, link, ticked⟩ := State.ticked_eq { u with timing := u.timing.nextFrame }
  rw [State.announcedFrame, ticked, State.scheduleAnnounce_pm]

/-- A composition of the held positions, whichever of it and the releases comes first, where none is released before it. -/
theorem State.frameBoundary_composes {r : Bool} (reached : u.timing.atBoundary = true) (joined : u.joined = true)
    (sounding : u.timing.change ≠ .restep) (first : r = false ∨ u.pm.demand ≠ 0) :
    ∃ w, ReadyToCompose u w ∧ Composed w (u.frameBoundary r) := by
  have ready := ReadyToCompose.announced u
  rw [State.frameBoundary_of_sounding reached joined sounding]
  cases r with
  | false => exact ⟨_, ready, .managed _ _⟩
  | true =>
    have kept : u.announcedFrame.pm.demand ≠ 0 := by
      rw [State.announcedFrame_pm]
      exact first.resolve_left nofun
    exact ⟨_, ready.managed _ (ready.joined.trans joined) kept, .refl _⟩

/-- With every holding released first, there is nothing to compose. -/
theorem State.frameBoundary_releases (reached : u.timing.atBoundary = true) (joined : u.joined = true)
    (sounding : u.timing.change ≠ .restep) (zero : u.pm.demand = 0) (steps : u.pm.stepsTaken = false) :
    (u.frameBoundary true).plan.bursts = [] ∧ (u.frameBoundary true).pm.holdings = [] := by
  have released := State.managerBoundary_holdings (u.timing.frameNumber + 1)
    ((ReadyToCompose.announced u).joined.trans joined)
  rw [State.announcedFrame_pm, if_pos ⟨zero, steps⟩] at released
  rw [State.frameBoundary_of_sounding reached joined sounding, if_pos rfl, State.compose_frame]
  refine ⟨?_, released⟩
  change (State.planNow _).bursts = []
  rw [State.planNow_bursts, (heldInSlotOrder_eq_nil_iff _).2 released]
  rfl

/-! ## What the composition leaves -/

theorem ReadyToCompose.frameNumber (h : ReadyToCompose u w) : w.timing.frameNumber = u.timing.frameNumber + 1 := by
  rw [h.timing]
  rfl

theorem ReadyToCompose.cuesNow (h : ReadyToCompose u w) :
    w.cuesNow = u.cues.progress u.show_.state u.show_.clock (u.timing.frameNumber + 1) := by
  rw [State.cuesNow, h.frameNumber, h.cues, h.show_]

theorem ReadyToCompose.clipsNow (h : ReadyToCompose u w) : w.clipsNow = u.clips.progress u.show_ := by
  rw [State.clipsNow, h.clips, h.show_]

theorem ReadyToCompose.beaconAt (h : ReadyToCompose u w) :
    w.beaconAt = beaconPosition (u.timing.frameNumber + 1) u.pm.holdings := by
  rw [State.beaconAt, h.frameNumber, h.holdings]

theorem ReadyToCompose.beaconNow (h : ReadyToCompose u w) : w.beaconNow =
    .beacon u.cfg.number u.show_.state u.show_.session u.show_.clock (heldInSlotOrder u.pm.holdings)
      ((u.timing.frameNumber + 1).setWidth 16) := by
  rw [State.beaconNow, State.beaconCell, State.cfg, h.loader, h.show_, h.holdings, h.frameNumber, State.cfg]

theorem Composed.plan_eq (h : Composed w v) : v.plan = w.planNow := by
  rw [h.plan, State.compose_frame]
  rfl

/-- A burst for each holding, in slot order, the BEACON in the beacon burst (R63, R65, R67). -/
theorem Composed.bursts (ready : ReadyToCompose u w) (h : Composed w v) :
    v.plan.bursts.map (·.position) = heldInSlotOrder u.pm.holdings
      ∧ ∀ b ∈ v.plan.bursts, b.cells.length = 6 ∧ b.progress = .planned
          ∧ b.beacon = (beaconPosition (u.timing.frameNumber + 1) u.pm.holdings == some b.position)
          ∧ (b.beacon = true → b.cells.head? = some
              (.beacon u.cfg.number u.show_.state u.show_.session u.show_.clock (heldInSlotOrder u.pm.holdings)
                ((u.timing.frameNumber + 1).setWidth 16))) := by
  rw [h.plan_eq, State.planNow_bursts, State.placesNow, ready.beaconAt, ready.beaconNow, ready.holdings]
  exact ⟨burstsFrom_positions _ _ _, burstsFrom_spec _ _⟩

theorem occupiesSlot_iff (a : Activity) : a.occupiesSlot = true ↔ a = .sending ∨ a = .gap ∨ a = .gapDone := by
  cases a <;> simp [Activity.occupiesSlot]

/-- The tuning that comes with a composition (R75). -/
theorem Composed.tuning (ready : ReadyToCompose u w) (h : Composed w v) :
    (u.pm.holdings = [] ∨ u.radio.activity = .sending ∨ u.radio.activity = .gap ∨ u.radio.activity = .gapDone →
      v.radio = u.radio)
    ∧ (∀ p, (heldInSlotOrder u.pm.holdings).head? = some p → u.radio.activity = .idle ∨ u.radio.activity = .skipped →
        v.radio = if u.radio.tuned = some p.carrier then u.radio else u.radio.tune u.timing.localTime p.carrier) := by
  rw [h.radio, ← ready.radio, ← ready.holdings, ← occupiesSlot_iff]
  refine ⟨fun kept => State.compose_radio_of_kept kept, fun p first free => ?_⟩
  have time : w.timing.localTime = u.timing.localTime := by
    rw [ready.timing]
    rfl
  rw [← time]
  refine State.compose_radio_of_free first ?_
  obtain idle | skipped := free
  · rw [idle]
    rfl
  · rw [skipped]
    rfl

/-- Cues built, clips moved on, and the event of a clip that came late (R33, R52, R62). -/
theorem Composed.contents (ready : ReadyToCompose u w) (h : Composed w v) :
    v.cues = (u.cues.progress u.show_.state u.show_.clock (u.timing.frameNumber + 1)).built (u.timing.frameNumber + 1)
      ∧ v.clips = (u.clips.progress u.show_).store
      ∧ ((u.clips.progress u.show_).late = true → v.link.has .lateClip = true) := by
  rw [h.cues, h.clips, h.link, State.compose_frame, ← ready.cuesNow, ← ready.clipsNow, ← ready.frameNumber]
  refine ⟨rfl, rfl, fun late => ?_⟩
  change (if w.clipsNow.late then w.link.raise .lateClip else w.link).has .lateClip = true
  rw [if_pos late, ShowLink.has_raise]
  simp

/-- The cells placed, FILL behind them; the acknowledgements left; the blocks dropped (R66, R69, R70). -/
theorem Composed.cells (ready : ReadyToCompose u w) (h : Composed w v) (distinct : (u.pm.holdings.map (·.position)).Nodup)
    {placed : List (List Cell)}
    (hplaced : placed = itemsPlaced (6 * u.pm.holdings.length - 1) (itemsOffered u.show_ (u.timing.frameNumber + 1)
      (u.clips.progress u.show_).audio u.roster.acks
      (u.cues.progress u.show_.state u.show_.clock (u.timing.frameNumber + 1)))) :
    v.plan.bursts.flatMap (fun b => if b.beacon then b.cells.tail else b.cells)
        = placed.flatten ++ List.replicate (6 * u.pm.holdings.length - 1 - placed.flatten.length) .fill
      ∧ v.roster.acks = u.roster.acks.drop (6 * (placed.flatten.filter Cell.isAck).length)
      ∧ v.plan.underrun = bumpBy (if u.pm.holdings = [] then (u.clips.progress u.show_).audio.length else 0)
          u.plan.underrun := by
  rw [← ready.holdings] at distinct
  have free := State.freePlaces_placesNow distinct
  have placed_ : placed = w.placedNow := by
    rw [hplaced, State.placedNow, free, ← State.itemsOffered_eq, ready.holdings, ready.show_, ready.frameNumber,
      ready.clipsNow, ready.acks, ready.cuesNow]
  refine ⟨?_, ?_, ?_⟩
  · have cells := burstsFrom_cells (itemsPlaced_length_le (freePlaces w.placesNow)
      (w.offeredBefore ++ ackItems w.roster.acks.length w.roster.acks ++ w.offeredAfter))
    rw [h.plan_eq, State.planNow_bursts, placed_, ← ready.holdings, ← free]
    exact cells
  · rw [h.roster, State.compose_frame, placed_, ← ready.acks]
    exact w.draftAcks_left
  · rw [h.plan_eq, State.planNow, State.draftAudio_dropped distinct, ready.holdings, ready.clipsNow, ready.plan]

end

/-- Settles O21: the plan and what is placed in it, then the progress of the clips case by case. -/
theorem compositionPlansOneBurstPerHolding : Obligations.CompositionPlansOneBurstPerHolding := by
  refine ⟨fun dt r s u f cues clip placed hu reached joined sounding hf hcues hclip hplaced =>
      ⟨fun first => ?composed, fun releasesFirst zero steps => ?released⟩,
    fun f held => ⟨heldInSlotOrder_perm held, heldInSlotOrder_sorted held, beaconPosition_eq_none_iff f held,
      fun p found => beaconPosition_spec f held found⟩,
    fun show_ s => ⟨ClipStore.progress_of_still show_ s, fun going started supplied hstarted hsupplied =>
      ClipStore.progress_of_advancing show_ s going hstarted hsupplied⟩,
    fun t s => ⟨ClipStore.retain_eq t s, ClipStore.passing_eq t s, ClipStore.givingUp_eq t s⟩,
    fun show_ t i n again s cut c hcut => ?start, fun t i s ended cur c advanced current found started hended hadvanced =>
      ?supply,
    fun t i s none_ => ClipStore.supplyEngine_of_none none_, fun show_ t s start supply hstart hsupply => ?parts,
    fun show_ s bound e eligible heligible => ⟨ClipStore.chooseNext_of_nothing, fun load ended => ?chosen,
      fun i _ => ClipStore.rechoose_engine i⟩⟩
  case composed =>
    subst hf hcues hclip
    obtain ⟨w, ready, composed⟩ := State.frameBoundary_composes reached joined sounding first
    obtain ⟨positions, bursts⟩ := composed.bursts ready
    obtain ⟨kept, tuned⟩ := composed.tuning ready
    obtain ⟨cues, clips, late⟩ := composed.contents ready
    refine ⟨_, exec_of_effect hu rfl, ?_⟩
    simp only [finish_plan, finish_radio, finish_cues, finish_clips, finish_has, finish_roster]
    exact ⟨positions, bursts, kept, tuned, cues, clips, late, fun distinct => composed.cells ready distinct hplaced⟩
  case released =>
    subst releasesFirst
    refine ⟨_, exec_of_effect hu rfl, ?_⟩
    rw [finish_plan, finish_pm]
    exact State.frameBoundary_releases reached joined sounding zero steps
  case start =>
    have cut_ : cut = s.cut i := by
      subst hcut
      unfold ClipStore.cut
      cases (s.engines.get i).current <;> rfl
    rw [cut_]
    exact ⟨ClipStore.startEngine_of_none again n, fun next => ⟨ClipStore.startEngine_of_ahead again n next,
      ClipStore.startEngine_of_ready again n next, ClipStore.startEngine_of_loading again n next,
      ClipStore.startEngine_of_late n next⟩⟩
  case supply =>
    subst hended hadvanced
    rw [ClipStore.supplyEngine_of_current current found started]
    refine ⟨fun low high => (if_neg (by omega)).trans (if_neg (by omega)), fun behind inside =>
      (if_neg (by omega)).trans ((if_pos behind).trans (if_pos inside)), fun behind past =>
      (if_neg (by omega)).trans ((if_pos behind).trans (if_neg (by omega))), fun ahead => if_pos ahead⟩
  case parts =>
    subst hstart hsupply
    exact ⟨ClipStore.starting_eq show_ t s, ClipStore.supply_eq t s⟩
  case chosen =>
    have waiting (c : Clip) : eligible c ↔ c ∈ s.waiting bound e := by rw [heligible, ClipStore.mem_waiting_iff]
    rw [ClipStore.chooseNext_of_show load ended]
    refine ⟨?_, fun c first => ⟨(waiting c).2 (mem_of_firstBy first), fun d hd =>
      firstBy_least (rank := Clip.start) (fun _ _ => rfl) first d ((waiting d).1 hd)⟩⟩
    have some_ := isSome_firstBy (fun a b : Clip => a.start < b.start) (s.waiting bound e)
    rw [← Option.isNone_iff_eq_none, ← Option.not_isSome, some_, Bool.not_not, List.isEmpty_iff, List.eq_nil_iff_forall_not_mem]
    exact forall_congr' fun c => not_congr (waiting c).symm

end Sys2Proof.Machine
